-- ==== Sys2Proof/Word.lean ====
section
/-! DEFINITION. The word types of the JT-4400 and their plainest arithmetic (spec 00, Conventions; 12). -/

namespace Sys2Proof

/-- One byte of a record that crosses a port (12). -/
abbrev Byte := BitVec 8

/-- A tick value of node time, which wraps at 2^32 (00, Conventions; R1). -/
abbrev Tick := BitVec 32

/-- A beat counter value (R5). -/
abbrev Beat := BitVec 32

/-- A 32-bit period number (R9). -/
abbrev Period := BitVec 32

/-- A flow tag field (12.2, bits 13–0). -/
abbrev Tag := BitVec 14

/-- A modem key (03, 3.1). -/
abbrev Key := BitVec 16

/-- A station number, 0 to 7 (00, Names). -/
abbrev StationNo := BitVec 3

/-- A burst profile index, P0 to P15. -/
abbrev ProfileIx := BitVec 4

/-- An upstream channel, UC0 to UC3. -/
abbrev Chan := Fin 4

/-- A class of service, 0 to 3, class 0 served first. -/
abbrev ServiceClass := Fin 4

/-- Tick `t` is before tick `u` when `(u − t) mod 2^32` lies in 1 to 2^31 − 1 (00, Conventions). -/
def before (t u : Tick) : Bool :=
  0 < (u - t).toNat && (u - t).toNat < 2147483648

/-- How many ticks counting takes from `now` to `t`. -/
def ahead (now t : Tick) : Nat := (t - now).toNat

/-- Add to a statistics counter, which is 32 bits wide and saturates (00, Numbers). -/
def bump (n k : Nat) : Nat := min (n + k) 4294967295

/-- Division rounded up; 0 for a divisor of 0. -/
def ceilDiv (a b : Nat) : Nat := (a + b - 1) / b

/-- Four things of one kind: one per channel, or one per class. -/
structure Quad (α : Type) where
  q0 : α
  q1 : α
  q2 : α
  q3 : α
  deriving DecidableEq, Repr

def Quad.get {α : Type} (q : Quad α) (i : Fin 4) : α :=
  match i with
  | 0 => q.q0
  | 1 => q.q1
  | 2 => q.q2
  | 3 => q.q3

def Quad.set {α : Type} (q : Quad α) (i : Fin 4) (a : α) : Quad α :=
  match i with
  | 0 => { q with q0 := a }
  | 1 => { q with q1 := a }
  | 2 => { q with q2 := a }
  | 3 => { q with q3 := a }

/-- The same thing in every place. -/
def Quad.all {α : Type} (a : α) : Quad α := ⟨a, a, a, a⟩

/-- The four indexes, UC0 first. -/
def quadIndexes : List (Fin 4) := [0, 1, 2, 3]

end Sys2Proof
end

