-- ==== Sys2Proof/Config.lean ====
section
/-! DEFINITION. The fixed numbers of the part (spec 00, Fixed Numbers) and the free values (logs 4, 11). -/

namespace Sys2Proof.Config

/-- FREE VALUE (log 4): the choice the part makes where the spec gives no order.
The n-th draw picks the element at `freeChoice n` modulo the number of candidates. -/
opaque freeChoice : Nat → Nat

/-- FREE VALUE (log 11): the n-th value the spec does not state. -/
opaque freeWord : Nat → BitVec 32

abbrev ticksPerBeat : Nat := 65536
abbrev modemRecords : Nat := 4096
abbrev flowRecords : Nat := 8192
abbrev flowsPerModem : Nat := 16
abbrev mapEntries : Nat := 240
abbrev requestQueue : Nat := 4
abbrev pendingEntries : Nat := 1024
abbrev pendingPerFlow : Nat := 4
abbrev transmitQueue : Nat := 64
abbrev sharedHolds : Nat := 256
abbrev localHolds : Nat := 256
abbrev outputQueue : Nat := 4
abbrev faultRing : Nat := 16
abbrev trailEntries : Nat := 4
abbrev attentionQueue : Nat := 64
abbrev arrivalQueue : Nat := 32
abbrev maxBytes : Nat := 1048575
abbrev maxTurn : Nat := 16383
abbrev maxElapsed : Nat := 65535
abbrev maxScore : Nat := 200
abbrev maxLifetime : Nat := 65535
abbrev listenSpan : Nat := 2097152
abbrev presenceInterval : Nat := 262144
abbrev absenceLimit : Nat := 786432
abbrev lossCount : Nat := 5

end Sys2Proof.Config
end

