-- ==== Sys2Proof/Syntax.lean ====
section
/-! DEFINITION. The records that cross the ports, field by field as chapter 12 lays them out, and the
commands of the block: one constructor of `Instr` per row of spec/opcode_table.json. -/

namespace Sys2Proof

/-- A bid record (R53, 12.2). -/
structure BidRecord where
  chan : Chan
  period : BitVec 16
  tag : Tag
  bytes : BitVec 16
  deriving DecidableEq, Repr

/-- An outcome report (R133, 12.2): `result` is the raw two-bit field. -/
structure OutcomeReport where
  chan : Chan
  period : BitVec 16
  slot : BitVec 11
  result : BitVec 2
  used : BitVec 14
  corrected : BitVec 10
  uncorrectable : BitVec 10
  margin : BitVec 6
  tailPresent : Bool
  tail : BitVec 16
  deriving DecidableEq, Repr

/-- A window tally (R140, 12.2): `join` is the window kind bit, 0 for BID and 1 for JOIN. -/
structure WindowTally where
  chan : Chan
  period : BitVec 16
  join : Bool
  length : BitVec 9
  singles : BitVec 9
  collisions : BitVec 9
  empties : BitVec 9
  deriving DecidableEq, Repr

/-- An arrival record (R141, 12.2). -/
structure ArrivalRecord where
  chan : Chan
  margin : BitVec 6
  identity : BitVec 48
  deriving DecidableEq, Repr

/-- A peer notice without its sender, rank by rank (07, 7.1; 12.3). -/
inductive Notice where
  | takeHold (tag : Tag) (bytes : BitVec 16) (key : Key) (start stop : Tick)
  | take (tag : Tag) (bytes : BitVec 16)
  | give (tag : Tag) (bytes : BitVec 16)
  | bid (tag : Tag) (bytes : BitVec 16)
  | presence (serving : Bool)
  deriving DecidableEq, Repr

/-- The channel part of the start record (12.5). -/
structure ChannelPart where
  enabled : Bool
  backoffStart : BitVec 4
  backoffEnd : BitVec 4
  epoch : Tick
  slotTicks : BitVec 16
  periodSlots : BitVec 16
  q : BitVec 16
  wMin : BitVec 16
  wMax : BitVec 16
  joinSlots : BitVec 8
  joinEvery : BitVec 8
  deriving DecidableEq, Repr

/-- The profile part of the start record (12.5; 02, 2.1). -/
structure ProfilePart where
  preamble : BitVec 16
  bitsPerSymbol : BitVec 8
  k : BitVec 8
  p : BitVec 8
  shortening : Bool
  guardSymbols : BitVec 8
  maxTurn : BitVec 16
  deriving DecidableEq, Repr

/-- The start record (12.5). -/
structure StartRecord where
  buildLead : BitVec 32
  deliverLead : BitVec 32
  minGrant : BitVec 16
  reportWait : BitVec 32
  staleLimit : BitVec 32
  t1 : BitVec 8
  t2 : BitVec 8
  t3 : BitVec 8
  recover : BitVec 8
  floor : BitVec 6
  channels : Quad ChannelPart
  profiles : Vector ProfilePart 16
  deriving DecidableEq, Repr

/-- The ADMIT FLOW body (12.4). -/
structure AdmitFlow where
  tag : Tag
  key : Key
  cadence : Bool
  discard : Bool
  cls : ServiceClass
  chanMask : BitVec 4
  spanMask : BitVec 8
  rate : BitVec 16
  ceiling : BitVec 32
  maxTurn : BitVec 16
  idleCode : BitVec 8
  cadChan : Chan
  jitter : BitVec 3
  idleLimit : BitVec 6
  interval : BitVec 8
  cadBytes : BitVec 16
  phase : BitVec 16
  deriving DecidableEq, Repr

/-- A command frame as it follows the direction byte 01h (12.4). -/
structure CommandFrame where
  code : Byte
  length : BitVec 16
  body : List Byte
  check : BitVec 16
  deriving DecidableEq, Repr

/-- The commands of the block, in the order of spec/opcode_table.json.
A deadline's command names the deadline that falls: a channel and a period, or a tick (log 2). -/
inductive Instr where
  | hardReset (straps : StationNo)
  | timeWord (stated : Tick) (check : BitVec 16)
  | beatEvent (t : Tick)
  | buildStart (c : Chan) (n : Period)
  | deliverDeadline (c : Chan) (n : Period)
  | periodStart (c : Chan) (n : Period)
  | listenEnd (t : Tick)
  | pendingExpiry (t : Tick)
  | localHoldEnd (t : Tick)
  | sharedHoldEnd (t : Tick)
  | presenceTimer (t : Tick)
  | absenceTick (k : StationNo) (t : Tick)
  | bidRecord (r : BidRecord)
  | outcomeReport (r : OutcomeReport)
  | windowTally (r : WindowTally)
  | arrivalRecord (r : ArrivalRecord)
  | burstRecordDiscard (kind : Byte) (endedEarly : Bool)
  | plannerTakesRequest (upTo : Option Nat)
  | buildEnd
  | framerTakesMap
  | contentionDecided (others : List (BitVec 6)) (joined : Bool)
  | transmissionEnd (heard : List Byte)
  | sweepStepBegin
  | sweepStepCompletion
  | commandBusy
  | responseRead (bytes : Nat)
  | malformedFrame
  | badDirectionByte (b : Byte)
  | badCommandFrame (f : CommandFrame)
  | loadStart (r : StartRecord)
  | restart
  | admitModem (key : Key) (single : Bool) (normal fallback : ProfileIx)
  | removeModem (key : Key)
  | pinModem (key : Key) (pin : BitVec 2)
  | readModem (key : Key)
  | admitFlow (f : AdmitFlow)
  | removeFlow (tag : Tag)
  | reviveFlow (tag : Tag)
  | readFlow (tag : Tag)
  | readChannel (channel : Byte)
  | readPeers
  | readStatus
  | readFaults (asked : BitVec 32)
  | clearFaults
  | takeAttention
  | takeArrivals
  | setEventMask (causes : Byte)
  | sweepRestart
  deriving DecidableEq, Repr

end Sys2Proof
end

