-- ==== Sys2Proof/Machine/Operands.lean ====
section
/-! DEFINITION. The operand forms: the layouts of chapter 12, read and written, and the check of R175. -/

namespace Sys2Proof.Machine

/-! ### Bytes and bit fields (12: most significant byte first) -/

def byteOf (n : Nat) : Byte := BitVec.ofNat 8 n

def be2 (n : Nat) : List Byte := [byteOf (n / 256), byteOf n]

def be4 (n : Nat) : List Byte :=
  [byteOf (n / 16777216), byteOf (n / 65536), byteOf (n / 256), byteOf n]

def be6 (n : Nat) : List Byte := be2 (n / 4294967296) ++ be4 (n % 4294967296)

/-- The byte at an offset of a record; 0 past its end. -/
def byteAt (bs : List Byte) (i : Nat) : Nat := (bs.getD i 0).toNat

def word2 (bs : List Byte) (i : Nat) : Nat := byteAt bs i * 256 + byteAt bs (i + 1)

def word4 (bs : List Byte) (i : Nat) : Nat := word2 bs i * 65536 + word2 bs (i + 2)

def word6 (bs : List Byte) (i : Nat) : Nat := word2 bs i * 4294967296 + word4 bs (i + 2)

/-- A two-bit channel or class field, taken from the two low bits of `n`. -/
def chanOf (n : Nat) : Fin 4 := ⟨n % 4, Nat.mod_lt _ (by decide)⟩

def bitOf (b : Bool) : Nat := if b then 1 else 0

/-! ### The check (R175) -/

def crcBit (r : BitVec 16) : BitVec 16 :=
  if r.getLsbD 15 then (r <<< 1) ^^^ 0x1021#16 else r <<< 1

/-- One byte into the remainder, most significant bit first. -/
def crcByte (r : BitVec 16) (b : Byte) : BitVec 16 :=
  crcBit (crcBit (crcBit (crcBit (crcBit (crcBit (crcBit (crcBit
    (r ^^^ (b.zeroExtend 16 <<< 8)))))))))

/-- The check over the bytes that stand before the check field (R175). -/
def crc16 (bs : List Byte) : BitVec 16 := bs.foldl crcByte 0xFFFF#16

/-- A record with its check in its last two bytes. -/
def withCheck (bs : List Byte) : List Byte := bs ++ be2 (crc16 bs).toNat

/-! ### The time word (12.3, R2) -/

/-- A time word is valid when its check agrees and it states a beat boundary (R2). -/
def timeWordValid (stated : Tick) (check : BitVec 16) : Bool :=
  check == crc16 (be4 stated.toNat) && stated.toNat % Config.ticksPerBeat == 0

/-- The command of the six bytes of a time word; further bytes are ignored, and missing ones read as 0
(log 50). -/
def timeWordOf (bs : List Byte) : Instr :=
  .timeWord (BitVec.ofNat 32 (word4 bs 0)) (BitVec.ofNat 16 (word2 bs 4))

/-! ### Burst Report Port records (12.2, R176) -/

def bidRecordOf (bs : List Byte) : BidRecord where
  chan := chanOf (byteAt bs 1 / 64)
  period := BitVec.ofNat 16 (word2 bs 2)
  tag := BitVec.ofNat 14 (word2 bs 4)
  bytes := BitVec.ofNat 16 (word2 bs 6)

def outcomeReportOf (bs : List Byte) : OutcomeReport where
  chan := chanOf (byteAt bs 1 / 64)
  period := BitVec.ofNat 16 (word2 bs 2)
  slot := BitVec.ofNat 11 (word2 bs 4)
  result := BitVec.ofNat 2 (byteAt bs 1)
  used := BitVec.ofNat 14 (word2 bs 6)
  corrected := BitVec.ofNat 10 (word2 bs 8)
  uncorrectable := BitVec.ofNat 10 (word2 bs 10)
  margin := BitVec.ofNat 6 (byteAt bs 12)
  tailPresent := (byteAt bs 1).testBit 2
  tail := BitVec.ofNat 16 (word2 bs 14)

def windowTallyOf (bs : List Byte) : WindowTally where
  chan := chanOf (byteAt bs 1 / 64)
  period := BitVec.ofNat 16 (word2 bs 2)
  join := (byteAt bs 1).testBit 0
  length := BitVec.ofNat 9 (word2 bs 4)
  singles := BitVec.ofNat 9 (word2 bs 6)
  collisions := BitVec.ofNat 9 (word2 bs 8)
  empties := BitVec.ofNat 9 (word2 bs 10)

def arrivalRecordOf (bs : List Byte) : ArrivalRecord where
  chan := chanOf (byteAt bs 1 / 64)
  margin := BitVec.ofNat 6 (byteAt bs 1)
  identity := BitVec.ofNat 48 (word6 bs 2)

/-- The length of a record by its kind byte; none for a kind that R176 discards. -/
def burstLength (kind : Nat) : Option Nat :=
  match kind with
  | 1 => some 8
  | 2 => some 16
  | 3 => some 12
  | 4 => some 8
  | _ => none

/-- A record that R176 discards: a kind byte other than 01h to 04h, or an end before the record's length. -/
def burstDiscarded (kind : Byte) (endedEarly : Bool) : Bool :=
  endedEarly || (burstLength kind.toNat).isNone

/-- The command of the bytes that arrive at the Burst Report Port as one record (R176). Bytes past the length
of the record's kind, before the link marks its end, are ignored (log 50). -/
def burstCommand (bs : List Byte) : Instr :=
  match burstLength (byteAt bs 0) with
  | none => .burstRecordDiscard (byteOf (byteAt bs 0)) false
  | some n =>
    if bs.length < n then .burstRecordDiscard (byteOf (byteAt bs 0)) true
    else match byteAt bs 0 with
      | 1 => .bidRecord (bidRecordOf bs)
      | 2 => .outcomeReport (outcomeReportOf bs)
      | 3 => .windowTally (windowTallyOf bs)
      | _ => .arrivalRecord (arrivalRecordOf bs)

def bidRecordBytes (r : BidRecord) : List Byte :=
  [1, byteOf (r.chan.val * 64)] ++ be2 r.period.toNat ++ be2 r.tag.toNat ++ be2 r.bytes.toNat

def outcomeReportBytes (r : OutcomeReport) : List Byte :=
  [2, byteOf (r.chan.val * 64 + bitOf r.tailPresent * 4 + r.result.toNat)] ++ be2 r.period.toNat
    ++ be2 r.slot.toNat ++ be2 r.used.toNat ++ be2 r.corrected.toNat ++ be2 r.uncorrectable.toNat
    ++ [byteOf r.margin.toNat, 0] ++ be2 r.tail.toNat

def windowTallyBytes (r : WindowTally) : List Byte :=
  [3, byteOf (r.chan.val * 64 + bitOf r.join)] ++ be2 r.period.toNat ++ be2 r.length.toNat
    ++ be2 r.singles.toNat ++ be2 r.collisions.toNat ++ be2 r.empties.toNat

def arrivalRecordBytes (r : ArrivalRecord) : List Byte :=
  [4, byteOf (r.chan.val * 64 + r.margin.toNat)] ++ be6 r.identity.toNat

/-- The tail bid a report carries: none without the present bit or with a field of 0 (R176). -/
def tailBid (r : OutcomeReport) : Option Nat :=
  if r.tailPresent && r.tail.toNat != 0 then some r.tail.toNat else none

/-! ### Peer notices (12.3) -/

/-- The rank of a notice (07, 7.1). -/
def noticeRank : Notice → Nat
  | .takeHold .. => 0
  | .take .. => 1
  | .give .. => 2
  | .bid .. => 3
  | .presence _ => 4

/-- The arbitration field: the rank, then the station number (R112, 12.3). -/
def arbitrationField (station : StationNo) (n : Notice) : BitVec 6 :=
  BitVec.ofNat 6 (noticeRank n * 8 + station.toNat)

def noticeHead (station : StationNo) (n : Notice) : Byte :=
  byteOf (noticeRank n * 32 + station.toNat * 4)

/-- The notice as it is sent, with its check (12.3). -/
def noticeBytes (station : StationNo) (n : Notice) : List Byte :=
  withCheck (noticeHead station n :: match n with
    | .takeHold tag b key a z =>
      be2 tag.toNat ++ be2 b.toNat ++ be2 key.toNat ++ be4 a.toNat ++ be4 z.toNat
    | .take tag b => be2 tag.toNat ++ be2 b.toNat
    | .give tag b => be2 tag.toNat ++ be2 b.toNat
    | .bid tag b => be2 tag.toNat ++ be2 b.toNat
    | .presence serving => [if serving then 2 else 1])

/-- The length a notice of a rank has; none for ranks 5 to 7 (R175, 12.3). -/
def noticeLength (rank : Nat) : Option Nat :=
  match rank with
  | 0 => some 17
  | 1 => some 7
  | 2 => some 7
  | 3 => some 7
  | 4 => some 4
  | _ => none

/-- The check of a heard notice agrees: right length for its rank, right code (R175). -/
def noticeChecks (bs : List Byte) : Bool :=
  noticeLength (byteAt bs 0 / 32) == some bs.length
    && BitVec.ofNat 16 (word2 bs (bs.length - 2)) == crc16 (bs.take (bs.length - 2))

/-- The sender and the notice of the bytes heard; none when R175 fails the notice. -/
def noticeOf (bs : List Byte) : Option (StationNo × Notice) :=
  if noticeChecks bs then
    let sender := BitVec.ofNat 3 (byteAt bs 0 / 4)
    let tag : Tag := BitVec.ofNat 14 (word2 bs 1)
    let b : BitVec 16 := BitVec.ofNat 16 (word2 bs 3)
    match byteAt bs 0 / 32 with
    | 0 => some (sender, .takeHold tag b (BitVec.ofNat 16 (word2 bs 5))
        (BitVec.ofNat 32 (word4 bs 7)) (BitVec.ofNat 32 (word4 bs 11)))
    | 1 => some (sender, .take tag b)
    | 2 => some (sender, .give tag b)
    | 3 => some (sender, .bid tag b)
    | _ =>
      match byteAt bs 1 with
      | 1 => some (sender, .presence false)
      | 2 => some (sender, .presence true)
      | _ => none
  else none

/-! ### Management frames (12.4, R177, R178) -/

/-- The body length each command requires; none for a code that names no command (R178). -/
def requiredLength (code : Nat) : Option Nat :=
  match code with
  | 0x01 => some 256
  | 0x02 => some 0
  | 0x03 => some 4
  | 0x04 => some 2
  | 0x05 => some 3
  | 0x06 => some 2
  | 0x07 => some 22
  | 0x08 => some 2
  | 0x09 => some 2
  | 0x0A => some 2
  | 0x0B => some 1
  | 0x0C => some 0
  | 0x0D => some 0
  | 0x0E => some 4
  | 0x0F => some 0
  | 0x10 => some 0
  | 0x11 => some 0
  | 0x12 => some 1
  | 0x13 => some 0
  | _ => none

/-- The bytes of a frame before its check. -/
def frameBytes (f : CommandFrame) : List Byte := f.code :: be2 f.length.toNat ++ f.body

/-- The offset that BAD_FIELD names for a frame refused by check 1 or 2 of R167 or by its length
(R177), in that order; none for a frame that passes. -/
def frameFault (f : CommandFrame) : Option Nat :=
  if f.check != crc16 (frameBytes f) then some (3 + f.length.toNat)
  else match requiredLength f.code.toNat with
    | none => some 0
    | some n => if n = f.length.toNat then none else some 1

/-- The frame that the bytes after the direction byte 01h complete; none when the write ends early.
Bytes past the frame are ignored (R177). -/
def frameOf (bs : List Byte) : Option CommandFrame :=
  let n := word2 bs 1
  if bs.length < n + 5 then none
  else some
    { code := byteOf (byteAt bs 0), length := BitVec.ofNat 16 n, body := (bs.drop 3).take n,
      check := BitVec.ofNat 16 (word2 bs (n + 3)) }

def channelPartOf (bs : List Byte) : ChannelPart where
  enabled := (byteAt bs 0).testBit 7
  backoffStart := BitVec.ofNat 4 (byteAt bs 1 / 16)
  backoffEnd := BitVec.ofNat 4 (byteAt bs 1)
  epoch := BitVec.ofNat 32 (word4 bs 2)
  slotTicks := BitVec.ofNat 16 (word2 bs 6)
  periodSlots := BitVec.ofNat 16 (word2 bs 8)
  q := BitVec.ofNat 16 (word2 bs 10)
  wMin := BitVec.ofNat 16 (word2 bs 12)
  wMax := BitVec.ofNat 16 (word2 bs 14)
  joinSlots := BitVec.ofNat 8 (byteAt bs 16)
  joinEvery := BitVec.ofNat 8 (byteAt bs 17)

def profilePartOf (bs : List Byte) : ProfilePart where
  preamble := BitVec.ofNat 16 (word2 bs 0)
  bitsPerSymbol := BitVec.ofNat 8 (byteAt bs 2)
  k := BitVec.ofNat 8 (byteAt bs 3)
  p := BitVec.ofNat 8 (byteAt bs 4)
  shortening := (byteAt bs 5).testBit 0
  guardSymbols := BitVec.ofNat 8 (byteAt bs 6)
  maxTurn := BitVec.ofNat 16 (word2 bs 7)

/-- The LOAD START body: station part, four channel parts, sixteen profile parts (12.5). -/
def startRecordOf (bs : List Byte) : StartRecord where
  buildLead := BitVec.ofNat 32 (word4 bs 0)
  deliverLead := BitVec.ofNat 32 (word4 bs 4)
  minGrant := BitVec.ofNat 16 (word2 bs 8)
  reportWait := BitVec.ofNat 32 (word4 bs 10)
  staleLimit := BitVec.ofNat 32 (word4 bs 14)
  t1 := BitVec.ofNat 8 (byteAt bs 18)
  t2 := BitVec.ofNat 8 (byteAt bs 19)
  t3 := BitVec.ofNat 8 (byteAt bs 20)
  recover := BitVec.ofNat 8 (byteAt bs 21)
  floor := BitVec.ofNat 6 (byteAt bs 22)
  channels :=
    { q0 := channelPartOf (bs.drop 24), q1 := channelPartOf (bs.drop 42),
      q2 := channelPartOf (bs.drop 60), q3 := channelPartOf (bs.drop 78) }
  profiles := Vector.ofFn fun i => profilePartOf (bs.drop (96 + 10 * i.val))

def admitFlowOf (bs : List Byte) : AdmitFlow where
  tag := BitVec.ofNat 14 (word2 bs 0)
  key := BitVec.ofNat 16 (word2 bs 2)
  cadence := (byteAt bs 4).testBit 7
  discard := (byteAt bs 4).testBit 6
  cls := chanOf (byteAt bs 4 / 16)
  chanMask := BitVec.ofNat 4 (byteAt bs 4)
  spanMask := BitVec.ofNat 8 (byteAt bs 5)
  rate := BitVec.ofNat 16 (word2 bs 6)
  ceiling := BitVec.ofNat 32 (word4 bs 8)
  maxTurn := BitVec.ofNat 16 (word2 bs 12)
  idleCode := BitVec.ofNat 8 (byteAt bs 14)
  cadChan := chanOf (byteAt bs 15 / 64)
  jitter := BitVec.ofNat 3 (byteAt bs 15)
  idleLimit := BitVec.ofNat 6 (byteAt bs 16)
  interval := BitVec.ofNat 8 (byteAt bs 17)
  cadBytes := BitVec.ofNat 16 (word2 bs 18)
  phase := BitVec.ofNat 16 (word2 bs 20)

/-- The command that a frame passing `frameFault` holds (11.2, 12.4, R178). -/
def commandOf (f : CommandFrame) : Instr :=
  let bs := f.body
  let key : Key := BitVec.ofNat 16 (word2 bs 0)
  let tag : Tag := BitVec.ofNat 14 (word2 bs 0)
  match f.code.toNat with
  | 0x01 => .loadStart (startRecordOf bs)
  | 0x02 => .restart
  | 0x03 => .admitModem key ((byteAt bs 2).testBit 0) (BitVec.ofNat 4 (byteAt bs 3 / 16))
      (BitVec.ofNat 4 (byteAt bs 3))
  | 0x04 => .removeModem key
  | 0x05 => .pinModem key (BitVec.ofNat 2 (byteAt bs 2))
  | 0x06 => .readModem key
  | 0x07 => .admitFlow (admitFlowOf bs)
  | 0x08 => .removeFlow tag
  | 0x09 => .reviveFlow tag
  | 0x0A => .readFlow tag
  | 0x0B => .readChannel (byteOf (byteAt bs 0))
  | 0x0C => .readPeers
  | 0x0D => .readStatus
  | 0x0E => .readFaults (BitVec.ofNat 32 (word4 bs 0))
  | 0x0F => .clearFaults
  | 0x10 => .takeAttention
  | 0x11 => .takeArrivals
  | 0x12 => .setEventMask (byteOf (byteAt bs 0))
  | 0x13 => .sweepRestart
  | _ => .badCommandFrame f

/-- The command of one SPI transaction, given whether the slot was ANSWERED at its start
(R166, R177); none for a transaction of no bytes. A write that ends early is a malformed frame also while the
slot is ANSWERED, and no BUSY refusal (log 49). -/
def transactionCommand (answered : Bool) (bs : List Byte) : Option Instr :=
  match bs with
  | [] => none
  | d :: rest =>
    if d = 2 then some (.responseRead rest.length)
    else if d = 1 then
      match frameOf rest with
      | none => some .malformedFrame
      | some f =>
        if answered then some .commandBusy
        else match frameFault f with
          | some _ => some (.badCommandFrame f)
          | none => some (commandOf f)
    else some (.badDirectionByte d)

end Sys2Proof.Machine
end

