-- ==== Sys2Proof/Decode.lean ====
section
/-! DEFINITION. The host's decodeTableWord over the rows of spec/opcode_table.json that give bits. -/

namespace Sys2Proof

/-- No row of spec/opcode_table.json gives bits ("fields" is empty in all 48), so no word spells a
command. The records and frames of chapter 12 are read in Machine/Operands.lean. -/
def decodeTableWord (nbits w : Nat) : Option Instr :=
  match nbits, w with
  | _, _ => none

end Sys2Proof
end

