-- ==== Sys2Proof/Machine/State.lean ====
section
/-! DEFINITION. The state of one JT-4400 station, block by block (spec 00, Block Overview), and its value after a hard reset. -/

namespace Sys2Proof.Machine

/-! ### Station and Time Unit (01) -/

/-- The life state (R13 to R15). -/
inductive Life where
  | start
  | listen
  | serving
  deriving DecidableEq, Repr

/-- Whether time words are reaching the station (R7). -/
inductive LineState where
  | arriving
  | lost
  deriving DecidableEq, Repr

/-- The Time Unit (01, 1.1). `nextBeat` is the boundary at which counting raises the next beat
event (R5, log 6). -/
structure TimeUnit where
  timed : Bool
  nodeTime : Tick
  beat : Beat
  line : LineState
  watch : Nat
  nextBeat : Tick
  slips : Nat
  lineLosses : Nat
  badWords : Nat
  deriving DecidableEq, Repr

/-- The period clock of a channel (R10). `skips` holds the skipped periods (R12) that the start
stream has still to move past. -/
structure PeriodClock where
  build : Period
  deadline : Period
  start : Period
  skips : List Period
  deriving DecidableEq, Repr

/-! ### Per-channel state (R12, R52, R94, R95, R107, R142) -/

/-- The counters of R52, in the order of its table. -/
structure BidCounters where
  taken : Nat
  malformed : Nat
  foreign : Nat
  applied : Nat
  deferred : Nat
  replaced : Nat
  policyDiscards : Nat
  dormant : Nat
  cadenceIgnored : Nat
  cadenceWakes : Nat
  tailApplied : Nat
  tailDropped : Nat
  bytesLost : Nat
  noticesDropped : Nat
  deriving DecidableEq, Repr

/-- The counters of R95, in the order of its table. -/
structure MapCounters where
  handed : Nat
  delivered : Nat
  missed : Nat
  cut : Nat
  late : Nat
  joinSkipped : Nat
  bidClipped : Nat
  bidAbsent : Nat
  holdsVoid : Nat
  deriving DecidableEq, Repr

/-- The counters of R107, in the order of its table. -/
structure CadenceCounters where
  placed : Nat
  blocked : Nat
  dropped : Nat
  missed : Nat
  sleeps : Nat
  deriving DecidableEq, Repr

/-- The per-channel counters of R142, in the order of its table. -/
structure OutcomeCounters where
  taken : Nat
  malformed : Nat
  strays : Nat
  early : Nat
  received : Nat
  empty : Nat
  errored : Nat
  lost : Nat
  bytesReceived : Nat
  bytesUnused : Nat
  overruns : Nat
  corrected : Nat
  uncorrectable : Nat
  badTallies : Nat
  bidTallies : Nat
  grown : Nat
  shrunk : Nat
  joinTallies : Nat
  joinSingles : Nat
  joinCollisions : Nat
  badArrivals : Nat
  deriving DecidableEq, Repr

/-- What the part keeps for one channel: its period clock, W (none while unset) and its counters. -/
structure Channel where
  clock : Option PeriodClock
  skipped : Nat
  w : Option Nat
  bids : BidCounters
  maps : MapCounters
  cadence : CadenceCounters
  outcomes : OutcomeCounters
  deriving DecidableEq, Repr

/-! ### Flow Store (03) -/

inductive ModemState where
  | active
  | degraded
  deriving DecidableEq, Repr

/-- The host setting that fixes the profile in force (R33). -/
inductive Pin where
  | unset
  | normal
  | fallback
  deriving DecidableEq, Repr

/-- The result of a turn (R133, R137). -/
inductive TurnResult where
  | received
  | empty
  | errored
  | lost
  deriving DecidableEq, Repr

/-- One outcome in a modem's trail (R151). -/
structure TrailEntry where
  result : TurnResult
  tag : Tag
  chan : Chan
  margin : BitVec 6
  deriving DecidableEq, Repr

/-- A modem record in use (03, 3.1). A FREE record is not listed. -/
structure Modem where
  key : Key
  state : ModemState
  single : Bool
  normal : ProfileIx
  fallback : ProfileIx
  pin : Pin
  presence : Nat
  integrity : Nat
  margin : Nat
  trail : List TrailEntry
  flowCount : Nat
  lifetime : Nat
  deriving DecidableEq, Repr

/-- ACTIVE or DORMANT for a bid flow, ACTIVE or SLEEP for a cadence flow (03, 3.2). -/
inductive FlowState where
  | active
  | dormant
  | sleep
  deriving DecidableEq, Repr

/-- The fields a cadence flow has besides (03, 3.2). -/
structure Cadence where
  chan : Chan
  interval : Nat
  bytes : Nat
  phase : Nat
  jitter : Nat
  idleLimit : Nat
  nextDue : Period
  empties : Nat
  deriving DecidableEq, Repr

/-- A flow record in use (03, 3.2). Its kind is CADENCE exactly when `cadence` holds fields.
A FREE record is not listed. -/
structure Flow where
  tag : Tag
  modemIx : Nat
  modemKey : Key
  state : FlowState
  cls : ServiceClass
  chanMask : BitVec 4
  spanMask : BitVec 8
  rate : Nat
  ceiling : Nat
  credit : Nat
  lastBeat : Beat
  outstanding : Nat
  tentative : Nat
  deferred : Option (Nat × Chan)
  discard : Bool
  pendingCount : Nat
  maxTurn : Nat
  idleCode : Nat
  lastActivity : Beat
  lastService : Beat
  overgrant : Nat
  cadence : Option Cadence
  deriving DecidableEq, Repr

/-- A tag map entry that is not FREE (R40). -/
inductive TagState where
  | bound (ix : Nat)
  | draining (orphans : Nat)
  deriving DecidableEq, Repr

/-- The three tables, each a list of index and record, indexes strictly rising. -/
structure FlowStore where
  modems : List (Nat × Modem)
  flows : List (Nat × Flow)
  tagMap : List (Nat × TagState)
  deriving DecidableEq, Repr

/-! ### Turn Planner and Map Output Port (05, 06) -/

inductive EntryKind where
  | data
  | cadence
  | join
  | bid
  deriving DecidableEq, Repr

/-- The fate of a turn's TAKE (R72). -/
inductive Fate where
  | noTake
  | queued
  | inTx
  | standing
  | void
  deriving DecidableEq, Repr

/-- One entry of a turn map (R72). `hold` says that the turn is hold-bearing (R84), `orphan` that
its flow has been removed (R47). -/
structure Entry where
  kind : EntryKind
  start : Nat
  len : Nat
  tag : Tag
  profile : ProfileIx
  bytes : Nat
  fate : Fate
  hold : Bool
  orphan : Bool
  deriving DecidableEq, Repr

/-- The name of a map: its channel and its 32-bit period number (05, 5.1). -/
structure MapName where
  chan : Chan
  period : Period
  deriving DecidableEq, Repr

/-- A turn map past its request: entries in ascending order of start slot. -/
structure TurnMap where
  name : MapName
  entries : List Entry
  cut : Bool
  deriving DecidableEq, Repr

/-- Where the placement of a build stands (R70, R78, R98). -/
inductive Phase where
  | cadence (left : List Tag)
  | joinWindow
  | bidWindow
  | walk (cursor : Nat) (left : List Tag) (classes : List ServiceClass)
  | done
  deriving DecidableEq, Repr

/-- The map under construction, with the W its build read (R70, R72). `barred` says that its data-turn
walk began in LISTEN and places no spanning-active flow (R15, log 40). -/
structure Build where
  map : TurnMap
  w : Nat
  phase : Phase
  barred : Bool
  deriving DecidableEq, Repr

/-- The turn a notice, a hold or a pending entry stands for (R111). -/
structure TurnKey where
  chan : Chan
  period : Period
  slot : Nat
  deriving DecidableEq, Repr

/-- An entry of the local hold list (R83). -/
structure LocalHold where
  key : Key
  start : Tick
  stop : Tick
  turn : TurnKey
  deriving DecidableEq, Repr

structure Planner where
  requests : List MapName
  building : Option Build
  sealing : List TurnMap
  localHolds : List LocalHold
  ready : Quad (List Tag)
  deriving DecidableEq, Repr

structure MapPort where
  queue : List TurnMap
  delivered : List TurnMap
  deriving DecidableEq, Repr

/-! ### Peer Link Unit (07) -/

/-- A notice of this station with its link to its turn (R111). -/
structure Queued where
  notice : Notice
  turn : Option TurnKey
  deriving DecidableEq, Repr

/-- The notice in transmission (R109, R111). `silent` marks one that a RESTART of this station has
outlived: this station does not hear it (R16). -/
structure InTx where
  own : Queued
  withdrawn : Bool
  silent : Bool
  deriving DecidableEq, Repr

/-- What this station knows of the link (R112, R113): with no station sending, its contender if it
has one, and whether that contention opened at the end of a transmission; or a station sending. -/
inductive Medium where
  | idle (contender : Option Queued) (atEnd : Bool)
  | sending
  deriving DecidableEq, Repr

/-- The life state a station last announced (R123). -/
inductive Announced where
  | silent
  | listen
  | serving
  deriving DecidableEq, Repr

structure RosterEntry where
  present : Bool
  announced : Announced
  absence : Option Tick
  deriving DecidableEq, Repr

/-- An entry of the shared hold list (R120). -/
structure SharedHold where
  key : Key
  start : Tick
  stop : Tick
  origin : StationNo
  deriving DecidableEq, Repr

/-- The counters of R128, in the order of its table. -/
structure LinkCounters where
  sent0 : Nat
  sent1 : Nat
  sent2 : Nat
  sent3 : Nat
  sent4 : Nat
  heard : Nat
  corrupt : Nat
  conflicts : Nat
  ignored : Nat
  losses : Nat
  standing : Nat
  void : Nat
  voidFull : Nat
  giveDropped : Nat
  presenceDropped : Nat
  giveLate : Nat
  bytesLost : Nat
  deriving DecidableEq, Repr

/-- `deaf` marks a transmission of another station during which this station took RESTART: it does not
hear that notice, whatever its life state is when the transmission ends (R114). -/
structure Link where
  queue : List Queued
  inTx : Option InTx
  medium : Medium
  deaf : Bool
  roster : Vector RosterEntry 8
  holds : List SharedHold
  presence : Option Tick
  counters : LinkCounters
  deriving DecidableEq, Repr

/-! ### Outcome Tracker (08) -/

/-- A pending entry (R131). `ended` says that node time has passed its end tick, by counting or at a
reload (R1, R134): once passed it stays so, whatever a backward slip does to node time (log 41). -/
structure PendingEntry where
  chan : Chan
  period : BitVec 16
  slot : Nat
  cadence : Bool
  tag : Tag
  modemIx : Nat
  modemKey : Key
  bytes : Nat
  endTick : Tick
  expiry : Tick
  orphan : Bool
  ended : Bool
  deriving DecidableEq, Repr

structure Tracker where
  list : List PendingEntry
  arrivalsDropped : Nat
  deriving DecidableEq, Repr

/-! ### Health Monitor (09) -/

inductive FaultKind where
  | degrade
  | restore
  | staleDiscard
  | cadenceDrop
  | holdVoid
  deriving DecidableEq, Repr

/-- A fault record (R153). -/
structure FaultRecord where
  seq : BitVec 32
  kind : FaultKind
  key : Key
  tag : Tag
  time : Tick
  found : Bool
  presence : Nat
  integrity : Nat
  margin : Nat
  trail : List TrailEntry
  lifetime : Nat
  deriving DecidableEq, Repr

/-- The fault ring, oldest first, and the counters of R152 and R157. -/
structure Health where
  ring : List FaultRecord
  seq : BitVec 32
  replaced : Nat
  scored : Nat
  lost : Nat
  degrades : Nat
  restores : Nat
  appended : Nat
  deriving DecidableEq, Repr

/-! ### Table Sweep (10) -/

inductive SweepState where
  | stopped
  | running
  | suspended
  deriving DecidableEq, Repr

/-- A step in flight, with the flow that held the record when it began (R165). -/
structure SweepStep where
  held : Option Tag
  deriving DecidableEq, Repr

structure Sweep where
  state : SweepState
  cursor : Nat
  step : Option SweepStep
  pass : BitVec 32
  steps : Nat
  staleDiscards : Nat
  staleBytes : Nat
  idleExpiries : Nat
  idleBytes : Nat
  abandoned : Nat
  deriving DecidableEq, Repr

/-! ### Management Port (11) and the port outputs -/

/-- The result codes of a response (R167, 12.4). -/
inductive ResultCode where
  | done
  | busy
  | notServing
  | noRoom
  | unknown
  | duplicate
  | tagDraining
  | badField
  | startError
  deriving DecidableEq, Repr

/-- A response record: the command code it answers, its result and its body (R166, R167). -/
structure Response where
  code : Byte
  result : ResultCode
  body : List Byte
  deriving DecidableEq, Repr

/-- The command slot (R166). -/
inductive Slot where
  | ready
  | answered (r : Response)
  deriving DecidableEq, Repr

inductive AttentionReason where
  | dormantBid
  | stale
  | idleExpired
  deriving DecidableEq, Repr

structure AttentionEntry where
  tag : Tag
  reason : AttentionReason
  deriving DecidableEq, Repr

/-- An entry of the arrival queue (R141). -/
structure ArrivalEntry where
  chan : Chan
  identity : BitVec 48
  margin : BitVec 6
  time : Tick
  deriving DecidableEq, Repr

structure Port where
  slot : Slot
  attention : List AttentionEntry
  arrivals : List ArrivalEntry
  latched : BitVec 7
  mask : BitVec 7
  taken : Nat
  busy : Nat
  malformed : Nat
  attDuplicates : Nat
  attDropped : Nat
  burstDiscards : Nat
  deriving DecidableEq, Repr

/-- What the ports last sent (log 24): the status byte and response frame shifted out on SPI, and
the map record handed to the framer. -/
structure Outputs where
  statusByte : Byte
  response : List Byte
  turnMap : List Byte
  deriving DecidableEq, Repr

/-! ### The whole station -/

structure State where
  life : Life
  station : StationNo
  accepted : Option StartRecord
  listenEnd : Option Tick
  time : TimeUnit
  chans : Quad Channel
  store : FlowStore
  planner : Planner
  mapPort : MapPort
  link : Link
  tracker : Tracker
  health : Health
  sweep : Sweep
  port : Port
  out : Outputs
  free : Nat
  pending : List Instr
  deriving DecidableEq, Repr

/-- Reasons to stop with a fault: none. The spec describes no event that stops the part, so no
meaning raises one, and a run never ends in a fault. -/
inductive Fault where
  deriving DecidableEq, Repr

/-- Reasons to refuse a command. -/
inductive Refusal where
  /-- Raised by exec's arm of a command whose meaning is not written yet. Safe. -/
  | notModelled (mnemonic : String)
  /-- Raised by the meanings of BURST_RECORD_DISCARD, BAD_DIRECTION_BYTE and BAD_COMMAND_FRAME for
  operands that are not such a record, byte or frame, so that the term spells no command of the
  spec (log 27). Safe. -/
  | illFormed (mnemonic : String)
  deriving DecidableEq, Repr

/-! ### Reset values -/

def BidCounters.zero : BidCounters := ⟨0, 0, 0, 0, 0, 0, 0, 0, 0, 0, 0, 0, 0, 0⟩

def MapCounters.zero : MapCounters := ⟨0, 0, 0, 0, 0, 0, 0, 0, 0⟩

def CadenceCounters.zero : CadenceCounters := ⟨0, 0, 0, 0, 0⟩

def OutcomeCounters.zero : OutcomeCounters :=
  ⟨0, 0, 0, 0, 0, 0, 0, 0, 0, 0, 0, 0, 0, 0, 0, 0, 0, 0, 0, 0, 0⟩

/-- A channel after either reset: no clock, W unset, counters 0 (R8, R12, R52, R76, R95, R107, R142). -/
def Channel.reset : Channel where
  clock := none
  skipped := 0
  w := none
  bids := .zero
  maps := .zero
  cadence := .zero
  outcomes := .zero

/-- The Time Unit after hard reset (R8). `nextBeat` is never read while untimed (log 6). -/
def TimeUnit.reset : TimeUnit where
  timed := false
  nodeTime := 0
  beat := 0
  line := .arriving
  watch := 0
  nextBeat := 0
  slips := 0
  lineLosses := 0
  badWords := 0

def FlowStore.reset : FlowStore := ⟨[], [], []⟩

def Planner.reset : Planner := ⟨[], none, [], [], Quad.all []⟩

def MapPort.reset : MapPort := ⟨[], []⟩

def LinkCounters.zero : LinkCounters := ⟨0, 0, 0, 0, 0, 0, 0, 0, 0, 0, 0, 0, 0, 0, 0, 0, 0⟩

/-- A roster entry of another station after either reset (R123). -/
def RosterEntry.absent : RosterEntry := ⟨false, .silent, none⟩

/-- The Peer Link Unit after either reset (R109). -/
def Link.reset : Link where
  queue := []
  inTx := none
  medium := .idle none false
  deaf := false
  roster := Vector.replicate 8 .absent
  holds := []
  presence := none
  counters := .zero

def Tracker.reset : Tracker := ⟨[], 0⟩

def Health.reset : Health := ⟨[], 0, 0, 0, 0, 0, 0, 0⟩

/-- The Table Sweep after either reset (R159, R164). -/
def Sweep.reset : Sweep := ⟨.stopped, 0, none, 0, 0, 0, 0, 0, 0, 0⟩

/-- The Management Port after hard reset (R169): every cause enabled. -/
def Port.reset : Port := ⟨.ready, [], [], 0, 0x7F#7, 0, 0, 0, 0, 0, 0⟩

def Outputs.reset : Outputs := ⟨0, [], []⟩

/-- The station right after a hard reset (R8, R13, R16, R17, R32, R36, R40, R95, R109, R130, R152,
R159, R169), with straps that read 0 (log 8) and no command waiting. -/
def State.reset : State where
  life := .start
  station := 0
  accepted := none
  listenEnd := none
  time := .reset
  chans := Quad.all .reset
  store := .reset
  planner := .reset
  mapPort := .reset
  link := .reset
  tracker := .reset
  health := .reset
  sweep := .reset
  port := .reset
  out := .reset
  free := 0
  pending := []

end Sys2Proof.Machine
end

