-- ==== Sys2Proof/Machine/Flags.lean ====
section
/-! DEFINITION. The event causes, their mask and latches, and the event line (11.5). -/

namespace Sys2Proof.Machine

/-- The seven causes (11.5). -/
inductive Cause where
  | attention
  | arrival
  | fault
  | peer
  | map
  | time
  | start
  deriving DecidableEq, Repr

/-- The bit of a cause in a cause byte (R178). -/
def causeBit (c : Cause) : BitVec 7 :=
  match c with
  | .attention => 0x01#7
  | .arrival => 0x02#7
  | .fault => 0x04#7
  | .peer => 0x08#7
  | .map => 0x10#7
  | .time => 0x20#7
  | .start => 0x40#7

/-- Raising a cause latches it while the mask enables it (R172). -/
def State.raise (s : State) (c : Cause) : State :=
  { s with port := { s.port with latched := s.port.latched ||| (causeBit c &&& s.port.mask) } }

/-- The event line is driven low while any latched flag is set (R172). -/
def State.lineLow (s : State) : Bool := s.port.latched != 0

/-- A cause is latched. -/
def State.isLatched (s : State) (c : Cause) : Bool := s.port.latched &&& causeBit c != 0

/-- The mask enables a cause. -/
def State.isEnabled (s : State) (c : Cause) : Bool := s.port.mask &&& causeBit c != 0

/-- A cause byte: bits 0 to 6 the causes, bit 7 zero (R178). -/
def causeByte (m : BitVec 7) : Byte := m.zeroExtend 8

/-- The mask a cause byte carries; bit 7 is ignored (12, R178). -/
def maskOfByte (b : Byte) : BitVec 7 := b.truncate 7

end Sys2Proof.Machine
end

