-- ==== Sys2Proof/Machine/Ops.lean ====
section
/-! DEFINITION. The shared operations: tables, free choices, the start record in force, flow records
and ready lists, the roster's answers, spans and holds. -/

namespace Sys2Proof.Machine

/-! ### Tables: lists of index and record, indexes strictly rising -/

def tabGet {α : Type} : List (Nat × α) → Nat → Option α
  | [], _ => none
  | (j, a) :: r, k => if j = k then some a else tabGet r k

def tabPut {α : Type} : List (Nat × α) → Nat → α → List (Nat × α)
  | [], k, v => [(k, v)]
  | (j, a) :: r, k, v =>
    if k < j then (k, v) :: (j, a) :: r
    else if k = j then (k, v) :: r
    else (j, a) :: tabPut r k v

def tabDel {α : Type} : List (Nat × α) → Nat → List (Nat × α)
  | [], _ => []
  | (j, a) :: r, k => if j = k then r else (j, a) :: tabDel r k

/-- The lowest index from `i` on that a rising table does not list. -/
def lowestFree {α : Type} : List (Nat × α) → Nat → Nat
  | [], i => i
  | (j, _) :: r, i => if j = i then lowestFree r (i + 1) else i

/-- The lowest FREE record of a table of `size` records (R34, R44). -/
def freeRecord {α : Type} (t : List (Nat × α)) (size : Nat) : Option Nat :=
  if lowestFree t 0 < size then some (lowestFree t 0) else none

/-- The canonical form of a table: indexes strictly rising. -/
def tabWf {α : Type} : List (Nat × α) → Bool
  | [] => true
  | [_] => true
  | (i, _) :: (j, b) :: r => decide (i < j) && tabWf ((j, b) :: r)

/-! ### Free choices (log 4) -/

/-- One of the candidates, by a free value when there are several. -/
def State.draw {α : Type} (s : State) (l : List α) : Option (α × State) :=
  match l with
  | [] => none
  | [a] => some (a, s)
  | a :: b :: r =>
    some ((a :: b :: r).getD (Config.freeChoice s.free % (r.length + 2)) a,
      { s with free := s.free + 1 })

/-- The candidates in an order that the spec does not give, by free values. -/
def State.order {α : Type} : Nat → List α → State → List α × State
  | 0, l, s => (l, s)
  | _ + 1, [], s => ([], s)
  | _ + 1, [a], s => ([a], s)
  | n + 1, a :: b :: r, s =>
    let i := Config.freeChoice s.free % (r.length + 2)
    let rest := State.order n ((a :: b :: r).eraseIdx i) { s with free := s.free + 1 }
    ((a :: b :: r).getD i a :: rest.1, rest.2)

/-- A value that the spec does not state (log 11). -/
def State.freeValue (s : State) : BitVec 32 × State :=
  (Config.freeWord s.free, { s with free := s.free + 1 })

/-! ### Updates of one block -/

def State.modTime (s : State) (g : TimeUnit → TimeUnit) : State := { s with time := g s.time }

def State.modStore (s : State) (g : FlowStore → FlowStore) : State := { s with store := g s.store }

def State.modPlanner (s : State) (g : Planner → Planner) : State :=
  { s with planner := g s.planner }

def State.modLink (s : State) (g : Link → Link) : State := { s with link := g s.link }

def State.modLinkCounters (s : State) (g : LinkCounters → LinkCounters) : State :=
  { s with link := { s.link with counters := g s.link.counters } }

def State.modTracker (s : State) (g : Tracker → Tracker) : State :=
  { s with tracker := g s.tracker }

def State.modHealth (s : State) (g : Health → Health) : State := { s with health := g s.health }

def State.modSweep (s : State) (g : Sweep → Sweep) : State := { s with sweep := g s.sweep }

def State.modPort (s : State) (g : Port → Port) : State := { s with port := g s.port }

def State.modChan (s : State) (c : Chan) (g : Channel → Channel) : State :=
  { s with chans := s.chans.set c (g (s.chans.get c)) }

def State.modBids (s : State) (c : Chan) (g : BidCounters → BidCounters) : State :=
  s.modChan c fun ch => { ch with bids := g ch.bids }

def State.modMaps (s : State) (c : Chan) (g : MapCounters → MapCounters) : State :=
  s.modChan c fun ch => { ch with maps := g ch.maps }

def State.modCadence (s : State) (c : Chan) (g : CadenceCounters → CadenceCounters) : State :=
  s.modChan c fun ch => { ch with cadence := g ch.cadence }

def State.modOutcomes (s : State) (c : Chan) (g : OutcomeCounters → OutcomeCounters) : State :=
  s.modChan c fun ch => { ch with outcomes := g ch.outcomes }

/-! ### The start record in force (R14, R17) -/

def noChannelPart : ChannelPart := ⟨false, 0, 0, 0, 0, 0, 0, 0, 0, 0, 0⟩

def noProfile : ProfilePart := ⟨0, 0, 0, 0, false, 0, 0⟩

/-- The record while no record is in force: no channel enabled, no profile (R17). -/
def noRecord : StartRecord :=
  ⟨0, 0, 0, 0, 0, 0, 0, 0, 0, 0, Quad.all noChannelPart, Vector.replicate 16 noProfile⟩

/-- The accepted start record takes effect at entry to LISTEN (R14). -/
def State.inForce (s : State) : StartRecord :=
  match s.life, s.accepted with
  | .start, _ => noRecord
  | _, some r => r
  | _, none => noRecord

def State.part (s : State) (c : Chan) : ChannelPart := s.inForce.channels.get c

def State.enabled (s : State) (c : Chan) : Bool := (s.part c).enabled

def State.profile (s : State) (p : ProfileIx) : ProfilePart :=
  s.inForce.profiles[p.toNat]'(by have := p.isLt; omega)

def State.minGrant (s : State) : Nat := s.inForce.minGrant.toNat

def partSlots (p : ChannelPart) : Nat := p.periodSlots.toNat

/-- The period ticks P_c (01, 1.2). -/
def partTicks (p : ChannelPart) : Nat := p.slotTicks.toNat * p.periodSlots.toNat

/-- Period n of channel c starts at E_c + n × P_c, mod 2^32 (R9). -/
def State.startTick (s : State) (m : MapName) : Tick :=
  (s.part m.chan).epoch + m.period * BitVec.ofNat 32 (partTicks (s.part m.chan))

def State.buildTick (s : State) (m : MapName) : Tick := s.startTick m - s.inForce.buildLead

def State.deadlineTick (s : State) (m : MapName) : Tick := s.startTick m - s.inForce.deliverLead

/-- The tick at which slot `slot` of a map's period begins (R73). -/
def State.slotTick (s : State) (m : MapName) (slot : Nat) : Tick :=
  s.startTick m + BitVec.ofNat 32 (slot * (s.part m.chan).slotTicks.toNat)

/-- Two spans overlap when each one's start tick is before the other's end tick (R73). -/
def overlaps (a z b y : Tick) : Bool := before a y && before b z

/-! ### Modem and flow records (03) -/

/-- The modem record at an index. -/
def State.modemAt (s : State) (i : Nat) : Option Modem := tabGet s.store.modems i

def modemIxIn (key : Key) : List (Nat × Modem) → Option Nat
  | [] => none
  | (i, m) :: r => if m.key = key then some i else modemIxIn key r

/-- The in-use modem record that carries a key (R32). -/
def State.modemIx (s : State) (key : Key) : Option Nat := modemIxIn key s.store.modems

def State.writeModem (s : State) (i : Nat) (m : Modem) : State :=
  s.modStore fun st => { st with modems := tabPut st.modems i m }

/-- The profile in force of a modem (R33). -/
def Modem.profileInForce (m : Modem) : ProfileIx :=
  match m.pin, m.state with
  | .unset, .active => m.normal
  | .unset, .degraded => m.fallback
  | .normal, _ => m.normal
  | .fallback, _ => m.fallback

def State.tagState (s : State) (tag : Tag) : Option TagState := tabGet s.store.tagMap tag.toNat

/-- The record index a BOUND tag names (R41). -/
def State.flowIx (s : State) (tag : Tag) : Option Nat :=
  match s.tagState tag with
  | some (.bound i) => some i
  | _ => none

/-- The flow a BOUND tag names; none for a FREE or DRAINING tag (R41). -/
def State.flow (s : State) (tag : Tag) : Option Flow :=
  (s.flowIx tag).bind (tabGet s.store.flows)

def Flow.isBid (f : Flow) : Bool := f.cadence.isNone

/-- Unclaimed bytes: outstanding minus tentative, and not below 0 (R38). -/
def Flow.unclaimed (f : Flow) : Nat := f.outstanding - f.tentative

/-- Eligible for its class's ready list (R38). -/
def Flow.eligible (f : Flow) : Bool :=
  f.isBid && f.state == .active && decide (0 < f.unclaimed)
    && decide (f.pendingCount < Config.pendingPerFlow)

/-- Outstanding bytes saturate at 1,048,575 (R36). -/
def saturate (n : Nat) : Nat := min n Config.maxBytes

/-- The bytes above that value. -/
def excess (n : Nat) : Nat := n - saturate n

/-- Idle in the sense of Bid Intake; busy otherwise (R38). -/
def Flow.idle (f : Flow) : Bool := f.pendingCount == 0 && f.unclaimed == 0

def State.isReady (s : State) (f : Flow) : Bool := (s.planner.ready.get f.cls).contains f.tag

/-- A flow that leaves its list is not visited later in the class's walk (R78). -/
def Phase.dropVisit (tag : Tag) : Phase → Phase
  | .walk cursor left classes => .walk cursor (left.filter (· ≠ tag)) classes
  | p => p

def Build.modPhase (b : Build) (g : Phase → Phase) : Build := { b with phase := g b.phase }

/-- The flow leaves its ready list (R38, R77). -/
def State.leaveReady (s : State) (f : Flow) : State :=
  s.modPlanner fun p =>
    { p with
      ready := p.ready.set f.cls ((p.ready.get f.cls).filter (· ≠ f.tag))
      building := p.building.map (·.modPhase (Phase.dropVisit f.tag)) }

/-- The flow joins the tail of its class's ready list (R77). -/
def State.joinReady (s : State) (f : Flow) : State :=
  s.modPlanner fun p => { p with ready := p.ready.set f.cls (p.ready.get f.cls ++ [f.tag]) }

/-- The flow moves from its place to the tail of its list (R80, R82). -/
def State.toTail (s : State) (f : Flow) : State :=
  s.modPlanner fun p =>
    { p with ready := p.ready.set f.cls ((p.ready.get f.cls).filter (· ≠ f.tag) ++ [f.tag]) }

/-- The eligibility rule of R38, applied after a write to the record `f`. -/
def State.settle (s : State) (f : Flow) : State :=
  if f.eligible then
    if s.isReady f then s else s.joinReady f
  else if s.isReady f then s.leaveReady f else s

def State.writeFlow (s : State) (tag : Tag) (f : Flow) : State :=
  match s.flowIx tag with
  | some i => s.modStore fun st => { st with flows := tabPut st.flows i f }
  | none => s

/-- Change the record a tag names, and apply the eligibility rule at the same write (R38). -/
def State.updFlow (s : State) (tag : Tag) (g : Flow → Flow) : State :=
  match s.flow tag with
  | none => s
  | some f => (s.writeFlow tag (g f)).settle (g f)

/-! ### The roster's answers (R39, R123) -/

def State.stored (s : State) (k : StationNo) : RosterEntry :=
  s.link.roster[k.toNat]'(by have := k.isLt; omega)

def Announced.ofLife : Life → Announced
  | .start => .silent
  | .listen => .listen
  | .serving => .serving

/-- The roster entry of a station; this station's own is PRESENT with its own life state (R123). -/
def State.rosterEntry (s : State) (k : StationNo) : RosterEntry :=
  if k = s.station then ⟨true, .ofLife s.life, none⟩ else s.stored k

def State.setRoster (s : State) (k : StationNo) (e : RosterEntry) : State :=
  s.modLink fun l => { l with roster := l.roster.set k.toNat e (by have := k.isLt; omega) }

def allStations : List StationNo := [0, 1, 2, 3, 4, 5, 6, 7]

/-- Spanning-active: a bid flow whose span mask names another station that is PRESENT (R39). -/
def State.spanningActive (s : State) (f : Flow) : Bool :=
  f.isBid && allStations.any fun k =>
    k != s.station && f.spanMask.getLsbD k.toNat && (s.stored k).present

/-- The modem has a bid flow that is spanning-active (R99, R101). -/
def State.modemSpans (s : State) (modemIx : Nat) : Bool :=
  s.store.flows.any fun e => e.2.modemIx == modemIx && s.spanningActive e.2

/-! ### Holds (R81, R83, R100, R119) -/

/-- A span meets a hold of the modem in the local or the shared hold list (R81). -/
def State.heldAcross (s : State) (key : Key) (a z : Tick) : Bool :=
  s.planner.localHolds.any (fun h => h.key == key && overlaps a z h.start h.stop)
    || s.link.holds.any (fun h => h.key == key && overlaps a z h.start h.stop)

def State.dropLocalHold (s : State) (t : TurnKey) : State :=
  s.modPlanner fun p => { p with localHolds := p.localHolds.filter (·.turn ≠ t) }

/-! ### Pending entries (R131, R134) -/

def PendingEntry.isTurn (e : PendingEntry) (t : TurnKey) : Bool :=
  e.chan == t.chan && e.period == t.period.truncate 16 && e.slot == t.slot

/-- The list stays ordered by expiry tick, equal ticks by creation (R130). -/
def insertPending (e : PendingEntry) : List PendingEntry → List PendingEntry
  | [] => [e]
  | x :: r => if before e.expiry x.expiry then e :: x :: r else x :: insertPending e r

def State.pendingEntry (s : State) (t : TurnKey) : Option PendingEntry :=
  s.tracker.list.find? (·.isTurn t)

def State.dropPending (s : State) (t : TurnKey) : State :=
  s.modTracker fun tr => { tr with list := tr.list.filter (fun e => !e.isTurn t) }

/-- The orphan count of a DRAINING tag falls by 1, and the tag becomes FREE at 0 (R40, R48). -/
def State.orphanGone (s : State) (tag : Tag) : State :=
  match s.tagState tag with
  | some (.draining n) =>
    s.modStore fun st =>
      { st with tagMap := if n ≤ 1 then tabDel st.tagMap tag.toNat
                          else tabPut st.tagMap tag.toNat (.draining (n - 1)) }
  | _ => s

/-! ### The attention queue (R170) -/

/-- An offer to the attention queue (R64, R170). An offer for a tag that is already queued counts as a
duplicate, also when the queue holds 64 entries (log 42). -/
def State.offerAttention (s : State) (tag : Tag) (reason : AttentionReason) : State :=
  if s.port.attention.any (·.tag == tag) then
    s.modPort fun p => { p with attDuplicates := bump p.attDuplicates 1 }
  else if Config.attentionQueue ≤ s.port.attention.length then
    s.modPort fun p => { p with attDropped := bump p.attDropped 1 }
  else
    (s.modPort fun p => { p with attention := p.attention ++ [⟨tag, reason⟩] }).raise .attention

end Sys2Proof.Machine
end

