-- ==== Sys2Proof/Machine/Sizer.lean ====
section
/-! DEFINITION. Burst arithmetic and credit (02): slots from bytes, the fit search, turn limits,
refresh, and the validation of a start record (R168). -/

namespace Sys2Proof.Machine

/-! ### Slots from bytes (R19 to R21) -/

/-- The last-codeword length L for `r` bytes left over (R19). -/
def lastCodeword (pr : ProfilePart) (r : Nat) : Nat :=
  if r = 0 then 0
  else if pr.shortening then max r 16 + pr.p.toNat
  else pr.k.toNat + pr.p.toNat

/-- The bytes on air A for B flow bytes (R19). -/
def bytesOnAir (pr : ProfilePart) (b : Nat) : Nat :=
  b / pr.k.toNat * (pr.k.toNat + pr.p.toNat) + lastCodeword pr (b % pr.k.toNat)

/-- The burst symbols for B flow bytes (R20). -/
def burstSymbols (pr : ProfilePart) (b : Nat) : Nat :=
  pr.preamble.toNat + ceilDiv (8 * bytesOnAir pr b) pr.bitsPerSymbol.toNat + pr.guardSymbols.toNat

/-- slots(B) under a profile and a channel's Q (R20). -/
def slotsFor (pr : ProfilePart) (q : Nat) (b : Nat) : Nat := ceilDiv (burstSymbols pr b) q

/-- The bit weights of the fit search, from 8,192 down to 1 (R22). -/
def fitWeights : List Nat :=
  [8192, 4096, 2048, 1024, 512, 256, 128, 64, 32, 16, 8, 4, 2, 1]

/-- One decision of the fit search (R22). -/
def fitStep (pr : ProfilePart) (q s trial weight : Nat) : Nat :=
  if slotsFor pr q (trial + weight) ≤ s then trial + weight else trial

/-- fit(S): the largest byte count whose turn fits S slots, found by fourteen decisions (R22). -/
def fitFor (pr : ProfilePart) (q s : Nat) : Nat := fitWeights.foldl (fitStep pr q s) 0

/-- The questions the planner asks name a profile and a channel (R17). -/
def State.slots (s : State) (p : ProfileIx) (c : Chan) (b : Nat) : Nat :=
  slotsFor (s.profile p) (s.part c).q.toNat b

def State.fit (s : State) (p : ProfileIx) (c : Chan) (run : Nat) : Nat :=
  fitFor (s.profile p) (s.part c).q.toNat run

/-! ### Limits and credit (R25, R28) -/

/-- The cap on a data turn's bytes (R25). -/
def turnCap (f : Flow) (pr : ProfilePart) : Nat := min f.maxTurn pr.maxTurn.toNat

/-- Elapsed beats since the last refresh, held at 65,535 (R28). -/
def elapsedBeats (now last : Beat) : Nat := min (now - last).toNat Config.maxElapsed

/-- A refresh brings a flow's credit up to the present beat (R28). -/
def Flow.refresh (f : Flow) (now : Beat) : Flow :=
  { f with
    credit := if f.rate = 0 then f.credit
              else min f.ceiling (f.credit + f.rate * elapsedBeats now f.lastBeat)
    lastBeat := now }

/-- Credit spent at a placement (R30). -/
def Flow.charge (f : Flow) (b : Nat) : Flow :=
  if f.rate = 0 then f else { f with credit := f.credit - b }

/-- Credit given back by a withdrawal, held at the ceiling (R30). -/
def Flow.refund (f : Flow) (b : Nat) : Flow :=
  if f.rate = 0 then f else { f with credit := min f.ceiling (f.credit + b) }

/-! ### The start record's checks (R168) -/

/-- The check codes, in the order of 12.4. -/
inductive CheckCode where
  | channelField
  | qpsRange
  | leadField
  | windowField
  | profileField
  | minGrant
  | profileFit
  | healthField
  | reportWait
  | staleLimit
  deriving DecidableEq, Repr

def CheckCode.byte (c : CheckCode) : Byte :=
  match c with
  | .channelField => 0x01
  | .qpsRange => 0x02
  | .leadField => 0x03
  | .windowField => 0x04
  | .profileField => 0x05
  | .minGrant => 0x06
  | .profileFit => 0x07
  | .healthField => 0x08
  | .reportWait => 0x09
  | .staleLimit => 0x0A

/-- One check of a start record: whether it passes, and what its failure names. -/
structure StartCheck where
  passes : Bool
  code : CheckCode
  item : Nat
  deriving DecidableEq, Repr

def inRange (n lo hi : Nat) : Bool := decide (lo ≤ n) && decide (n ≤ hi)

/-- The four channels with their numbers, UC0 first; a check of a disabled channel passes. -/
def enabledChecks (r : StartRecord) (code : CheckCode) (ok : ChannelPart → Bool) :
    List StartCheck :=
  quadIndexes.map fun c =>
    ⟨!(r.channels.get c).enabled || ok (r.channels.get c), code, c.val⟩

/-- Slot length, period length and period ticks (R168, order 1). -/
def channelFieldsOk (p : ChannelPart) : Bool :=
  [16, 32, 64, 128, 256, 512].contains p.slotTicks.toNat && inRange p.periodSlots.toNat 64 2048
    && p.periodSlots.toNat % 8 == 0 && decide (partTicks p ≤ 1048576)

/-- The window fields of a channel (R76). -/
def windowFieldsOk (p : ChannelPart) : Bool :=
  decide (1 ≤ p.wMin.toNat) && decide (p.wMin.toNat ≤ p.wMax.toNat) && decide (p.wMax.toNat ≤ 256)
    && inRange p.joinSlots.toNat 0 255 && inRange p.joinEvery.toNat 1 255
    && decide (p.backoffStart.toNat ≤ p.backoffEnd.toNat)

/-- The fields of a profile (R18; 02, 2.1). -/
def profileFieldsOk (p : ProfilePart) : Bool :=
  inRange p.preamble.toNat 8 512 && inRange p.bitsPerSymbol.toNat 1 12 && inRange p.k.toNat 16 255
    && decide (p.p.toNat ≤ 32) && p.p.toNat % 2 == 0 && inRange p.guardSymbols.toNat 0 255
    && inRange p.maxTurn.toNat 64 16383

/-- The room R27 leaves for the largest turn: 0 when the windows fill the period. -/
def fitRoom (p : ChannelPart) : Nat := partSlots p - p.wMax.toNat - p.joinSlots.toNat

/-- A profile's largest turn fits a channel (R27). -/
def profileFits (pr : ProfilePart) (p : ChannelPart) : Bool :=
  decide (p.wMax.toNat + p.joinSlots.toNat < partSlots p)
    && decide (slotsFor pr p.q.toNat pr.maxTurn.toNat ≤ fitRoom p)

def profileChecks (r : StartRecord) (code : CheckCode) (ok : ProfilePart → Bool) :
    List StartCheck :=
  (List.range 16).map fun i => ⟨ok (r.profiles.getD i noProfile), code, i⟩

/-- The checks of a start record in the order of R168's table. -/
def startChecks (r : StartRecord) : List StartCheck :=
  enabledChecks r .channelField channelFieldsOk
  ++ [⟨quadIndexes.any fun c => (r.channels.get c).enabled, .channelField, 4⟩]
  ++ enabledChecks r .qpsRange (fun p => inRange p.q.toNat 16 256)
  ++ [⟨decide (4096 ≤ r.deliverLead.toNat), .leadField, 0⟩,
      ⟨decide (r.deliverLead.toNat + 8192 ≤ r.buildLead.toNat), .leadField, 1⟩,
      ⟨decide (r.buildLead.toNat ≤ 1048576), .leadField, 2⟩]
  ++ enabledChecks r .windowField windowFieldsOk
  ++ profileChecks r .profileField profileFieldsOk
  ++ [⟨inRange r.minGrant.toNat 1 16383, .minGrant, 16⟩]
  ++ profileChecks r .minGrant (fun p => decide (r.minGrant.toNat ≤ p.maxTurn.toNat))
  ++ profileChecks r .profileFit
      (fun p => quadIndexes.all fun c =>
        !(r.channels.get c).enabled || profileFits p (r.channels.get c))
  ++ [⟨inRange r.t1.toNat 1 199, .healthField, 0⟩, ⟨inRange r.t2.toNat 1 199, .healthField, 1⟩,
      ⟨inRange r.t3.toNat 1 199, .healthField, 2⟩, ⟨inRange r.recover.toNat 1 100, .healthField, 3⟩,
      ⟨inRange r.reportWait.toNat 8192 4194304, .reportWait, 0⟩,
      ⟨inRange r.staleLimit.toNat 1 900000, .staleLimit, 0⟩]

/-- The first check that fails, if any (R168). -/
def firstFailure (r : StartRecord) : Option StartCheck := (startChecks r).find? (!·.passes)

end Sys2Proof.Machine
end

