-- ==== Sys2Proof/Machine/Health.lean ====
section
/-! DEFINITION. The Health Monitor (09): scores, transitions, trail and fault ring. -/

namespace Sys2Proof.Machine

/-! ### The fault ring (R153, R154) -/

/-- The modem after a fault record of its key: its lifetime fault count rises, held at 65,535 (R154). -/
def Modem.faulted (m : Modem) : Modem :=
  { m with lifetime := min (m.lifetime + 1) Config.maxLifetime }

/-- The record as R153 builds it, from the modem record that carries the key, if one is in use. -/
def State.faultRecord (s : State) (kind : FaultKind) (key : Key) (tag : Tag)
    (found : Option Modem) : FaultRecord :=
  match found with
  | some m =>
    { seq := s.health.seq, kind := kind, key := key, tag := tag, time := s.time.nodeTime,
      found := true, presence := m.presence, integrity := m.integrity, margin := m.margin,
      trail := m.trail, lifetime := m.faulted.lifetime }
  | none =>
    { seq := s.health.seq, kind := kind, key := key, tag := tag, time := s.time.nodeTime,
      found := false, presence := 0, integrity := 0, margin := 0, trail := [], lifetime := 0 }

/-- A record joins the ring as its newest; a full ring loses its oldest (R154). -/
def Health.append (h : Health) (r : FaultRecord) : Health :=
  let full := decide (Config.faultRing ≤ h.ring.length)
  { h with
    ring := (if full then h.ring.drop 1 else h.ring) ++ [r]
    replaced := if full then bump h.replaced 1 else h.replaced
    seq := h.seq + 1
    appended := bump h.appended 1 }

/-- A source passes a fault; the record is built and appended, and the modem's count rises
(R153, R154). -/
def State.appendFault (s : State) (kind : FaultKind) (key : Key) (tag : Tag) : State :=
  match s.modemIx key with
  | some i =>
    match s.modemAt i with
    | some m =>
      (s.modHealth (·.append (s.faultRecord kind key tag (some m)))).writeModem i m.faulted
    | none => s.modHealth (·.append (s.faultRecord kind key tag none))
  | none => s.modHealth (·.append (s.faultRecord kind key tag none))

/-! ### Scores and transitions (R145 to R149) -/

def rise (n : Nat) : Nat := min (n + 1) Config.maxScore

def fall (n k : Nat) : Nat := n - k

/-- The outcome the Outcome Tracker hands over (R136, R137). -/
structure TurnOutcome where
  result : TurnResult
  cadence : Bool
  tag : Tag
  chan : Chan
  margin : BitVec 6
  corrected : Nat
  deriving DecidableEq, Repr

/-- The three scores after an outcome, by the table of R146. -/
def Modem.scored (m : Modem) (o : TurnOutcome) (floor : BitVec 6) : Modem :=
  let weak := decide (o.margin.toNat < floor.toNat)
  match o.result with
  | .received =>
    { m with
      presence := rise m.presence
      integrity := if o.corrected = 0 then rise m.integrity else fall m.integrity 2
      margin := if weak then fall m.margin 4 else rise m.margin }
  | .empty => if o.cadence then m else { m with presence := fall m.presence 12 }
  | .errored =>
    { m with
      presence := rise m.presence
      integrity := fall m.integrity 16
      margin := if weak then fall m.margin 4 else m.margin }
  | .lost => m

/-- The trail gains the outcome; a full trail loses its oldest entry (R151). -/
def Modem.trailed (m : Modem) (o : TurnOutcome) : Modem :=
  let t := if Config.trailEntries ≤ m.trail.length then m.trail.drop 1 else m.trail
  { m with trail := t ++ [⟨o.result, o.tag, o.chan, o.margin⟩] }

/-- Some score is at or below its threshold (R147). -/
def Modem.failing (m : Modem) (r : StartRecord) : Bool :=
  decide (m.presence ≤ r.t1.toNat) || decide (m.integrity ≤ r.t2.toNat)
    || decide (m.margin ≤ r.t3.toNat)

/-- The recovery level of a threshold (R144). -/
def recoveryLevel (threshold recover : BitVec 8) : Nat :=
  min Config.maxScore (threshold.toNat + recover.toNat)

/-- Every score is at or above its recovery level (R148). -/
def Modem.recovered (m : Modem) (r : StartRecord) : Bool :=
  decide (recoveryLevel r.t1 r.recover ≤ m.presence)
    && decide (recoveryLevel r.t2 r.recover ≤ m.integrity)
    && decide (recoveryLevel r.t3 r.recover ≤ m.margin)

/-- A modem's transition (R149): state, counter, fault record and the FAULT cause. -/
def State.transition (s : State) (i : Nat) (m : Modem) (o : TurnOutcome) : State :=
  match m.state with
  | .active =>
    if m.failing s.inForce then
      (((s.writeModem i { m with state := .degraded }).modHealth
        fun h => { h with degrades := bump h.degrades 1 }).appendFault .degrade m.key o.tag).raise
          .fault
    else s
  | .degraded =>
    if m.recovered s.inForce then
      (((s.writeModem i { m with state := .active }).modHealth
        fun h => { h with restores := bump h.restores 1 }).appendFault .restore m.key o.tag).raise
          .fault
    else s

/-- The Health Monitor takes an outcome: score, trail, transition, record (R145). The key test of
R48 is made here: an outcome whose modem record is gone or carries another key is not taken. -/
def State.takeOutcome (s : State) (i : Nat) (key : Key) (o : TurnOutcome) : State :=
  match s.modemAt i with
  | none => s
  | some m =>
    if m.key ≠ key then s
    else if o.result = .lost then
      (s.writeModem i (m.trailed o)).modHealth fun h => { h with lost := bump h.lost 1 }
    else
      let m' := (m.scored o s.inForce.floor).trailed o
      ((s.writeModem i m').modHealth fun h => { h with scored := bump h.scored 1 }).transition
        i m' o

/-! ### READ FAULTS (R155) -/

/-- The records READ FAULTS returns: from the number asked, or from the oldest when the number
asked is before it, up to 4 (R155). A number before the oldest and not before the counter's value meets
two of R155's cases; the model takes the first, from the oldest on (log 46). -/
def faultsFrom (ring : List FaultRecord) (asked : BitVec 32) : List FaultRecord :=
  match ring with
  | [] => []
  | oldest :: _ =>
    if before asked oldest.seq then ring.take 4
    else (ring.dropWhile (·.seq ≠ asked)).take 4

end Sys2Proof.Machine
end

