-- ==== Sys2Proof/Machine/Link.lean ====
section
/-! DEFINITION. The Peer Link Unit's own operations (07): the transmit queue and its contender, the
roster refresh, the hold rule, and the additions of R118. -/

namespace Sys2Proof.Machine

/-! ### The transmit queue (R110, R111, R113) -/

def Queued.rank (q : Queued) : Nat := noticeRank q.notice

/-- A notice takes its place behind its own rank and lower rank numbers, ahead of higher ones (R110). -/
def insertNotice (q : Queued) : List Queued → List Queued
  | [] => [q]
  | x :: r => if q.rank < x.rank then q :: x :: r else x :: insertNotice q r

def State.txFull (s : State) : Bool := decide (Config.transmitQueue ≤ s.link.queue.length)

/-- A notice queued on a quiet link opens a contention with the head of the queue (R112); one queued
while a contention is open or a station is sending waits (R113). -/
def Medium.opened (m : Medium) (queue : List Queued) : Medium :=
  match m with
  | .idle none _ => .idle queue.head? false
  | m => m

/-- Queue a notice; a full queue takes none (R110). -/
def State.enqueue (s : State) (q : Queued) : State :=
  if s.txFull then s
  else s.modLink fun l =>
    { l with
      queue := insertNotice q l.queue
      medium := l.medium.opened (insertNotice q l.queue) }

/-- A contender that is removed before the contention is decided stops contending; a contention
opens at once if the queue still holds a notice (R113). -/
def Medium.without (m : Medium) (gone : Queued → Bool) (queue : List Queued) : Medium :=
  match m with
  | .idle (some q) atEnd => if gone q then .idle queue.head? false else .idle (some q) atEnd
  | m => m

/-- Remove notices from the transmit queue (R111). -/
def State.removeQueued (s : State) (gone : Queued → Bool) : State :=
  s.modLink fun l =>
    { l with
      queue := l.queue.filter (fun q => !gone q)
      medium := l.medium.without gone (l.queue.filter (fun q => !gone q)) }

/-- Mark the notice in transmission withdrawn when it stands for this turn (R111). -/
def State.markWithdrawn (s : State) (t : TurnKey) : State :=
  s.modLink fun l =>
    { l with
      inTx := l.inTx.map fun x => if x.own.turn = some t then { x with withdrawn := true } else x }

/-- The flow tag of a TAKE, with or without hold; none for another notice. -/
def takeTag : Notice → Option Tag
  | .takeHold tag _ _ _ _ => some tag
  | .take tag _ => some tag
  | _ => none

/-- A TAKE of this station for the tag is in transmission (R42). -/
def State.takeInTx (s : State) (tag : Tag) : Bool :=
  match s.link.inTx with
  | some x => takeTag x.own.notice == some tag
  | none => false

/-- TAKE and GIVE notices for a tag, which REMOVE FLOW removes (R46). -/
def isTakeOrGive (tag : Tag) (q : Queued) : Bool :=
  match q.notice with
  | .takeHold t _ _ _ _ => t == tag
  | .take t _ => t == tag
  | .give t _ => t == tag
  | _ => false

/-- Queue a BID notice; a full queue drops it, counted under the bid's channel (R57). -/
def State.queueBid (s : State) (tag : Tag) (b : Nat) (c : Chan) : State :=
  if s.txFull then s.modBids c fun k => { k with noticesDropped := bump k.noticesDropped 1 }
  else s.enqueue ⟨.bid tag (BitVec.ofNat 16 b), none⟩

/-- Queue a GIVE notice; a full queue drops it and counts it (R110). -/
def State.queueGive (s : State) (tag : Tag) (b : Nat) : State :=
  if s.txFull then s.modLinkCounters fun k => { k with giveDropped := bump k.giveDropped 1 }
  else s.enqueue ⟨.give tag (BitVec.ofNat 16 b), none⟩

def isPresence (q : Queued) : Bool :=
  match q.notice with
  | .presence _ => true
  | _ => false

/-- Queue a PRESENCE notice with the life state at this event, unless one already waits (R124). -/
def State.queuePresence (s : State) : State :=
  if s.link.queue.any isPresence then s
  else if s.txFull then
    s.modLinkCounters fun k => { k with presenceDropped := bump k.presenceDropped 1 }
  else s.enqueue ⟨.presence (s.life == .serving), none⟩

/-! ### Additions of R118 -/

/-- A GIVE or BID adds its bytes to a flow's outstanding bytes, the excess counted by the Peer Link
Unit (R118). -/
def State.addHeard (s : State) (tag : Tag) (b : Nat) : State :=
  match s.flow tag with
  | none => s
  | some f =>
    (s.updFlow tag fun f => { f with outstanding := saturate (f.outstanding + b) })
      |>.modLinkCounters fun k =>
        { k with bytesLost := bump k.bytesLost (excess (f.outstanding + b)) }

/-- Bytes kept from a DORMANT flow (R90, R121, R164). -/
def State.addIdleBytes (s : State) (b : Nat) : State :=
  s.modSweep fun w => { w with idleBytes := bump w.idleBytes b }

/-- This station's GIVE: queued for the peers and applied to its own copy at once, unless the flow
is DORMANT (R90, R121). -/
def State.giveBack (s : State) (tag : Tag) (b : Nat) : State :=
  match s.flow tag with
  | none => s
  | some f =>
    if f.state = .dormant then (s.queueGive tag b).addIdleBytes b
    else (s.queueGive tag b).addHeard tag b

/-! ### The fate of a turn's TAKE (R72) -/

def Entry.withFate (e : Entry) (fate : Fate) : Entry := { e with fate := fate }

/-- The entry of a turn takes a new fate, in the map that holds it. -/
def TurnMap.setFate (m : TurnMap) (t : TurnKey) (fate : Fate) : TurnMap :=
  if m.name = ⟨t.chan, t.period⟩ then
    { m with entries := m.entries.map fun e => if e.start = t.slot then e.withFate fate else e }
  else m

def State.setFate (s : State) (t : TurnKey) (fate : Fate) : State :=
  { s with
    planner := { s.planner with
      building := s.planner.building.map fun b => { b with map := b.map.setFate t fate }
      sealing := s.planner.sealing.map (·.setFate t fate) }
    mapPort := { s.mapPort with
      queue := s.mapPort.queue.map (·.setFate t fate)
      delivered := s.mapPort.delivered.map (·.setFate t fate) } }

/-- The fate of the turn a notice is linked to, if it is linked to one. -/
def State.setLinkedFate (s : State) (t : Option TurnKey) (fate : Fate) : State :=
  match t with
  | some t => s.setFate t fate
  | none => s

/-! ### The hold rule (R119, R120) -/

/-- What R119 answers for a hold. -/
inductive Verdict where
  | stands
  | overlapped
  | full
  deriving DecidableEq, Repr

/-- Judge a hold against the shared hold list as it stands (R119). -/
def State.judge (s : State) (key : Key) (a z : Tick) : Verdict :=
  if s.link.holds.any (fun h => h.key == key && overlaps a z h.start h.stop) then .overlapped
  else if Config.sharedHolds ≤ s.link.holds.length then .full
  else .stands

/-- Count the verdict; enter a standing hold whose end tick is after node time (R119, R120). -/
def State.applyVerdict (s : State) (v : Verdict) (h : SharedHold) : State :=
  match v with
  | .stands =>
    (if before s.time.nodeTime h.stop then s.modLink fun l => { l with holds := l.holds ++ [h] }
      else s)
      |>.modLinkCounters fun k => { k with standing := bump k.standing 1 }
  | .overlapped => s.modLinkCounters fun k => { k with void := bump k.void 1 }
  | .full =>
    s.modLinkCounters fun k => { k with void := bump k.void 1, voidFull := bump k.voidFull 1 }

/-! ### The roster (R125, R126) -/

/-- What a notice announces of its sender's life state; none unless it is a PRESENCE (R125). -/
def announcedBy : Notice → Option Announced
  | .presence true => some .serving
  | .presence false => some .listen
  | _ => none

/-- A heard notice refreshes its sender's entry: the absence tick moves on, an ABSENT entry becomes
PRESENT, and a PRESENCE writes the announced life state; PEER is raised when either changes (R125). -/
def State.refreshRoster (s : State) (k : StationNo) (n : Notice) : State :=
  let old := s.stored k
  let ann := (announcedBy n).getD old.announced
  let s' := s.setRoster k
    ⟨true, ann, some (s.time.nodeTime + BitVec.ofNat 32 Config.absenceLimit)⟩
  if old.present && ann == old.announced then s' else s'.raise .peer

/-- A PRESENT entry becomes ABSENT (R126). -/
def State.markAbsent (s : State) (k : StationNo) : State :=
  (s.setRoster k .absent).raise .peer

end Sys2Proof.Machine
end

