-- ==== Sys2Proof/Machine/Intake.lean ====
section
/-! DEFINITION. Bid Intake (04): the addition of R55, the deferred bid, the notices of R57. -/

namespace Sys2Proof.Machine

/-- Add a bid's bytes to outstanding, saturating with the excess counted under the channel, and
queue a BID notice when the flow is spanning-active (R55, R57). -/
def State.addBid (s : State) (tag : Tag) (b : Nat) (c : Chan) : State :=
  match s.flow tag with
  | none => s
  | some f =>
    let s' := (s.updFlow tag fun f =>
        { f with outstanding := saturate (f.outstanding + b) }).modBids c
      fun k => { k with bytesLost := bump k.bytesLost (excess (f.outstanding + b)) }
    if s'.spanningActive f then s'.queueBid tag b c else s'

/-- Apply the flow's deferred bid, if it holds one, under the channel it named (R61). -/
def State.applyDeferred (s : State) (tag : Tag) : State :=
  match s.flow tag with
  | none => s
  | some f =>
    match f.deferred with
    | none => s
    | some (b, c) =>
      ((s.updFlow tag fun f => { f with deferred := none }).addBid tag b c).modBids c
        fun k => { k with applied := bump k.applied 1 }

/-- Apply the deferred bid when the pending count has reached 0 (R61). -/
def State.deferredAtZero (s : State) (tag : Tag) : State :=
  match s.flow tag with
  | none => s
  | some f => if f.pendingCount = 0 then s.applyDeferred tag else s

def State.lowerPending (s : State) (tag : Tag) : State :=
  s.updFlow tag fun f => { f with pendingCount := f.pendingCount - 1 }

/-- The bid activity mark (R54). -/
def Flow.active (f : Flow) (now : Beat) : Flow := { f with lastActivity := now }

/-- An idle bid is applied (R55). -/
def State.bidApplied (s : State) (tag : Tag) (b : Nat) (c : Chan) : State :=
  ((s.updFlow tag (·.active s.time.beat)).addBid tag b c).modBids c
    fun k => { k with applied := bump k.applied 1 }

/-- A bid on a busy HOLD flow becomes its deferred bid (R58). -/
def State.bidDeferred (s : State) (tag : Tag) (b : Nat) (c : Chan) (held : Bool) : State :=
  (s.updFlow tag fun f => { f with deferred := some (b, c), lastActivity := s.time.beat }).modBids c
    fun k =>
      { k with
        deferred := bump k.deferred 1
        replaced := if held then bump k.replaced 1 else k.replaced }

/-- A bid on a DORMANT flow is dropped and offered to the host (R64). -/
def State.bidDormant (s : State) (tag : Tag) (c : Chan) : State :=
  (s.modBids c fun k => { k with dormant := bump k.dormant 1 }).offerAttention tag .dormantBid

/-- The period held by the build stream of a channel (R10); 0 on a channel without a clock. -/
def State.buildStream (s : State) (c : Chan) : Period :=
  match (s.chans.get c).clock with
  | some k => k.build
  | none => 0

/-- A bid wakes a sleeping cadence flow (R65). -/
def State.bidWakes (s : State) (tag : Tag) (cad : Cadence) (c : Chan) : State :=
  (s.updFlow tag fun f =>
    { f with
      state := .active
      lastActivity := s.time.beat
      cadence := some { cad with nextDue := s.buildStream cad.chan, empties := 0 } }).modBids c
    fun k => { k with cadenceWakes := bump k.cadenceWakes 1 }

/-- A bid for a flow of this station, by the table of R54. -/
def State.bidForFlow (s : State) (f : Flow) (b : Nat) (c : Chan) : State :=
  match f.cadence with
  | some cad =>
    if f.state = .sleep then s.bidWakes f.tag cad c
    else s.modBids c fun k => { k with cadenceIgnored := bump k.cadenceIgnored 1 }
  | none =>
    if f.state = .dormant then s.bidDormant f.tag c
    else if f.idle then s.bidApplied f.tag b c
    else if f.discard then s.modBids c fun k => { k with policyDiscards := bump k.policyDiscards 1 }
    else s.bidDeferred f.tag b c f.deferred.isSome

/-- A record in START is discarded and counted (R13); so is a record R176 discards. -/
def State.discardRecord (s : State) : State :=
  s.modPort fun p => { p with burstDiscards := bump p.burstDiscards 1 }

/-- A bid record in LISTEN or SERVING: counted, checked, handled (R53). -/
def State.takeBid (s : State) (r : BidRecord) : State :=
  let s := s.modBids r.chan fun k => { k with taken := bump k.taken 1 }
  if !s.enabled r.chan || r.tag == 0 || r.bytes == 0 then
    s.modBids r.chan fun k => { k with malformed := bump k.malformed 1 }
  else
    match s.flow r.tag with
    | none => s.modBids r.chan fun k => { k with foreign := bump k.foreign 1 }
    | some f => s.bidForFlow f r.bytes.toNat r.chan

/-- A tail bid that is not added to any flow (R63). -/
def State.tailDropped (s : State) (c : Chan) : State :=
  s.modBids c fun k => { k with tailDropped := bump k.tailDropped 1 }

/-- A tail bid in a RECEIVED report consumed for a flow that exists (R62, R63). -/
def State.tailForFlow (s : State) (f : Flow) (b : Nat) (c : Chan) : State :=
  if f.cadence.isSome then
    (s.tailDropped c).modBids c fun k => { k with cadenceIgnored := bump k.cadenceIgnored 1 }
  else if f.state = .dormant then (s.tailDropped c).bidDormant f.tag c
  else (s.addBid f.tag b c).modBids c fun k => { k with tailApplied := bump k.tailApplied 1 }

end Sys2Proof.Machine
end

