-- ==== Sys2Proof/Machine/Withdraw.lean ====
section
/-! DEFINITION. Withdrawal of turns, hand-over of maps and sealing (05, 5.4 and 5.5; R48, R102, R103, R139),
and the beginning of a sweep step (R159, R165). -/

namespace Sys2Proof.Machine

def MapName.turn (m : MapName) (slot : Nat) : TurnKey := ⟨m.chan, m.period, slot⟩

/-- A hold-bearing turn is unconfirmed until its TAKE with hold is heard (R84). -/
def Entry.unconfirmed (e : Entry) : Bool := e.hold && (e.fate == .queued || e.fate == .inTx)

def TurnMap.settled (m : TurnMap) : Bool := m.entries.all (!·.unconfirmed)

/-- Remove a turn's waiting TAKE, or mark the one in transmission (R90, R91, R111). -/
def State.withdrawTake (s : State) (t : TurnKey) (fate : Fate) : State :=
  match fate with
  | .queued => s.removeQueued (fun q => q.turn == some t)
  | .inTx => s.markWithdrawn t
  | _ => s

/-- Give a data turn's bytes back to its flow by the fate of its TAKE (R90, steps 3 and 4).
Bytes withheld from a DORMANT flow go to the idle bytes discarded counter. -/
def State.returnBytes (s : State) (t : TurnKey) (f : Flow) (e : Entry) : State :=
  match e.fate with
  | .noTake =>
    if f.state = .dormant then s.addIdleBytes e.bytes
    else
      (s.updFlow e.tag fun f => { f with outstanding := saturate (f.outstanding + e.bytes) })
        |>.modBids t.chan fun k =>
          { k with bytesLost := bump k.bytesLost (excess (f.outstanding + e.bytes)) }
  | .queued =>
    (s.withdrawTake t .queued).updFlow e.tag fun f => { f with tentative := f.tentative - e.bytes }
  | .inTx => s.withdrawTake t .inTx
  | .standing => s.giveBack e.tag e.bytes
  | .void => s

/-- R90, step 1: the pending entry is removed and the pending count falls; at 0 a deferred bid is
applied. An entry already consumed is passed over (R139). -/
def State.unpend (s : State) (t : TurnKey) (tag : Tag) : State :=
  if (s.pendingEntry t).isSome then ((s.dropPending t).lowerPending tag).deferredAtZero tag else s

/-- A data turn is withdrawn (R90). -/
def State.withdrawData (s : State) (t : TurnKey) (e : Entry) : State :=
  let s := (s.unpend t e.tag).updFlow e.tag (·.refund e.bytes)
  let s :=
    match s.flow e.tag with
    | none => s
    | some f => s.returnBytes t f e
  s.dropLocalHold t

/-- Set a cadence flow's next-due back by one interval (R102). -/
def Flow.owedAgain (f : Flow) : Flow :=
  { f with cadence := f.cadence.map fun c =>
      { c with nextDue := c.nextDue - BitVec.ofNat 32 c.interval } }

/-- A cadence turn is withdrawn (R91): its occurrence is missed at a LATE map (R103), and owed
again otherwise (R102). -/
def State.withdrawCadence (s : State) (t : TurnKey) (e : Entry) (late : Bool) : State :=
  let s := if (s.pendingEntry t).isSome then (s.dropPending t).lowerPending e.tag else s
  let s := (s.dropLocalHold t).withdrawTake t e.fate
  if late then s.modCadence t.chan fun k => { k with missed := bump k.missed 1 }
  else s.updFlow e.tag (·.owedAgain)

/-- An orphan turn is withdrawn (R48): no flow remains to receive anything. A TAKE of it in transmission is
marked withdrawn, as R111 says of every withdrawn turn (log 47). -/
def State.withdrawOrphan (s : State) (t : TurnKey) (e : Entry) : State :=
  let s := if (s.pendingEntry t).isSome then (s.dropPending t).orphanGone e.tag else s
  (s.dropLocalHold t).withdrawTake t e.fate

/-- Withdraw one entry of a map; window entries need nothing (R89). -/
def State.withdrawTurn (s : State) (m : MapName) (e : Entry) (late : Bool) : State :=
  match e.kind with
  | .data =>
    if e.orphan then s.withdrawOrphan (m.turn e.start) e else s.withdrawData (m.turn e.start) e
  | .cadence =>
    if e.orphan then s.withdrawOrphan (m.turn e.start) e
    else s.withdrawCadence (m.turn e.start) e late
  | .join => s
  | .bid => s

/-- Withdraw several turns of one map, one after another. -/
def State.withdrawAll (s : State) (m : MapName) (late : Bool) (es : List Entry) : State :=
  es.foldl (fun s e => s.withdrawTurn m e late) s

/-- A map discarded as LATE: counted, MAP raised, its turns withdrawn in ascending start-slot
order (R89). -/
def State.discardLate (s : State) (m : TurnMap) : State :=
  ((s.modMaps m.name.chan fun k => { k with late := bump k.late 1 }).raise .map).withdrawAll
    m.name true m.entries

/-- Hand-over: the map joins the map output queue, or is LATE when the queue is full (R87). -/
def State.handOver (s : State) (m : TurnMap) : State :=
  if s.mapPort.queue.length < Config.outputQueue then
    { s with mapPort := { s.mapPort with queue := s.mapPort.queue ++ [m] } }
      |>.modMaps m.name.chan fun k => { k with handed := bump k.handed 1 }
  else s.discardLate m

/-- At the sealing deadline or the cut, every unconfirmed turn is withdrawn, in an order the spec
does not give (log 13), and the map is handed over (R86). -/
def State.sealAtDeadline (s : State) (m : TurnMap) : State :=
  let o := State.order m.entries.length (m.entries.filter (·.unconfirmed)) s
  (o.2.withdrawAll m.name false o.1).handOver
    { m with entries := m.entries.filter (!·.unconfirmed) }

/-- A SEALING map with no unconfirmed turn left is handed over at the same event (R85). -/
def State.handIfSettled (s : State) (name : MapName) : State :=
  match s.planner.sealing.find? (·.name == name) with
  | none => s
  | some m =>
    if m.settled then
      (s.modPlanner fun p => { p with sealing := p.sealing.filter (·.name ≠ name) }).handOver m
    else s

/-- The entry of a turn in a BUILDING or SEALING map. -/
def State.openEntry (s : State) (t : TurnKey) : Option Entry :=
  let maps := (s.planner.building.map (·.map)).toList ++ s.planner.sealing
  match maps.find? (·.name == ⟨t.chan, t.period⟩) with
  | none => none
  | some m => m.entries.find? (·.start == t.slot)

def TurnMap.without (m : TurnMap) (t : TurnKey) : TurnMap :=
  if m.name = ⟨t.chan, t.period⟩ then { m with entries := m.entries.filter (·.start ≠ t.slot) }
  else m

/-- An entry leaves a BUILDING or SEALING map; its slots are free again (R72, R90). -/
def State.dropEntry (s : State) (t : TurnKey) : State :=
  s.modPlanner fun p =>
    { p with
      building := p.building.map fun b => { b with map := b.map.without t }
      sealing := p.sealing.map (·.without t) }

/-! ### Removing a flow (R46, R47) -/

/-- Whether R47 withdraws this turn of the flow: hold-bearing, its TAKE with hold still queued. -/
def Entry.strandedBy (tag : Tag) (e : Entry) : Bool :=
  e.tag == tag && (e.kind == .data || e.kind == .cadence) && e.hold && e.fate == .queued

def TurnMap.orphaned (tag : Tag) (m : TurnMap) : TurnMap :=
  { m with entries := m.entries.map fun e =>
      if e.tag = tag ∧ (e.kind = .data ∨ e.kind = .cadence) then { e with orphan := true } else e }

/-- The flow's turns and pending entries become orphans (R46 step 4). -/
def State.orphanTurns (s : State) (tag : Tag) : State :=
  { s with
    planner := { s.planner with
      building := s.planner.building.map fun b => { b with map := b.map.orphaned tag }
      sealing := s.planner.sealing.map (·.orphaned tag) }
    mapPort := { s.mapPort with
      queue := s.mapPort.queue.map (·.orphaned tag)
      delivered := s.mapPort.delivered.map (·.orphaned tag) }
    tracker := { s.tracker with
      list := s.tracker.list.map fun e => if e.tag = tag then { e with orphan := true } else e } }

/-- The turns of the flow that R47 withdraws, with their maps. -/
def State.stranded (s : State) (tag : Tag) : List TurnKey :=
  ((s.planner.building.map (·.map)).toList ++ s.planner.sealing).flatMap fun m =>
    (m.entries.filter (·.strandedBy tag)).map fun e => m.name.turn e.start

/-- R47: a stranded turn is withdrawn by R48 and its entry leaves its map. -/
def State.withdrawStranded (s : State) (t : TurnKey) : State :=
  ((s.dropPending t).dropLocalHold t).dropEntry t

/-- Orphans of a tag still in the pending list. -/
def State.orphans (s : State) (tag : Tag) : Nat :=
  (s.tracker.list.filter fun e => e.tag == tag && e.orphan).length

/-- The step's cursor advances by one, with the wrap and the pass count (R160, R165). -/
def Sweep.advance (w : Sweep) : Sweep :=
  if w.cursor + 1 < Config.flowRecords then { w with cursor := w.cursor + 1 }
  else { w with cursor := 0, pass := w.pass + 1 }

/-- A step in flight ends without its changes (R165). -/
def Sweep.abandon (w : Sweep) : Sweep :=
  { w with step := none, abandoned := bump w.abandoned 1 }

/-- Where a step that ended leaves the sweep: SUSPENDED while a map is BUILDING (R159, log 29), and as it
stands when the build it ran into has ended before it (log 48). -/
def Sweep.afterStep (w : Sweep) (building : Bool) : Sweep :=
  if building && w.state == .running then { w with state := .suspended } else w

/-- The record under the cursor, if it is in use. -/
def State.cursorFlow (s : State) : Option Flow := tabGet s.store.flows s.sweep.cursor

/-- A RUNNING sweep with no step in flight begins one; no step begins while a map is BUILDING
(R70, R159). -/
def State.beginStep (s : State) : State :=
  if s.sweep.state = .running ∧ s.sweep.step = none ∧ s.planner.building = none then
    s.modSweep fun w => { w with step := some ⟨s.cursorFlow.map (·.tag)⟩ }
  else s

/-- Removal of the flow under a step in flight ends the step, the cursor advances, and a RUNNING sweep
begins the next step at that event (R165). Removals by one REMOVE MODEM come one after another, so one
may end the step that the one before it began (log 45). -/
def State.abandonStep (s : State) (tag : Tag) : State :=
  match s.sweep.step with
  | some st =>
    if st.held = some tag then
      (s.modSweep fun w => (w.abandon.advance).afterStep s.planner.building.isSome).beginStep
    else s
  | none => s

def Phase.dropCadence (tag : Tag) : Phase → Phase
  | .cadence left => .cadence (left.filter (· ≠ tag))
  | p => p

/-- Maps of the list that have no unconfirmed turn, handed over in an order the spec does not give
(log 14). -/
def State.handAll (s : State) (names : List MapName) : State :=
  let o := State.order names.length names s
  o.1.foldl (fun s n => s.handIfSettled n) o.2

/-- The flow's modem has one flow fewer (R46 step 7). -/
def State.lowerFlowCount (s : State) (i : Nat) : State :=
  match s.modemAt i with
  | some m => s.writeModem i { m with flowCount := m.flowCount - 1 }
  | none => s

/-- The record becomes FREE and the tag DRAINING with its orphans, or FREE when none is left
(R46 steps 6 and 7, R40). -/
def State.unbind (s : State) (tag : Tag) (ix : Nat) : State :=
  s.modStore fun st =>
    { st with
      flows := tabDel st.flows ix
      tagMap := if s.orphans tag = 0 then tabDel st.tagMap tag.toNat
                else tabPut st.tagMap tag.toNat (.draining (s.orphans tag)) }

/-- The removal of a flow in use (R46, R47, R165). -/
def State.removeFlow (s : State) (tag : Tag) (ix : Nat) (f : Flow) : State :=
  let stranded := s.stranded tag
  let sealingBefore := s.planner.sealing.filter fun m => m.entries.any (·.strandedBy tag)
  let s := (s.leaveReady f).modPlanner fun p =>
    { p with building := p.building.map (·.modPhase (Phase.dropCadence tag)) }
  let s := s.modPort fun p => { p with attention := p.attention.filter (·.tag ≠ tag) }
  let s := s.removeQueued (isTakeOrGive tag)
  let s := stranded.foldl State.withdrawStranded (s.orphanTurns tag)
  let s := ((s.unbind tag ix).lowerFlowCount f.modemIx).abandonStep tag
  s.handAll (sealingBefore.map (·.name))

end Sys2Proof.Machine
end

