-- ==== Sys2Proof/Machine/Tracker.lean ====
section
/-! DEFINITION. The Outcome Tracker (08): reports, expiry, tallies and arrivals. -/

namespace Sys2Proof.Machine

/-! ### Outcome reports (R133 to R136) -/

/-- The two-bit result field; 11b names no result (12.2). -/
def resultOf (r : BitVec 2) : Option TurnResult :=
  match r.toNat with
  | 0 => some .received
  | 1 => some .empty
  | 2 => some .errored
  | _ => none

/-- The consecutive empty count after an outcome (R104). -/
def Cadence.counted (c : Cadence) (res : TurnResult) : Cadence :=
  match res with
  | .received => { c with empties := 0 }
  | .empty => { c with empties := min (c.empties + 1) c.idleLimit }
  | _ => c

/-- An EMPTY outcome that brings the count to a nonzero idle limit puts an ACTIVE cadence flow to
SLEEP (R104). -/
def Flow.fallsAsleep (f : Flow) (res : TurnResult) : Bool :=
  match f.cadence with
  | some c =>
    res == .empty && c.idleLimit != 0 && (c.counted res).empties == c.idleLimit
      && f.state == .active
  | none => false

/-- R135, steps 1 to 3: pending count, marks, and the cadence flow's empty count and sleep. -/
def Flow.reported (f : Flow) (res : TurnResult) (now : Beat) : Flow :=
  { f with
    pendingCount := f.pendingCount - 1
    lastService := now
    lastActivity := if res = .received then now else f.lastActivity
    cadence := f.cadence.map (·.counted res)
    state := if f.fallsAsleep res then .sleep else f.state }

/-- A RECEIVED report that carries a tail bid (R62, R176). -/
def reportTail (r : OutcomeReport) (res : TurnResult) : Option Nat :=
  if res = .received then tailBid r else none

/-- The cadence sleeps counter, under the flow's cadence channel (R104, R107). -/
def State.countSleep (s : State) (f : Flow) (res : TurnResult) : State :=
  match f.cadence with
  | some c =>
    if f.fallsAsleep res then s.modCadence c.chan fun k => { k with sleeps := bump k.sleeps 1 }
    else s
  | none => s

/-- A consumed report acts on the flow that still exists (R135). -/
def State.reportForFlow (s : State) (f : Flow) (r : OutcomeReport) (res : TurnResult) : State :=
  let s := (s.updFlow f.tag (·.reported res s.time.beat)).countSleep f res
  let s := if f.isBid then s.deferredAtZero f.tag else s
  match reportTail r res with
  | some b => s.tailForFlow f b r.chan
  | none => s

/-- A consumed report matched an orphan (R48): a tail bid is dropped (R63). -/
def State.reportForOrphan (s : State) (e : PendingEntry) (r : OutcomeReport) (res : TurnResult) :
    State :=
  let s := s.orphanGone e.tag
  if (reportTail r res).isSome then s.tailDropped r.chan else s

/-- The bytes of a RECEIVED report that count, up to the bytes granted (R136). -/
def countedBytes (e : PendingEntry) (r : OutcomeReport) (res : TurnResult) : Nat :=
  if res = .received then min r.used.toNat e.bytes else 0

/-- The counters of a consuming report (R134, R136). -/
def OutcomeCounters.consumed (k : OutcomeCounters) (e : PendingEntry) (r : OutcomeReport)
    (res : TurnResult) : OutcomeCounters :=
  { k with
    received := if res = .received then bump k.received 1 else k.received
    empty := if res = .empty then bump k.empty 1 else k.empty
    errored := if res = .errored then bump k.errored 1 else k.errored
    bytesReceived := bump k.bytesReceived (countedBytes e r res)
    bytesUnused := bump k.bytesUnused (e.bytes - countedBytes e r res)
    overruns := if e.bytes < r.used.toNat then bump k.overruns 1 else k.overruns
    corrected := bump k.corrected r.corrected.toNat
    uncorrectable := bump k.uncorrectable r.uncorrectable.toNat }

/-- The entry leaves the pending list. -/
def State.erasePending (s : State) (e : PendingEntry) : State :=
  s.modTracker fun t => { t with list := t.list.erase e }

/-- A report consumes its entry (R134 to R136). -/
def State.consume (s : State) (e : PendingEntry) (r : OutcomeReport) (res : TurnResult) : State :=
  let s := (s.erasePending e).modOutcomes r.chan (·.consumed e r res)
  let s :=
    if e.orphan then s.reportForOrphan e r res
    else
      match s.flow e.tag with
      | some f => s.reportForFlow f r res
      | none => s
  s.takeOutcome e.modemIx e.modemKey
    ⟨res, e.cadence, e.tag, e.chan, r.margin, r.corrected.toNat⟩

def PendingEntry.hasKey (e : PendingEntry) (r : OutcomeReport) : Bool :=
  e.chan == r.chan && e.period == r.period && e.slot == r.slot.toNat

/-- A stray changes no flow; a tail bid it carries is dropped and counted (R134, R63). -/
def State.stray (s : State) (r : OutcomeReport) (res : TurnResult) : State :=
  let s := s.modOutcomes r.chan fun k => { k with strays := bump k.strays 1 }
  if (reportTail r res).isSome then s.tailDropped r.chan else s

/-- An outcome report in LISTEN or SERVING (R133, R134). -/
def State.takeReport (s : State) (r : OutcomeReport) : State :=
  let s := s.modOutcomes r.chan fun k => { k with taken := bump k.taken 1 }
  match resultOf r.result with
  | none => s.modOutcomes r.chan fun k => { k with malformed := bump k.malformed 1 }
  | some res =>
    if !s.enabled r.chan || decide (partSlots (s.part r.chan) ≤ r.slot.toNat) then
      s.modOutcomes r.chan fun k => { k with malformed := bump k.malformed 1 }
    else
      match s.tracker.list.find? (·.hasKey r) with
      | none => s.stray r res
      | some e =>
        if e.ended then s.consume e r res
        else s.modOutcomes r.chan fun k => { k with early := bump k.early 1 }

/-! ### Expiry (R137, R138) -/

/-- A pending entry is consumed as LOST (R137). -/
def State.expireEntry (s : State) (e : PendingEntry) : State :=
  let s := (s.erasePending e).modOutcomes e.chan fun k => { k with lost := bump k.lost 1 }
  let s :=
    if e.orphan then s.orphanGone e.tag
    else (s.lowerPending e.tag).deferredAtZero e.tag
  s.takeOutcome e.modemIx e.modemKey ⟨.lost, e.cadence, e.tag, e.chan, 0, 0⟩

/-- Every entry whose expiry tick is `t` is consumed, in list order (R138). -/
def State.expire (s : State) (t : Tick) : State :=
  (s.tracker.list.filter (·.expiry = t)).foldl State.expireEntry s

/-! ### Window tallies (R93, R140) -/

/-- The new W by the tests of R93. -/
def adaptW (w wMin wMax length collisions empties : Nat) : Nat :=
  if length = 0 then w
  else if length < 4 * collisions then min wMax (w + ceilDiv w 4)
  else if length < 2 * empties then max wMin (w - max 1 (w / 8))
  else w

/-- A well-formed BID tally adapts W and is counted (R93, R140). -/
def Channel.tallied (ch : Channel) (p : ChannelPart) (r : WindowTally) : Channel :=
  let k := { ch.outcomes with bidTallies := bump ch.outcomes.bidTallies 1 }
  match ch.w with
  | none => { ch with outcomes := k }
  | some w =>
    let w' := adaptW w p.wMin.toNat p.wMax.toNat r.length.toNat r.collisions.toNat r.empties.toNat
    { ch with
      w := some w'
      outcomes :=
        { k with
          grown := if w < w' then bump k.grown 1 else k.grown
          shrunk := if w' < w then bump k.shrunk 1 else k.shrunk } }

/-- A tally that R140 or R176 calls malformed. -/
def State.badTally (s : State) (r : WindowTally) : Bool :=
  !s.enabled r.chan || decide (256 < r.length.toNat)
    || decide (r.length.toNat < r.singles.toNat + r.collisions.toNat + r.empties.toNat)

/-- A window tally in LISTEN or SERVING (R140). -/
def State.takeTally (s : State) (r : WindowTally) : State :=
  if s.badTally r then
    s.modOutcomes r.chan fun k => { k with badTallies := bump k.badTallies 1 }
  else if r.join then
    s.modOutcomes r.chan fun k =>
      { k with
        joinTallies := bump k.joinTallies 1
        joinSingles := bump k.joinSingles r.singles.toNat
        joinCollisions := bump k.joinCollisions r.collisions.toNat }
  else s.modChan r.chan (·.tallied (s.part r.chan) r)

/-! ### Arrival records (R141) -/

def State.takeArrival (s : State) (r : ArrivalRecord) : State :=
  if !s.enabled r.chan then
    s.modOutcomes r.chan fun k => { k with badArrivals := bump k.badArrivals 1 }
  else if s.port.arrivals.length < Config.arrivalQueue then
    (s.modPort fun p =>
      { p with arrivals := p.arrivals ++ [⟨r.chan, r.identity, r.margin, s.time.nodeTime⟩] }).raise
        .arrival
  else s.modTracker fun t => { t with arrivalsDropped := bump t.arrivalsDropped 1 }

end Sys2Proof.Machine
end

