-- ==== Sys2Proof/Machine/Planner.lean ====
section
/-! DEFINITION. The Turn Planner (05, 06): free runs, cadence turns, windows, the data-turn walk and
the end of building. -/

namespace Sys2Proof.Machine

/-! ### Free runs (R72) -/

/-- A run of consecutive free slots. -/
structure Run where
  start : Nat
  len : Nat
  deriving DecidableEq, Repr

/-- The free runs from `cur` to `stop` that ascending entries leave. -/
def gaps (cur stop : Nat) : List Entry → List Run
  | [] => if cur < stop then [⟨cur, stop - cur⟩] else []
  | e :: r =>
    (if cur < e.start then [⟨cur, e.start - cur⟩] else []) ++ gaps (max cur (e.start + e.len)) stop r

def insertEntry (e : Entry) : List Entry → List Entry
  | [] => [e]
  | x :: r => if e.start < x.start then e :: x :: r else x :: insertEntry e r

/-- The free runs of the map under construction (R72). -/
def State.freeRuns (s : State) (b : Build) : List Run :=
  gaps 0 (partSlots (s.part b.map.name.chan)) b.map.entries

/-- The free runs at and after the cursor, the first cut at the cursor (R81). -/
def runsFrom (cursor : Nat) (runs : List Run) : List Run :=
  runs.filterMap fun r =>
    if r.start + r.len ≤ cursor then none
    else some ⟨max r.start cursor, r.start + r.len - max r.start cursor⟩

def State.modBuild (s : State) (g : Build → Build) : State :=
  s.modPlanner fun p => { p with building := p.building.map g }

def State.setPhase (s : State) (ph : Phase) : State := s.modBuild fun b => { b with phase := ph }

/-- Place an entry on the map under construction (R72). -/
def State.placeEntry (s : State) (e : Entry) : State :=
  s.modBuild fun b => { b with map := { b.map with entries := insertEntry e b.map.entries } }

def Build.full (b : Build) : Bool := decide (Config.mapEntries ≤ b.map.entries.length)

/-! ### Opening a turn: pending entry, local hold, TAKE (R73, R82, R83, R101) -/

def State.pendingFull (s : State) : Bool :=
  decide (Config.pendingEntries ≤ s.tracker.list.length)

def State.localFull (s : State) : Bool :=
  decide (Config.localHolds ≤ s.planner.localHolds.length)

/-- The pending entry of a turn (R131): its expiry is reportWait after its end tick. -/
def State.pendingOf (s : State) (m : MapName) (f : Flow) (e : Entry) : PendingEntry where
  chan := m.chan
  period := m.period.truncate 16
  slot := e.start
  cadence := e.kind == .cadence
  tag := f.tag
  modemIx := f.modemIx
  modemKey := f.modemKey
  bytes := e.bytes
  endTick := s.slotTick m (e.start + e.len)
  expiry := s.slotTick m (e.start + e.len) + s.inForce.reportWait
  orphan := false
  ended := false

def State.openPending (s : State) (e : PendingEntry) : State :=
  s.modTracker fun t => { t with list := insertPending e t.list }

def State.addLocalHold (s : State) (m : MapName) (key : Key) (e : Entry) : State :=
  s.modPlanner fun p =>
    { p with localHolds := p.localHolds ++
        [⟨key, s.slotTick m e.start, s.slotTick m (e.start + e.len), m.turn e.start⟩] }

/-- Queue the TAKE with hold of a turn (R82, R101). -/
def State.queueTakeHold (s : State) (m : MapName) (f : Flow) (e : Entry) (b : Nat) : State :=
  s.enqueue
    ⟨.takeHold f.tag (BitVec.ofNat 16 b) f.modemKey (s.slotTick m e.start)
      (s.slotTick m (e.start + e.len)), some (m.turn e.start)⟩

/-! ### Cadence turns (R96 to R101) -/

/-- Lateness at period n, none when the flow is not due (R96). -/
def Cadence.lateness (c : Cadence) (n : Period) : Option Nat :=
  if (n - c.nextDue).toNat < 2147483648 then some (n - c.nextDue).toNat else none

/-- How many occurrences R97 drops: whole intervals until the lateness is at or below the jitter
limit or the flow is no longer due. -/
def Cadence.drops (c : Cadence) (n : Period) : Nat :=
  match c.lateness n with
  | some late => if late ≤ c.jitter then 0 else ceilDiv (late - c.jitter) c.interval
  | none => 0

def Cadence.later (c : Cadence) (k : Nat) : Cadence :=
  { c with nextDue := c.nextDue + BitVec.ofNat 32 (k * c.interval) }

/-- The ACTIVE cadence flows due on a channel at a period, in record order (R97). -/
def State.dueFlows (s : State) (m : MapName) : List Flow :=
  (s.store.flows.map (·.2)).filter fun f =>
    match f.cadence with
    | some c => f.state == .active && c.chan == m.chan && (c.lateness m.period).isSome
    | none => false

def Flow.dropsAt (f : Flow) (n : Period) : Nat :=
  match f.cadence with
  | some c => c.drops n
  | none => 0

/-- Drop a late flow's occurrences and pass one CADENCE_DROP record (R97). -/
def State.dropOccurrences (s : State) (m : MapName) (f : Flow) : State :=
  ((s.updFlow f.tag fun f => { f with cadence := f.cadence.map (·.later (f.dropsAt m.period)) })
    |>.modCadence m.chan fun k => { k with dropped := bump k.dropped (f.dropsAt m.period) })
    |>.appendFault .cadenceDrop f.modemKey f.tag

/-- R97 for every due flow; the order of several that drop is free (log 12). -/
def State.dropLate (s : State) (m : MapName) : State :=
  let late := (s.dueFlows m).filter fun f => f.dropsAt m.period != 0
  let o := State.order late.length late s
  o.1.foldl (fun s f => s.dropOccurrences m f) o.2

/-- The keys of R98: lateness greatest first, then phase slot, then flow tag, lowest first. -/
def cadenceBefore (n : Period) (f g : Flow) : Bool :=
  match f.cadence, g.cadence with
  | some a, some b =>
    let la := (a.lateness n).getD 0
    let lb := (b.lateness n).getD 0
    decide (lb < la) || (la == lb && (decide (a.phase < b.phase)
      || (a.phase == b.phase && decide (f.tag.toNat < g.tag.toNat))))
  | _, _ => false

def insertCadence (n : Period) (f : Flow) : List Flow → List Flow
  | [] => [f]
  | g :: r => if cadenceBefore n f g then f :: g :: r else g :: insertCadence n f r

/-- The order of step 1 (R98). -/
def State.cadenceOrder (s : State) (m : MapName) : List Tag :=
  ((s.dueFlows m).foldr (insertCadence m.period) []).map (·.tag)

/-- The start slot for a cadence turn: at the phase slot when free, else at the earliest long enough
run that starts after it (R100, steps 2 to 4). -/
def cadenceSlot (runs : List Run) (phase need : Nat) : Option Nat :=
  if runs.any (fun r => decide (r.start ≤ phase) && decide (phase + need ≤ r.start + r.len)) then
    some phase
  else (runs.find? fun r => decide (phase < r.start) && decide (need ≤ r.len)).map (·.start)

def State.blocked (s : State) (c : Chan) : State :=
  s.modCadence c fun k => { k with blocked := bump k.blocked 1 }

/-- R99: the occurrence cannot be carried at this build. -/
def State.cadenceBarred (s : State) (f : Flow) (m : Modem) : Bool :=
  f.pendingCount == Config.pendingPerFlow || s.pendingFull || (m.single && s.localFull)
    || (m.single && s.modemSpans f.modemIx && s.txFull)

/-- The placement of a cadence turn (R101). -/
def State.placeCadence (s : State) (n : MapName) (f : Flow) (m : Modem) (c : Cadence)
    (slot need : Nat) : State :=
  let hold := m.single && s.modemSpans f.modemIx
  let e : Entry :=
    { kind := .cadence, start := slot, len := need, tag := f.tag, profile := m.profileInForce,
      bytes := c.bytes, fate := if hold then .queued else .noTake, hold := hold, orphan := false }
  let s := (s.placeEntry e).openPending (s.pendingOf n f e)
  let s := s.updFlow f.tag fun f =>
    { f with pendingCount := f.pendingCount + 1, cadence := f.cadence.map (·.later 1) }
  let s := if m.single then s.addLocalHold n f.modemKey e else s
  let s := if hold then s.queueTakeHold n f e 0 else s
  s.modCadence n.chan fun k => { k with placed := bump k.placed 1 }

/-- R100 for a flow that passes R99: size, position, hold check. -/
def State.positionCadence (s : State) (b : Build) (f : Flow) (m : Modem) (c : Cadence) : State :=
  let n := b.map.name
  let need := s.slots m.profileInForce n.chan c.bytes
  match cadenceSlot (s.freeRuns b) c.phase need with
  | none => s.blocked n.chan
  | some slot =>
    if m.single && s.heldAcross m.key (s.slotTick n slot) (s.slotTick n (slot + need)) then
      s.blocked n.chan
    else s.placeCadence n f m c slot need

/-- The planner reaches one flow of step 1 (R98, R99); a flow that is gone, asleep or no longer due
is not handled (R105, R108). -/
def State.handleCadence (s : State) (b : Build) (tag : Tag) : State :=
  match s.flow tag with
  | none => s
  | some f =>
    match f.cadence, s.modemAt f.modemIx with
    | some c, some m =>
      if f.state != .active || (c.lateness b.map.name.period).isNone then s
      else if s.cadenceBarred f m then s.blocked b.map.name.chan
      else s.positionCadence b f m c
    | _, _ => s

/-! ### Windows (R74, R75) -/

def windowEntry (kind : EntryKind) (start len : Nat) : Entry :=
  { kind := kind, start := start, len := len, tag := 0, profile := 0, bytes := 0, fate := .noTake,
    hold := false, orphan := false }

/-- The period carries a join window (R74). -/
def joinDue (p : ChannelPart) (n : Period) : Bool :=
  decide (0 < p.joinSlots.toNat) && n.toNat % p.joinEvery.toNat == 0

/-- Step 2: the join window (R74). -/
def State.placeJoin (s : State) (b : Build) : State :=
  let c := b.map.name.chan
  let len := (s.part c).joinSlots.toNat
  match (s.freeRuns b).find? (fun r => decide (len ≤ r.len)) with
  | some r => s.placeEntry (windowEntry .join r.start len)
  | none => s.modMaps c fun k => { k with joinSkipped := bump k.joinSkipped 1 }

/-- The longest run, the earliest one when several are longest (R75). -/
def longestRun : List Run → Option Run
  | [] => none
  | r :: rest =>
    match longestRun rest with
    | none => some r
    | some q => if r.len < q.len then some q else some r

/-- Step 3: the bid window (R75). -/
def State.placeBid (s : State) (b : Build) : State :=
  let c := b.map.name.chan
  match (s.freeRuns b).find? (fun r => decide (b.w ≤ r.len)) with
  | some r => s.placeEntry (windowEntry .bid r.start b.w)
  | none =>
    match longestRun (s.freeRuns b) with
    | some r =>
      (s.placeEntry (windowEntry .bid r.start r.len)).modMaps c
        fun k => { k with bidClipped := bump k.bidClipped 1 }
    | none => s.modMaps c fun k => { k with bidAbsent := bump k.bidAbsent 1 }

/-! ### The data-turn walk (R78 to R82) -/

/-- A turn that R81 finds: its start slot, length and bytes. -/
structure Candidate where
  start : Nat
  len : Nat
  bytes : Nat
  deriving DecidableEq, Repr

/-- Size a want against the runs from the cursor onward (R81). -/
def sizeAgainst (pr : ProfilePart) (q minGrant want : Nat) : List Run → Option Candidate
  | [] => none
  | r :: rest =>
    if slotsFor pr q want ≤ r.len then some ⟨r.start, slotsFor pr q want, want⟩
    else if minGrant ≤ fitFor pr q r.len ∧ 0 < fitFor pr q r.len then
      some ⟨r.start, slotsFor pr q (fitFor pr q r.len), fitFor pr q r.len⟩
    else sizeAgainst pr q minGrant want rest

/-- R79: the flow cannot be served at this visit and is skipped in place. A spanning-active flow is so in
LISTEN (R79), and to the end of a walk that began in LISTEN (R15, log 40). -/
def State.skipInPlace (s : State) (b : Build) (f : Flow) (m : Modem) : Bool :=
  !f.chanMask.getLsbD b.map.name.chan.val
    || ((s.life == .listen || b.barred) && s.spanningActive f) || s.pendingFull
    || (m.single && s.localFull) || (s.spanningActive f && s.txFull)

/-- The want of a refreshed flow (R80, step 3). -/
def State.want (s : State) (f : Flow) (m : Modem) : Nat :=
  let cap := turnCap f (s.profile m.profileInForce)
  if f.rate = 0 then min f.unclaimed cap else min (min f.unclaimed f.credit) cap

/-- The record after a placement of `b` bytes (R82, steps 2 to 5). -/
def Flow.granted (f : Flow) (b : Nat) (spans : Bool) : Flow :=
  let g := f.charge b
  if spans then { g with pendingCount := g.pendingCount + 1, tentative := g.tentative + b }
  else { g with pendingCount := g.pendingCount + 1, outstanding := g.outstanding - b }

/-- The TAKE of a data turn: with hold for a single-chain modem, without otherwise (R82 step 5). -/
def State.queueTake (s : State) (n : MapName) (f : Flow) (m : Modem) (e : Entry) : State :=
  if m.single then s.queueTakeHold n f e e.bytes
  else s.enqueue ⟨.take f.tag (BitVec.ofNat 16 e.bytes), some (n.turn e.start)⟩

/-- The flow goes to the tail of its list while it is still eligible; otherwise it has left it
(R82 step 7). -/
def State.requeue (s : State) (tag : Tag) : State :=
  match s.flow tag with
  | some f => if f.eligible then s.toTail f else s
  | none => s

/-- The entry of a data turn (R72, R82). -/
def dataEntry (f : Flow) (m : Modem) (k : Candidate) (spans : Bool) : Entry :=
  { kind := .data, start := k.start, len := k.len, tag := f.tag, profile := m.profileInForce,
    bytes := k.bytes, fate := if spans then .queued else .noTake, hold := spans && m.single,
    orphan := false }

/-- The placement of a data turn (R82). -/
def State.placeData (s : State) (n : MapName) (f : Flow) (m : Modem) (k : Candidate)
    (left : List Tag) (classes : List ServiceClass) : State :=
  let spans := s.spanningActive f
  let e := dataEntry f m k spans
  let s := (s.placeEntry e).openPending (s.pendingOf n f e)
  let s := s.updFlow f.tag (·.granted k.bytes spans)
  let s := if spans then s.queueTake n f m e else s
  let s := if m.single then s.addLocalHold n f.modemKey e else s
  (s.requeue f.tag).setPhase (.walk (k.start + k.len) left classes)

/-- Size and place a flow whose want passes R80 (R81). -/
def State.sizeAndPlace (s : State) (b : Build) (f : Flow) (m : Modem) (cursor : Nat)
    (left : List Tag) (classes : List ServiceClass) : State :=
  let n := b.map.name
  match sizeAgainst (s.profile m.profileInForce) (s.part n.chan).q.toNat s.minGrant (s.want f m)
      (runsFrom cursor (s.freeRuns b)) with
  | none => s.setPhase .done
  | some k =>
    if m.single && s.heldAcross m.key (s.slotTick n k.start) (s.slotTick n (k.start + k.len)) then
      s.setPhase (.walk k.start left classes)
    else s.placeData n f m k left classes

/-- A visit to one flow of the walk (R79, R80). -/
def State.visit (s : State) (b : Build) (tag : Tag) (cursor : Nat) (left : List Tag)
    (classes : List ServiceClass) : State :=
  match s.flow tag with
  | none => s
  | some f =>
    match s.modemAt f.modemIx with
    | none => s
    | some m =>
      if s.skipInPlace b f m then s
      else
        let f := f.refresh s.time.beat
        let s := s.updFlow tag fun _ => f
        if s.want f m < min s.minGrant f.unclaimed ∨ s.want f m = 0 then s.toTail f
        else s.sizeAndPlace b f m cursor left classes

/-! ### Placement, step by step (R70, R72, R78) -/

/-- The walk ends at a full map or when no free run is left at or after the cursor (R78). -/
def State.walkEnds (s : State) (b : Build) (cursor : Nat) : Bool :=
  b.full || (runsFrom cursor (s.freeRuns b)).isEmpty

/-- A walk that has reached its end stops there: slots or entries that come free later do not reopen
it (R78). -/
def State.endWalk (s : State) : State :=
  match s.planner.building with
  | none => s
  | some b =>
    match b.phase with
    | .walk cursor _ _ => if s.walkEnds b cursor then s.setPhase .done else s
    | _ => s

/-- The walk begins at the first free run, when there is one (R78), and keeps whether the station was in
LISTEN then (R15). -/
def State.beginWalk (s : State) : State :=
  match s.planner.building with
  | none => s
  | some b =>
    match s.freeRuns b with
    | [] => s.setPhase .done
    | r :: _ =>
      s.modBuild fun b =>
        { b with phase := .walk r.start [] quadIndexes, barred := s.life == .listen }

/-- One placement step of the build: a cadence flow, a window, the start of a class, or a visit. -/
def State.placeOne (s : State) : State :=
  match s.planner.building with
  | none => s
  | some b =>
    match b.phase with
    | .cadence [] => s.setPhase .joinWindow
    | .cadence (t :: left) =>
      if b.full then s.setPhase .done else (s.setPhase (.cadence left)).handleCadence b t
    | .joinWindow =>
      if !joinDue (s.part b.map.name.chan) b.map.name.period then s.setPhase .bidWindow
      else if b.full then s.setPhase .done
      else (s.placeJoin b).setPhase .bidWindow
    | .bidWindow => if b.full then s.setPhase .done else (s.placeBid b).beginWalk.endWalk
    | .walk _ [] [] => s.setPhase .done
    | .walk cursor [] (k :: classes) =>
      if s.walkEnds b cursor then s.setPhase .done
      else s.setPhase (.walk cursor (s.planner.ready.get k) classes)
    | .walk cursor (t :: left) classes =>
      if s.walkEnds b cursor then s.setPhase .done
      else ((s.setPhase (.walk cursor left classes)).visit b t cursor left classes).endWalk
    | .done => s

def State.placeSteps : Nat → State → State
  | 0, s => s
  | n + 1, s => State.placeSteps n s.placeOne

def Phase.left : Phase → Nat
  | .cadence l => l.length
  | .walk _ l _ => l.length
  | _ => 0

/-- More steps than any build still has to take: the flows left, every member of the ready lists,
the windows and the four classes. -/
def State.stepsLeft (s : State) : Nat :=
  match s.planner.building with
  | none => 0
  | some b =>
    b.phase.left + (s.planner.ready.q0.length + s.planner.ready.q1.length
      + s.planner.ready.q2.length + s.planner.ready.q3.length) + 12

/-- Placement runs to its end (R78). -/
def State.placeRest (s : State) : State := State.placeSteps s.stepsLeft s

/-! ### Taking a request, and the end of building (R69, R70, R84) -/

/-- The sweep gives way to a build: with no step in flight it is SUSPENDED at once (R159). -/
def State.suspendSweep (s : State) : State :=
  if s.sweep.state = .running ∧ s.sweep.step = none then
    s.modSweep fun w => { w with state := .suspended }
  else s

/-- The map a build starts from: nothing placed, W as the channel has it (R70, R94; log 35). -/
def State.startBuild (s : State) (m : MapName) : Build where
  map := ⟨m, [], false⟩
  w := ((s.chans.get m.chan).w).getD 0
  phase := .cadence (s.cadenceOrder m)
  barred := false

/-- The planner takes the head request; R97's drops are made at this event (R69, R70, R97). -/
def State.takeRequest (s : State) (m : MapName) (rest : List MapName) : State :=
  let s := (s.modPlanner fun p => { p with requests := rest }).suspendSweep.dropLate m
  s.modPlanner fun p => { p with building := some (s.startBuild m) }

/-- The sweep resumes when no map is BUILDING and no request is about to be taken (R84, R159). -/
def State.resumeSweep (s : State) : State :=
  if s.sweep.state = .suspended ∧ s.planner.building = none ∧ s.planner.requests = [] then
    s.modSweep fun w => { w with state := .running }
  else s

/-- The planner is free (R84). -/
def State.freePlanner (s : State) : State :=
  (s.modPlanner fun p => { p with building := none }).resumeSweep

/-- Building ends: the map is handed over, or becomes SEALING (R84). -/
def State.endBuild (s : State) (b : Build) : State :=
  if b.map.settled then s.freePlanner.handOver b.map
  else s.freePlanner.modPlanner fun p => { p with sealing := p.sealing ++ [b.map] }

end Sys2Proof.Machine
end

