-- ==== Sys2Proof/Machine/Clock.lean ====
section
/-! DEFINITION. Deadlines (01): which ones stand, what each does when it falls, counting up to a tick,
and the events of a reload. -/

namespace Sys2Proof.Machine

/-! ### The deadlines that stand (R6) -/

/-- A tick deadline of the part, named by its channel and period or by its tick (log 2). `skip` is a
period that a reload makes the streams move past (R12 item 2). -/
inductive Deadline where
  | beat (t : Tick)
  | buildStart (m : MapName)
  | deliver (m : MapName)
  | start (m : MapName)
  | skip (m : MapName)
  | listenEnd (t : Tick)
  | expiry (t : Tick)
  | localEnd (t : Tick)
  | sharedEnd (t : Tick)
  | presence (t : Tick)
  | absence (k : StationNo) (t : Tick)
  deriving DecidableEq, Repr

/-- The command of a deadline; a skip has none. -/
def Deadline.command : Deadline → Option Instr
  | .beat t => some (.beatEvent t)
  | .buildStart m => some (.buildStart m.chan m.period)
  | .deliver m => some (.deliverDeadline m.chan m.period)
  | .start m => some (.periodStart m.chan m.period)
  | .skip _ => none
  | .listenEnd t => some (.listenEnd t)
  | .expiry t => some (.pendingExpiry t)
  | .localEnd t => some (.localHoldEnd t)
  | .sharedEnd t => some (.sharedHoldEnd t)
  | .presence t => some (.presenceTimer t)
  | .absence k t => some (.absenceTick k t)

/-- The tick at which a deadline falls (R9). -/
def State.tickOf (s : State) : Deadline → Tick
  | .beat t => t
  | .buildStart m => s.buildTick m
  | .deliver m => s.deadlineTick m
  | .start m => s.startTick m
  | .skip m => s.deadlineTick m
  | .listenEnd t => t
  | .expiry t => t
  | .localEnd t => t
  | .sharedEnd t => t
  | .presence t => t
  | .absence _ t => t

/-- The events the three streams of a channel hold next (R9, R10). -/
def clockDeadlines (c : Chan) (k : PeriodClock) : List Deadline :=
  [.start ⟨c, k.start⟩, .deliver ⟨c, k.deadline⟩, .buildStart ⟨c, k.build⟩]

def State.chanDeadlines (s : State) (c : Chan) : List Deadline :=
  match (s.chans.get c).clock with
  | some k => clockDeadlines c k
  | none => []

def State.absenceDeadlines (s : State) : List Deadline :=
  allStations.filterMap fun k => ((s.stored k).absence).map (.absence k ·)

/-- Every deadline that stands; an untimed station counts no ticks and has none (R1). -/
def State.deadlines (s : State) : List Deadline :=
  if s.time.timed then
    [.beat s.time.nextBeat]
    ++ quadIndexes.flatMap s.chanDeadlines
    ++ (s.listenEnd.map Deadline.listenEnd).toList
    ++ s.tracker.list.map (.expiry ·.expiry)
    ++ s.planner.localHolds.map (.localEnd ·.stop)
    ++ s.link.holds.map (.sharedEnd ·.stop)
    ++ (s.link.presence.map Deadline.presence).toList
    ++ s.absenceDeadlines
  else []

/-! ### What a deadline does when it falls -/

/-- A beat event raised by counting (R5, R7). -/
def State.fallBeat (s : State) : State :=
  let w := min (s.time.watch + 1) Config.lossCount
  let s := s.modTime fun t =>
    { t with beat := t.beat + 1, nextBeat := t.nextBeat + 65536, watch := w }
  if s.time.line = .arriving ∧ w = Config.lossCount then
    (s.modTime fun t => { t with line := .lost, lineLosses := bump t.lineLosses 1 }).raise .time
  else s

def State.modClock (s : State) (c : Chan) (g : PeriodClock → PeriodClock) : State :=
  s.modChan c fun ch => { ch with clock := ch.clock.map g }

/-- A map is MISSED: counted, and MAP raised (R69, R71). -/
def State.missMap (s : State) (c : Chan) : State :=
  (s.modMaps c fun k => { k with missed := bump k.missed 1 }).raise .map

/-- A build-start: the stream moves on, and a request is queued or the map is MISSED (R10, R69). -/
def State.fallBuildStart (s : State) (m : MapName) : State :=
  let s := s.modClock m.chan fun k => { k with build := m.period + 1 }
  if s.planner.requests.length < Config.requestQueue then
    s.modPlanner fun p => { p with requests := p.requests ++ [m] }
  else s.missMap m.chan

/-- A deadline cuts the build: the planner is free and the map is sealed and handed (R71, R84). -/
def State.cutBuild (s : State) (b : Build) : State :=
  ((s.modMaps b.map.name.chan fun k => { k with cut := bump k.cut 1 }).raise .map).freePlanner
    |>.sealAtDeadline { b.map with cut := true }

/-- The map of a name, if it is SEALING. -/
def State.sealingMap (s : State) (m : MapName) : Option TurnMap :=
  s.planner.sealing.find? (·.name == m)

def State.dropSealing (s : State) (m : MapName) : State :=
  s.modPlanner fun p => { p with sealing := p.sealing.filter (·.name ≠ m) }

/-- What a deliver deadline does to a map that has left the request queue (R71). -/
def State.deadlineOfMap (s : State) (m : MapName) : State :=
  match s.planner.building with
  | some b =>
    if b.map.name = m then s.cutBuild b
    else match s.sealingMap m with
      | some x => (s.dropSealing m).sealAtDeadline x
      | none => s
  | none =>
    match s.sealingMap m with
    | some x => (s.dropSealing m).sealAtDeadline x
    | none => s

/-- A deliver deadline: the stream moves on, and the map is handled by its state (R10, R71). -/
def State.fallDeliver (s : State) (m : MapName) : State :=
  let s := s.modClock m.chan fun k => { k with deadline := m.period + 1 }
  if s.planner.requests.contains m then
    ((s.modPlanner fun p => { p with requests := p.requests.filter (· ≠ m) }).missMap
      m.chan).resumeSweep
  else s.deadlineOfMap m

/-- The start stream moves to the next period, past skipped ones (R12, log 30). -/
def PeriodClock.nextStart : Nat → PeriodClock → PeriodClock
  | 0, k => k
  | n + 1, k =>
    if k.skips.contains k.start then
      PeriodClock.nextStart n { k with start := k.start + 1, skips := k.skips.filter (· ≠ k.start) }
    else k

def PeriodClock.started (k : PeriodClock) (n : Period) : PeriodClock :=
  PeriodClock.nextStart k.skips.length { k with start := n + 1 }

/-- A period-start: the stream moves on; a map still in the map output queue is LATE, a DELIVERED
one has ended (R10, R89). -/
def State.fallStart (s : State) (m : MapName) : State :=
  let s := s.modClock m.chan (·.started m.period)
  match s.mapPort.queue.find? (·.name == m) with
  | some x =>
    State.discardLate
      { s with mapPort := { s.mapPort with queue := s.mapPort.queue.filter (·.name ≠ m) } } x
  | none =>
    { s with mapPort := { s.mapPort with delivered := s.mapPort.delivered.filter (·.name ≠ m) } }

/-- A period is skipped: all three streams move past it (R12 item 2). -/
def State.fallSkip (s : State) (m : MapName) : State :=
  s.modChan m.chan fun ch =>
    { ch with
      skipped := bump ch.skipped 1
      clock := ch.clock.map fun k =>
        if k.start = m.period then
          { k with build := m.period + 1, deadline := m.period + 1, start := m.period + 1 }
        else
          { k with build := m.period + 1, deadline := m.period + 1, skips := k.skips ++ [m.period] } }

/-- LISTEN ends: the station enters SERVING and raises START (R15). -/
def State.fallListenEnd (s : State) : State :=
  State.raise { s with life := .serving, listenEnd := none } .start

def State.fallLocalEnd (s : State) (t : Tick) : State :=
  s.modPlanner fun p => { p with localHolds := p.localHolds.filter (·.stop ≠ t) }

def State.fallSharedEnd (s : State) (t : Tick) : State :=
  s.modLink fun l => { l with holds := l.holds.filter (·.stop ≠ t) }

/-- The timer tick after `t` that lies after node time, in steps of 262,144 (R124). -/
def nextPresence (t now : Tick) : Tick :=
  t + BitVec.ofNat 32 (((now - t).toNat / Config.presenceInterval + 1) * Config.presenceInterval)

/-- The presence timer passes: one PRESENCE is queued and the timer advances (R124). -/
def State.fallPresence (s : State) (t : Tick) : State :=
  s.queuePresence.modLink fun l => { l with presence := some (nextPresence t s.time.nodeTime) }

/-- What a deadline does, handled by the block that owns it (R6). -/
def State.fall (s : State) (d : Deadline) : State :=
  match d with
  | .beat _ => s.fallBeat
  | .buildStart m => s.fallBuildStart m
  | .deliver m => s.fallDeliver m
  | .start m => s.fallStart m
  | .skip m => s.fallSkip m
  | .listenEnd _ => s.fallListenEnd
  | .expiry t => s.expire t
  | .localEnd t => s.fallLocalEnd t
  | .sharedEnd t => s.fallSharedEnd t
  | .presence t => s.fallPresence t
  | .absence k _ => s.markAbsent k

/-! ### Counting (R1, R6) -/

/-- A move of node time from `base` over `span` ticks passes a tick. -/
def reaches (base : Tick) (span : Nat) (t : Tick) : Bool := decide ((t - base).toNat ≤ span)

/-- The entry after node time has moved from `base` over `span` ticks (R134). -/
def PendingEntry.endedBy (e : PendingEntry) (base : Tick) (span : Nat) : PendingEntry :=
  { e with ended := e.ended || reaches base span e.endTick }

/-- Node time passes the end ticks of pending entries, whose turns have then ended (R1, R134). -/
def Tracker.passing (tr : Tracker) (base : Tick) (span : Nat) : Tracker :=
  { tr with list := tr.list.map (·.endedBy base span) }

/-- Counting brings node time to `t`. -/
def State.setNow (s : State) (t : Tick) : State :=
  (s.modTracker (·.passing s.time.nodeTime (ahead s.time.nodeTime t))).modTime
    fun x => { x with nodeTime := t }

/-- How far counting still is from a deadline. -/
def State.distance (s : State) (d : Deadline) : Nat := ahead s.time.nodeTime (s.tickOf d)

/-- The deadlines that counting meets before it has gone `limit` ticks. -/
def State.within (s : State) (limit : Nat) : List Deadline :=
  s.deadlines.filter fun d => decide (s.distance d < limit)

/-- The ones it meets first; several when they share a tick (R6: no order among them). -/
def State.nearest (s : State) (limit : Nat) : List Deadline :=
  let ds := s.within limit
  ds.filter fun d => ds.all fun e => decide (s.distance d ≤ s.distance e)

/-- Count node time up to `t`, every deadline strictly before it falling on the way (log 2). -/
def State.countLoop : Nat → Tick → State → State
  | 0, t, s => s.setNow t
  | n + 1, t, s =>
    match s.draw (s.nearest (ahead s.time.nodeTime t)) with
    | none => s.setNow t
    | some (d, s') => State.countLoop n t ((s'.setNow (s'.tickOf d)).fall d)

/-- More falls than counting to `t` can meet: fewer than 32 deadlines fall at one tick. -/
def State.countFuel (s : State) (t : Tick) : Nat := 32 * (ahead s.time.nodeTime t + 1)

def State.countTo (s : State) (t : Tick) : State := State.countLoop (s.countFuel t) t s

/-- A deadline's command: counting brings node time to its tick and it falls. A command whose deadline
does not stand, or that a fall on the way has removed, does nothing more (log 2). -/
def State.atDeadline (s : State) (d : Deadline) : State :=
  if d ∈ s.deadlines then
    let s' := s.countTo (s.tickOf d)
    if d ∈ s'.deadlines then s'.fall d else s'
  else s

/-! ### A reload (R6, R12) -/

/-- The next event of a channel at a reload, in the order of R12. -/
def State.reloadEvent (s : State) (base : Tick) (span : Nat) (c : Chan) : Option Deadline :=
  match (s.chans.get c).clock with
  | none => none
  | some k =>
    if k.start ≠ k.deadline ∧ reaches base span (s.startTick ⟨c, k.start⟩) then
      some (.start ⟨c, k.start⟩)
    else if reaches base span (s.deadlineTick ⟨c, k.deadline⟩) then
      if k.deadline = k.build then some (.skip ⟨c, k.build⟩) else some (.deliver ⟨c, k.deadline⟩)
    else if reaches base span (s.buildTick ⟨c, k.build⟩) then some (.buildStart ⟨c, k.build⟩)
    else none

/-- The events that may come next at a reload: one of each owner that orders its own (R12, R126,
R138), and any hold end (R122). -/
def State.reloadNext (s : State) (base : Tick) (span : Nat) : List Deadline :=
  quadIndexes.filterMap (s.reloadEvent base span)
  ++ ((s.listenEnd.filter (reaches base span)).map Deadline.listenEnd).toList
  ++ ((s.tracker.list.find? fun e => reaches base span e.expiry).map (.expiry ·.expiry)).toList
  ++ (s.planner.localHolds.filter fun h => reaches base span h.stop).map (.localEnd ·.stop)
  ++ (s.link.holds.filter fun h => reaches base span h.stop).map (.sharedEnd ·.stop)
  ++ ((s.link.presence.filter (reaches base span)).map Deadline.presence).toList
  ++ (s.absenceDeadlines.filter fun d => reaches base span (s.tickOf d)).take 1

def State.reloadLoop : Nat → Tick → Nat → State → State
  | 0, _, _, s => s
  | n + 1, base, span, s =>
    match s.draw (s.reloadNext base span) with
    | none => s
    | some (d, s') => State.reloadLoop n base span (s'.fall d)

/-- Everything but beats that a reload passes over falls at the reload (R6, R12). -/
def State.reloadFalls (s : State) (base : Tick) (span : Nat) : State :=
  State.reloadLoop (64 * (span + 1)) base span s

/-- Deadlines of the present tick fall, one after another, in the free order of log 4. -/
def State.presentLoop : Nat → State → State
  | 0, s => s
  | n + 1, s =>
    match s.draw (s.within 1) with
    | none => s
    | some (d, s') => State.presentLoop n (s'.fall d)

/-- The deadlines of the present tick that no command has taken yet fall before a reload moves node
time away from it (log 5): counting reached them, so they come in the order of counting, which is free
also among the events of one channel (log 4). -/
def State.fallPresent (s : State) : State := State.presentLoop (s.countFuel s.time.nodeTime) s

/-! ### Entry to LISTEN (R11, R14, R94, R124, R159) -/

/-- The first period of a channel at entry tick T (R11). -/
def firstPeriod (p : ChannelPart) (buildLead : BitVec 32) (t : Tick) : Period :=
  let d := (t - p.epoch + buildLead).toNat
  if d = 0 ∨ 2147483648 ≤ d then 0 else BitVec.ofNat 32 (ceilDiv d (partTicks p))

/-- A channel at entry to LISTEN: an enabled one gets its clock and W = Wmin (R11, R94). -/
def Channel.listen (ch : Channel) (p : ChannelPart) (buildLead : BitVec 32) (t : Tick) : Channel :=
  if p.enabled then
    let n := firstPeriod p buildLead t
    { ch with clock := some ⟨n, n, n, []⟩, w := some p.wMin.toNat }
  else ch

/-- The channels whose first build-start is the entry tick itself (R11, log 36). -/
def State.buildNow (s : State) : List MapName :=
  quadIndexes.filterMap fun c =>
    match (s.chans.get c).clock with
    | some k => if s.buildTick ⟨c, k.build⟩ = s.time.nodeTime then some ⟨c, k.build⟩ else none
    | none => none

/-- Their build-starts are raised at the entry event, in an order the spec does not give (R69). -/
def State.raiseEntryBuilds (s : State) : State :=
  let o := State.order 4 s.buildNow s
  o.1.foldl State.fallBuildStart o.2

/-- The station enters LISTEN with an accepted start record; the entry tick is node time (R14). -/
def State.enterListen (s : State) (r : StartRecord) : State :=
  let t := s.time.nodeTime
  let s :=
    { s with
      life := .listen
      accepted := some r
      listenEnd := some (t + BitVec.ofNat 32 Config.listenSpan)
      chans :=
        { q0 := s.chans.q0.listen r.channels.q0 r.buildLead t
          q1 := s.chans.q1.listen r.channels.q1 r.buildLead t
          q2 := s.chans.q2.listen r.channels.q2 r.buildLead t
          q3 := s.chans.q3.listen r.channels.q3 r.buildLead t } }
  let s := s.modSweep fun w => { w with state := .running, cursor := 0 }
  let s := s.queuePresence.modLink fun l =>
    { l with presence := some (t + BitVec.ofNat 32 Config.presenceInterval) }
  s.raiseEntryBuilds

/-! ### The time word (R2 to R7) -/

/-- The first valid time word makes the station timed; an accepted record then enters LISTEN
(R3, R13). -/
def State.firstWord (s : State) (v : Tick) : State :=
  let s := s.modTime fun t =>
    { t with timed := true, nodeTime := v, beat := 0, watch := 0, line := .arriving,
             nextBeat := v + 65536 }
  match s.life, s.accepted with
  | .start, some r => s.enterListen r
  | _, _ => s

/-- A valid word is taken: the watch count and the line state (R4, R7). -/
def TimeUnit.heardWord (t : TimeUnit) : TimeUnit := { t with watch := 0, line := .arriving }

/-- The one beat event of a forward slip adds to the beat counter only (R5, R7). -/
def TimeUnit.slipBeat (t : TimeUnit) (base v : Tick) : TimeUnit :=
  { t with
    beat := t.beat + 1
    nextBeat := if reaches base (v - base).toNat t.nextBeat then v + 65536 else t.nextBeat }

/-- A slip is forward when the stated value is after node time; at a distance of exactly 2^31 neither
is before the other, and the direction is a free value (R4, log 7). -/
def State.slipForward (s : State) (v : Tick) : Bool × State :=
  if (v - s.time.nodeTime).toNat = 2147483648 then
    (Config.freeChoice s.free % 2 == 1, { s with free := s.free + 1 })
  else (before s.time.nodeTime v, s)

/-- A slip: node time is reloaded and counted, TIME raised; a forward one raises a beat event and
lets every deadline passed over fall (R4, R5, R6, R12). -/
def State.slip (s : State) (v : Tick) : State :=
  let s := s.fallPresent
  let base := s.time.nodeTime
  let dir := s.slipForward v
  let s := (dir.2.modTime fun t =>
    { t.heardWord with nodeTime := v, slips := bump t.slips 1 }).raise .time
  if dir.1 then
    ((s.modTracker (·.passing base (v - base).toNat)).modTime (·.slipBeat base v)).reloadFalls base
      (v - base).toNat
  else s

/-- A time word (R2 to R4). -/
def State.takeTimeWord (s : State) (v : Tick) (check : BitVec 16) : State :=
  if !timeWordValid v check then s.modTime fun t => { t with badWords := bump t.badWords 1 }
  else if !s.time.timed then s.firstWord v
  else if v = s.time.nodeTime then s.modTime (·.heardWord)
  else s.slip v

end Sys2Proof.Machine
end

