-- ==== Sys2Proof/Machine/Hearing.lean ====
section
/-! DEFINITION. Arbitration and hearing (07, 7.3 to 7.5): a contention decided, the end of a
transmission, the six steps of R115 and the fate of an own TAKE. -/

namespace Sys2Proof.Machine

/-! ### Arbitration (R112, R113) -/

/-- This station's contender takes part in the contention that is decided: one opened at the end of a
transmission has every station with a queued notice; on a quiet link two may meet or not (log 16). -/
def takesPart (others : List (BitVec 6)) (joined atEnd : Bool) : Bool :=
  joined || atEnd || others.isEmpty

/-- No other contender drives a lower field than this station's (R112). -/
def lowestField (own : BitVec 6) (others : List (BitVec 6)) : Bool :=
  others.all fun f => decide (own.toNat ≤ f.toNat)

/-- This station wins: its notice leaves the queue and its transmission begins (R111, R112). -/
def State.winContention (s : State) (q : Queued) : State :=
  (s.modLink fun l =>
    { l with queue := l.queue.erase q, inTx := some ⟨q, false, false⟩, medium := .sending })
    |>.setLinkedFate q.turn .inTx

/-- Another station begins to send. -/
def State.otherSends (s : State) : State := s.modLink fun l => { l with medium := .sending }

def State.loseContention (s : State) : State :=
  s.otherSends.modLinkCounters fun k => { k with losses := bump k.losses 1 }

/-- A contention is decided among this station's contender, if it has one, and the others (R112). -/
def State.decideContention (s : State) (others : List (BitVec 6)) (joined : Bool) : State :=
  match s.link.medium with
  | .sending => s
  | .idle none _ => if others.isEmpty then s else s.otherSends
  | .idle (some q) atEnd =>
    if takesPart others joined atEnd then
      if lowestField (arbitrationField s.station q.notice) others then s.winContention q
      else s.loseContention
    else s.otherSends

/-! ### Byte effects (R116 to R118, R120) -/

/-- The flow tag of a notice with byte effects, with the bytes it carries; none for a PRESENCE. -/
def noticeTag : Notice → Option (Tag × Nat)
  | .takeHold tag b _ _ _ => some (tag, b.toNat)
  | .take tag b => some (tag, b.toNat)
  | .give tag b => some (tag, b.toNat)
  | .bid tag b => some (tag, b.toNat)
  | .presence _ => none

/-- A TAKE that stands acts on a flow: outstanding falls, the excess counts as overgrant, and an own
TAKE lowers tentative. A DORMANT flow takes only the reduction of tentative (R116, R117). -/
def Flow.taken (f : Flow) (b : Nat) (own : Bool) : Flow :=
  let f := if own then { f with tentative := f.tentative - b } else f
  if f.state = .dormant then f
  else { f with outstanding := f.outstanding - b, overgrant := bump f.overgrant (b - f.outstanding) }

/-- The deferred bid is applied when a TAKE has brought unclaimed bytes to 0 with no pending turn
(R61, R117). -/
def State.deferredAfterTake (s : State) (tag : Tag) (before : Nat) : State :=
  match s.flow tag with
  | none => s
  | some f =>
    if f.unclaimed = 0 ∧ 0 < before ∧ f.pendingCount = 0 then s.applyDeferred tag else s

/-- A standing TAKE applied to the flow its tag names (R117). -/
def State.applyTake (s : State) (f : Flow) (b : Nat) (own : Bool) : State :=
  (s.updFlow f.tag (·.taken b own)).deferredAfterTake f.tag f.unclaimed

/-- R116: the byte effects of a notice reach this flow record. -/
def Flow.takesEffects (f : Flow) (own : Bool) (sender : StationNo) : Bool :=
  f.isBid && (own || (f.state == .active && f.spanMask.getLsbD sender.toNat))

/-- The bytes of a void own hold leave tentative (R120). -/
def State.dropTentative (s : State) (tag : Tag) (b : Nat) : State :=
  s.updFlow tag fun f => { f with tentative := f.tentative - b }

/-- The byte effects of the kind on a flow that takes them (R117, R118, R120). -/
def State.byteEffects (s : State) (n : Notice) (f : Flow) (own : Bool) (v : Option Verdict) :
    State :=
  match n with
  | .takeHold tag b _ _ _ =>
    if v = some .stands then s.applyTake f b.toNat own
    else if own then s.dropTentative tag b.toNat else s
  | .take _ b => s.applyTake f b.toNat own
  | .give tag b => if own then s else s.addHeard tag b.toNat
  | .bid tag b => if own then s else s.addHeard tag b.toNat
  | .presence _ => s

def State.ignoredNotice (s : State) : State :=
  s.modLinkCounters fun k => { k with ignored := bump k.ignored 1 }

/-- Step 5 of R115: the byte effects, or the notices ignored counter (R116). -/
def State.applyBytes (s : State) (n : Notice) (own : Bool) (sender : StationNo)
    (v : Option Verdict) : State :=
  match noticeTag n with
  | none => s
  | some (tag, _) =>
    match s.flow tag with
    | none => s.ignoredNotice
    | some f => if f.takesEffects own sender then s.byteEffects n f own v else s.ignoredNotice

/-! ### Holds (R119, R120) -/

/-- Step 4 of R115: the verdict on a TAKE with hold; none for another notice. -/
def State.verdictOf (s : State) : Notice → Option Verdict
  | .takeHold _ _ key a z => some (s.judge key a z)
  | _ => none

/-- The verdict is counted and a standing hold entered (R119, R120). -/
def State.enterVerdict (s : State) (n : Notice) (sender : StationNo) : State :=
  match n with
  | .takeHold _ _ key a z => s.applyVerdict (s.judge key a z) ⟨key, a, z, sender⟩
  | _ => s

/-! ### The fate of an own TAKE (R85, R121) -/

/-- A GIVE after late standing: only for bytes above 0 and a tag still BOUND to a bid flow (R121). -/
def State.lateStanding (s : State) (tag : Tag) (b : Nat) : State :=
  match s.flow tag with
  | none => s
  | some f =>
    if f.isBid ∧ 0 < b then
      (s.giveBack tag b).modLinkCounters fun k => { k with giveLate := bump k.giveLate 1 }
    else s

def TurnKey.map (t : TurnKey) : MapName := ⟨t.chan, t.period⟩

/-- The turn is confirmed; a SEALING map left with no unconfirmed turn is handed over (R85). -/
def State.confirmTurn (s : State) (t : TurnKey) : State :=
  (s.setFate t .standing).handIfSettled t.map

/-- A void hold withdraws its turn from a BUILDING or SEALING map, which is handed over when nothing
unconfirmed is left in it (R85). -/
def State.voidTurn (s : State) (t : TurnKey) : State :=
  match (s.setFate t .void).openEntry t with
  | none => s
  | some e =>
    ((((s.dropEntry t).modMaps t.chan fun k => { k with holdsVoid := bump k.holdsVoid 1 })
      |>.withdrawTurn t.map e false).handIfSettled t.map)

/-- R121 for a standing TAKE, with or without hold. -/
def State.standingFate (s : State) (x : InTx) (tag : Tag) (b : Nat) : State :=
  if x.withdrawn then s.lateStanding tag b
  else match x.own.turn with
    | some t => s.confirmTurn t
    | none => s

/-- R121 for a void TAKE with hold: the turn is withdrawn, and one HOLD_VOID record is passed. -/
def State.voidFate (s : State) (x : InTx) (tag : Tag) (key : Key) : State :=
  let s :=
    if x.withdrawn then s
    else match x.own.turn with
      | some t => s.voidTurn t
      | none => s
  s.appendFault .holdVoid key tag

/-- Step 6 of R115. -/
def State.ownFate (s : State) (x : InTx) (v : Option Verdict) : State :=
  match x.own.notice with
  | .takeHold tag b key _ _ =>
    if v = some .stands then s.standingFate x tag b.toNat else s.voidFate x tag key
  | .take tag b => s.standingFate x tag b.toNat
  | _ => s

/-! ### Hearing (R114, R115) -/

def LinkCounters.sentOne (k : LinkCounters) (rank : Nat) : LinkCounters :=
  match rank with
  | 0 => { k with sent0 := bump k.sent0 1 }
  | 1 => { k with sent1 := bump k.sent1 1 }
  | 2 => { k with sent2 := bump k.sent2 1 }
  | 3 => { k with sent3 := bump k.sent3 1 }
  | _ => { k with sent4 := bump k.sent4 1 }

/-- This station hears its own notice as it sent it (R114, R115). -/
def State.hearOwn (s : State) (x : InTx) : State :=
  let n := x.own.notice
  let s := s.modLinkCounters (·.sentOne (noticeRank n))
  let v := s.verdictOf n
  ((s.enterVerdict n s.station).applyBytes n true s.station v).ownFate x v

/-- A notice with this station's number that it did not send (R115 step 2). -/
def State.conflict (s : State) : State :=
  (s.modLinkCounters fun k => { k with conflicts := bump k.conflicts 1 }).raise .peer

/-- Steps 3 to 5 of R115 for a notice of another station. -/
def State.hearPeer (s : State) (k : StationNo) (n : Notice) : State :=
  let s := s.refreshRoster k n
  let v := s.verdictOf n
  (s.enterVerdict n k).applyBytes n false k v

/-- This station hears the bytes another station sent (R115). -/
def State.hearBytes (s : State) (bs : List Byte) : State :=
  match noticeOf bs with
  | none => s.modLinkCounters fun k => { k with corrupt := bump k.corrupt 1 }
  | some (k, n) =>
    let s := s.modLinkCounters fun c => { c with heard := bump c.heard 1 }
    if k = s.station then s.conflict else s.hearPeer k n

/-- The unit uses the link (R13): it hears and contends. -/
def State.onLink (s : State) : Bool := s.life != .start

/-- A contention opens at the end of a transmission, with the head of the queue (R112, R113). -/
def State.openAtEnd (s : State) : State :=
  s.modLink fun l => { l with medium := .idle l.queue.head? true, deaf := false }

/-- The end of a transmission: this station's own, or another's with the bytes it sent, unless a
RESTART was taken during it (R114). -/
def State.endTransmission (s : State) (bs : List Byte) : State :=
  match s.link.inTx with
  | some x =>
    let s := s.modLink fun l => { l with inTx := none }
    if s.onLink && !x.silent then (s.hearOwn x).openAtEnd else s.openAtEnd
  | none => if s.onLink && !s.link.deaf then (s.hearBytes bs).openAtEnd else s.openAtEnd

end Sys2Proof.Machine
end

