-- ==== Sys2Proof/Machine/Sweeper.lean ====
section
/-! DEFINITION. The Table Sweep (10): the handling of a record at a step's completion, SWEEP RESTART. -/

namespace Sys2Proof.Machine

/-- The idle span of an idle code in beats; 0 for code 0, whose test is not made (R161). -/
def idleBeats (code : Nat) : Nat :=
  if code ≤ 200 then code * 250
  else if code ≤ 250 then (code - 200) * 15000
  else 900000

/-- The bytes a discard takes from a flow: outstanding and the deferred bid (R162, R163). -/
def Flow.owedBytes (f : Flow) : Nat :=
  f.outstanding + match f.deferred with
    | some (b, _) => b
    | none => 0

/-- The stale test (R160 step 2). -/
def Flow.stale (f : Flow) (now : Beat) (limit : Nat) : Bool :=
  decide (0 < f.outstanding) && decide (limit < (now - f.lastService).toNat)

/-- The idle test (R160 step 3). -/
def Flow.idleOut (f : Flow) (now : Beat) : Bool :=
  f.idleCode != 0 && decide (idleBeats f.idleCode ≤ (now - f.lastActivity).toNat)

/-- A stale discard (R162). -/
def State.staleDiscard (s : State) (f : Flow) : State :=
  let s := s.updFlow f.tag fun g => { g with outstanding := 0, deferred := none }
  let s := s.modSweep fun w =>
    { w with staleDiscards := bump w.staleDiscards 1, staleBytes := bump w.staleBytes f.owedBytes }
  (s.offerAttention f.tag .stale).appendFault .staleDiscard f.modemKey f.tag

/-- An idle expiry (R163). -/
def State.idleExpiry (s : State) (f : Flow) : State :=
  let s := s.updFlow f.tag fun g =>
    { g with state := .dormant, outstanding := 0, deferred := none }
  let s := s.modSweep fun w =>
    { w with idleExpiries := bump w.idleExpiries 1, idleBytes := bump w.idleBytes f.owedBytes }
  s.offerAttention f.tag .idleExpired

/-- The tests of a step on an ACTIVE bid flow that has been refreshed: stale, then idle (R160). -/
def State.sweepTests (s : State) (f : Flow) : State :=
  let now := s.time.beat
  if f.stale now s.inForce.staleLimit.toNat then
    let s := s.staleDiscard f
    if f.idleOut now then s.idleExpiry { f with outstanding := 0, deferred := none } else s
  else if f.idleOut now then s.idleExpiry f
  else s

/-- The handling of a record at the completion of a step (R160). -/
def State.sweepFlow (s : State) (f : Flow) : State :=
  if f.isBid ∧ f.state = .active then
    let g := f.refresh s.time.beat
    (s.updFlow f.tag fun _ => g).sweepTests g
  else s

/-- A step that completed: counted, the cursor advanced, and SUSPENDED when a map is BUILDING
(R159, R160); one that outlives the build it ran into leaves the sweep RUNNING (log 48). -/
def Sweep.completed (w : Sweep) (building : Bool) : Sweep :=
  (Sweep.advance { w with step := none, steps := bump w.steps 1 }).afterStep building

/-- A step completes, and a sweep that stays RUNNING begins the next at once (R159, R160). -/
def State.completeStep (s : State) : State :=
  match s.sweep.step with
  | none => s
  | some _ =>
    let s :=
      match s.cursorFlow with
      | some f => s.sweepFlow f
      | none => s
    (s.modSweep (·.completed s.planner.building.isSome)).beginStep

/-- SWEEP RESTART: a step in flight ends without its changes, and the cursor becomes 0; the sweep state is
unchanged (R165), so a sweep still RUNNING while a map is BUILDING stays so, with no step (log 29). -/
def Sweep.restarted (w : Sweep) : Sweep :=
  match w.step with
  | some _ => { w.abandon with cursor := 0 }
  | none => { w with cursor := 0 }

end Sys2Proof.Machine
end

