-- ==== Sys2Proof/Machine/Port.lean ====
section
/-! DEFINITION. The Management Port (11, 12.4): the exchange, the host commands on the tables, the
bodies of the responses, and the resets. -/

namespace Sys2Proof.Machine

/-! ### The exchange (R166, R167, R177) -/

def ResultCode.byte (r : ResultCode) : Byte :=
  match r with
  | .done => 0
  | .busy => 1
  | .notServing => 2
  | .noRoom => 3
  | .unknown => 4
  | .duplicate => 5
  | .tagDraining => 6
  | .badField => 7
  | .startError => 8

/-- The response frame of the slot: marker, command code, result, body length, body and check; the
marker 00h alone when the slot holds no response (12.4). -/
def slotFrame (sl : Slot) : List Byte :=
  match sl with
  | .ready => [0]
  | .answered r => withCheck ([1, r.code, r.result.byte] ++ be2 r.body.length ++ r.body)

def slotAnswered (sl : Slot) : Bool :=
  match sl with
  | .ready => false
  | .answered _ => true

/-- The status byte is shifted out while a direction byte arrives: bit 0 is 1 when the slot is
ANSWERED (R177). -/
def State.shiftStatus (s : State) : State :=
  { s with out := { s.out with statusByte := if slotAnswered s.port.slot then 1 else 0 } }

/-- The part of a command's answer: its result code and body. -/
structure Reply where
  result : ResultCode
  body : List Byte
  deriving DecidableEq, Repr

/-- The slot becomes ANSWERED and holds the response (R166). -/
def State.answer (s : State) (code : Byte) (r : Reply) : State :=
  s.modPort fun p => { p with slot := .answered ⟨code, r.result, r.body⟩ }

/-- A command written while the slot is ANSWERED (R166). -/
def State.refuseBusy (s : State) : State :=
  s.shiftStatus.modPort fun p => { p with busy := bump p.busy 1 }

/-- A complete frame is taken in READY: the status byte and the commands taken counter (R167, R177). -/
def State.takeFrame (s : State) : State :=
  s.shiftStatus.modPort fun p => { p with taken := bump p.taken 1 }

/-- BAD_FIELD names the byte of the command frame that holds the field (12.4). An offset above 65,535,
that of the check of a frame whose L is 65,533 or more, is sent as its low 16 bits (log 43). -/
def badField (offset : Nat) : Reply := ⟨.badField, be2 offset⟩

def doneBody (body : List Byte) : Reply := ⟨.done, body⟩

def plain (r : ResultCode) : Reply := ⟨r, []⟩

/-- A command whose frame has passed checks 1 and 2 and the length check: BUSY in ANSWERED, NOT_SERVING
in a life state that does not take it, and otherwise its block's answer (R166, R167). -/
def State.hostCommand (s : State) (code : Byte) (takenIn : Life → Bool)
    (run : State → State × Reply) : State :=
  match s.port.slot with
  | .answered _ => s.refuseBusy
  | .ready =>
    if takenIn s.life then (run s.takeFrame).1.answer code (run s.takeFrame).2
    else s.takeFrame.answer code (plain .notServing)

/-- Commands taken in LISTEN and SERVING (11.2). -/
def inService (l : Life) : Bool := l != .start

/-- Commands taken in any life state (11.2). -/
def inAnyLife (_ : Life) : Bool := true

/-- LOAD START is taken in START (11.2). -/
def inStart (l : Life) : Bool := l == .start

/-- A read of the response frame: the bytes clocked out, and a held response is released (R166). -/
def State.readResponse (s : State) (n : Nat) : State :=
  let s := { s.shiftStatus with out :=
    { s.shiftStatus.out with response := (slotFrame s.port.slot).take n } }
  s.modPort fun p => { p with slot := .ready }

/-- An incomplete write, or a direction byte that is neither 01h nor 02h (R166, R177). -/
def State.malformed (s : State) : State :=
  s.shiftStatus.modPort fun p => { p with malformed := bump p.malformed 1 }

/-- A complete frame that fails R167's check 1 or 2, or its length check (R167, R177). -/
def State.takeBadFrame (s : State) (f : CommandFrame) (offset : Nat) : State :=
  match s.port.slot with
  | .answered _ => s.refuseBusy
  | .ready => s.takeFrame.answer f.code (badField offset)

/-! ### LOAD START and the resets (R13, R16, R168, R169) -/

/-- LOAD START past R167 (R13, R168). -/
def State.loadStart (s : State) (r : StartRecord) : State × Reply :=
  match firstFailure r with
  | some k => (s, ⟨.startError, [k.code.byte, byteOf k.item]⟩)
  | none =>
    if s.time.timed then (s.enterListen r, plain .done)
    else ({ s with accepted := some r }, plain .done)

/-- The Time Unit after RESTART (R8). -/
def TimeUnit.restarted (t : TimeUnit) : TimeUnit :=
  { t with beat := 0, slips := 0, lineLosses := 0, badWords := 0 }

/-- The link medium seen by a station that stops contending (log 17). -/
def Medium.left (m : Medium) : Medium :=
  match m with
  | .sending => .sending
  | .idle _ atEnd => .idle none atEnd

/-- The Peer Link Unit after RESTART: an own notice in transmission runs to its end and is not heard
by this station (R16, R109), and another station's that is being sent is not heard either (R114). -/
def Link.restarted (l : Link) : Link :=
  { Link.reset with
    medium := l.medium.left
    deaf := l.deaf || (l.inTx.isNone && l.medium == .sending)
    inTx := l.inTx.map fun x => { own := ⟨x.own.notice, none⟩, withdrawn := false, silent := true } }

/-- The Health Monitor after RESTART: the ring, the sequence counter and the records replaced counter
are kept (R152, R157). -/
def Health.restarted (h : Health) : Health :=
  { Health.reset with ring := h.ring, seq := h.seq, replaced := h.replaced }

/-- The port after RESTART: its mask kept, its queues, latches and counters cleared (R169). -/
def Port.restarted (p : Port) : Port := { Port.reset with mask := p.mask }

/-- RESTART (R8, R16, R169); the slot's DONE response is set by the exchange. -/
def State.restart (s : State) : State × Reply :=
  ({ State.reset with
      station := s.station
      time := s.time.restarted
      link := s.link.restarted
      health := s.health.restarted
      port := s.port.restarted
      out := s.out
      free := s.free
      pending := s.pending }, plain .done)

/-- The link after a hard reset: an own transmission is cut and a contention opens; another station's
goes on (R16, log 17). -/
def Link.hardReset (l : Link) : Link :=
  { Link.reset with
    medium :=
      match l.inTx, l.medium with
      | some _, _ => .idle none true
      | none, .sending => .sending
      | none, .idle _ atEnd => .idle none atEnd
    deaf := l.deaf && l.inTx.isNone }

/-- A hard reset with the station straps as they are read (R8, R16). -/
def State.hardReset (s : State) (straps : StationNo) : State :=
  { State.reset with
    station := straps
    link := s.link.hardReset
    free := s.free
    pending := s.pending }

/-! ### Modems (R34, R35, R150) -/

def newModem (key : Key) (single : Bool) (normal fallback : ProfileIx) : Modem where
  key := key
  state := .active
  single := single
  normal := normal
  fallback := fallback
  pin := .unset
  presence := Config.maxScore
  integrity := Config.maxScore
  margin := Config.maxScore
  trail := []
  flowCount := 0
  lifetime := 0

/-- ADMIT MODEM past R167 (R34). -/
def State.admitModem (s : State) (key : Key) (single : Bool) (normal fallback : ProfileIx) :
    State × Reply :=
  if key = 0 then (s, badField 3)
  else if (s.modemIx key).isSome then (s, plain .duplicate)
  else match freeRecord s.store.modems Config.modemRecords with
    | none => (s, plain .noRoom)
    | some i => (s.writeModem i (newModem key single normal fallback), doneBody (be2 i))

/-- Remove a modem's flow at a record index, when one is there (R35, R46). -/
def State.removeRecord (s : State) (ix : Nat) : State :=
  match tabGet s.store.flows ix with
  | some f => s.removeFlow f.tag ix f
  | none => s

/-- The record indexes of a modem's flows, lowest first (R35). -/
def State.flowsOf (s : State) (modemIx : Nat) : List Nat :=
  (s.store.flows.filter fun e => e.2.modemIx == modemIx).map (·.1)

/-- The record becomes FREE (R35 step 2). -/
def State.freeModem (s : State) (i : Nat) : State :=
  s.modStore fun st => { st with modems := tabDel st.modems i }

/-- REMOVE MODEM past R167 (R35). -/
def State.removeModem (s : State) (key : Key) : State × Reply :=
  match s.modemIx key with
  | none => (s, plain .unknown)
  | some i => (((s.flowsOf i).foldl State.removeRecord s).freeModem i, plain .done)

/-- The pin a field of two bits names; none for the fourth value (12.4). -/
def pinOf (p : BitVec 2) : Option Pin :=
  match p.toNat with
  | 0 => some .unset
  | 1 => some .normal
  | 2 => some .fallback
  | _ => none

/-- PIN MODEM past R167 (R150). -/
def State.pinModem (s : State) (key : Key) (p : BitVec 2) : State × Reply :=
  match pinOf p with
  | none => (s, badField 5)
  | some pin =>
    match s.modemIx key with
    | none => (s, plain .unknown)
    | some i =>
      match s.modemAt i with
      | none => (s, plain .unknown)
      | some m =>
        (s.writeModem i { m with pin := pin },
          doneBody [byteOf (Modem.profileInForce { m with pin := pin }).toNat])

/-! ### Flows (R42 to R46, R49) -/

/-- Some enabled channel is named by a channel mask (R42 check 5). -/
def State.maskServed (s : State) (mask : BitVec 4) : Bool :=
  quadIndexes.any fun c => mask.getLsbD c.val && s.enabled c

/-- Checks 5 to 9 of R42 with the frame offset of the field each names. -/
def State.flowFieldFault (s : State) (a : AdmitFlow) : Option Nat :=
  if !a.cadence then (if s.maskServed a.chanMask then none else some 7)
  else if !s.enabled a.cadChan then some 18
  else if a.interval = 0 then some 20
  else if !inRange a.cadBytes.toNat 16 2048 then some 21
  else if partSlots (s.part a.cadChan) ≤ a.phase.toNat then some 23
  else none

/-- The ceiling as R43 stores it. -/
def storedCeiling (c : BitVec 32) : Nat := min c.toNat Config.maxBytes

/-- maxTurnBytes as R43 stores it. -/
def storedMaxTurn (b : BitVec 16) (minGrant : Nat) : Nat := max (min b.toNat Config.maxTurn) minGrant

/-- A new bid flow (R43, R44). -/
def State.newBidFlow (s : State) (a : AdmitFlow) (mi : Nat) : Flow where
  tag := a.tag
  modemIx := mi
  modemKey := a.key
  state := .active
  cls := a.cls
  chanMask := a.chanMask
  spanMask := a.spanMask
  rate := a.rate.toNat
  ceiling := storedCeiling a.ceiling
  credit := storedCeiling a.ceiling
  lastBeat := s.time.beat
  outstanding := 0
  tentative := 0
  deferred := none
  discard := a.discard
  pendingCount := 0
  maxTurn := storedMaxTurn a.maxTurn s.minGrant
  idleCode := a.idleCode.toNat
  lastActivity := s.time.beat
  lastService := s.time.beat
  overgrant := 0
  cadence := none

def State.newCadence (s : State) (a : AdmitFlow) : Cadence where
  chan := a.cadChan
  interval := a.interval.toNat
  bytes := a.cadBytes.toNat
  phase := a.phase.toNat
  jitter := a.jitter.toNat
  idleLimit := a.idleLimit.toNat
  nextDue := s.buildStream a.cadChan
  empties := 0

/-- A new cadence flow (R37, R45); lastBeat and the overgrant counter are free values (log 11). -/
def State.newCadenceFlow (s : State) (a : AdmitFlow) (mi : Nat) (lastBeat overgrant : BitVec 32) :
    Flow where
  tag := a.tag
  modemIx := mi
  modemKey := a.key
  state := .active
  cls := 0
  chanMask := BitVec.ofNat 4 (2 ^ a.cadChan.val)
  spanMask := a.spanMask
  rate := 0
  ceiling := 0
  credit := 0
  lastBeat := lastBeat
  outstanding := 0
  tentative := 0
  deferred := none
  discard := false
  pendingCount := 0
  maxTurn := storedMaxTurn a.maxTurn s.minGrant
  idleCode := 0
  lastActivity := s.time.beat
  lastService := s.time.beat
  overgrant := overgrant.toNat
  cadence := some (s.newCadence a)

/-- The record that ADMIT FLOW fills (R44, R45). -/
def State.newFlow (s : State) (a : AdmitFlow) (mi : Nat) : Flow × State :=
  if a.cadence then
    let x := s.freeValue
    let y := x.2.freeValue
    (s.newCadenceFlow a mi x.1 y.1, y.2)
  else (s.newBidFlow a mi, s)

/-- Record, tag map entry and flow count of an accepted ADMIT FLOW (R44, R45). -/
def State.bindFlow (s : State) (ix : Nat) (f : Flow) (mi : Nat) (m : Modem) : State :=
  (s.modStore fun st =>
    { st with flows := tabPut st.flows ix f, tagMap := tabPut st.tagMap f.tag.toNat (.bound ix) })
    |>.writeModem mi { m with flowCount := m.flowCount + 1 }

/-- Checks 10 and 11 of R42, and the admission. -/
def State.placeFlow (s : State) (a : AdmitFlow) (mi : Nat) (m : Modem) : State × Reply :=
  match freeRecord s.store.flows Config.flowRecords with
  | none => (s, plain .noRoom)
  | some ix =>
    if Config.flowsPerModem ≤ m.flowCount then (s, plain .noRoom)
    else ((s.newFlow a mi).2.bindFlow ix (s.newFlow a mi).1 mi m, doneBody (be2 ix))

/-- Checks 3 to 9 of R42 for a flow whose modem is in use. -/
def State.admitFor (s : State) (a : AdmitFlow) (mi : Nat) (m : Modem) : State × Reply :=
  match s.tagState a.tag with
  | some (.bound _) => (s, plain .duplicate)
  | some (.draining _) => (s, plain .tagDraining)
  | none =>
    if s.takeInTx a.tag then (s, plain .tagDraining)
    else match s.flowFieldFault a with
      | some offset => (s, badField offset)
      | none => s.placeFlow a mi m

/-- ADMIT FLOW past R167 (R42). -/
def State.admitFlow (s : State) (a : AdmitFlow) : State × Reply :=
  if a.tag = 0 then (s, badField 3)
  else match s.modemIx a.key with
    | none => (s, plain .unknown)
    | some mi =>
      match s.modemAt mi with
      | none => (s, plain .unknown)
      | some m => s.admitFor a mi m

/-- REMOVE FLOW past R167 (R46). -/
def State.removeTag (s : State) (tag : Tag) : State × Reply :=
  match s.flowIx tag, s.flow tag with
  | some ix, some f => (s.removeFlow tag ix f, plain .done)
  | _, _ => (s, plain .unknown)

/-- A revived flow: ACTIVE, with a full bucket and its activity mark at the beat (R31, R49). -/
def Flow.revived (f : Flow) (now : Beat) : Flow :=
  { f with state := .active, credit := f.ceiling, lastBeat := now, lastActivity := now }

/-- REVIVE FLOW past R167 (R49). -/
def State.reviveFlow (s : State) (tag : Tag) : State × Reply :=
  match s.flow tag with
  | none => (s, plain .unknown)
  | some f =>
    if f.state = .dormant ∧ f.isBid then (s.updFlow tag (·.revived s.time.beat), plain .done)
    else (s, badField 3)

/-! ### The bodies of the reads (R173, R178) -/

def flag (b : Bool) : List Byte := [if b then 1 else 0]

def be1 (n : Nat) : List Byte := [byteOf n]

/-- Counters, four bytes each. -/
def counters (l : List Nat) : List Byte := l.flatMap be4

def Life.byte (l : Life) : Byte :=
  match l with
  | .start => 0
  | .listen => 1
  | .serving => 2

def LineState.byte (l : LineState) : Byte :=
  match l with
  | .arriving => 0
  | .lost => 1

def SweepState.byte (w : SweepState) : Byte :=
  match w with
  | .stopped => 0
  | .running => 1
  | .suspended => 2

def Announced.byte (a : Announced) : Byte :=
  match a with
  | .silent => 0
  | .listen => 1
  | .serving => 2

def ModemState.byte (m : ModemState) : Byte :=
  match m with
  | .active => 1
  | .degraded => 2

def Pin.byte (p : Pin) : Byte :=
  match p with
  | .unset => 0
  | .normal => 1
  | .fallback => 2

def FlowState.byte (f : FlowState) : Byte :=
  match f with
  | .active => 1
  | .dormant => 2
  | .sleep => 3

def TurnResult.code (r : TurnResult) : Nat :=
  match r with
  | .received => 0
  | .empty => 1
  | .errored => 2
  | .lost => 3

def FaultKind.byte (k : FaultKind) : Byte :=
  match k with
  | .degrade => 1
  | .restore => 2
  | .staleDiscard => 3
  | .cadenceDrop => 4
  | .holdVoid => 5

def AttentionReason.byte (r : AttentionReason) : Byte :=
  match r with
  | .dormantBid => 1
  | .stale => 2
  | .idleExpired => 3

/-- One trail entry, four bytes (12.4). -/
def trailBytes (e : TrailEntry) : List Byte :=
  [byteOf (e.result.code * 64 + e.chan.val)] ++ be2 e.tag.toNat ++ be1 e.margin.toNat

/-- A trail: a count byte and four 4-byte entries, those beyond the count 0 (12.4). -/
def trailBody (t : List TrailEntry) : List Byte :=
  be1 t.length ++ t.flatMap trailBytes ++ List.replicate (4 * (Config.trailEntries - t.length)) 0

/-- A fault record, 36 bytes (12.4). -/
def faultBytes (r : FaultRecord) : List Byte :=
  be4 r.seq.toNat ++ [r.kind.byte] ++ flag r.found ++ be2 r.key.toNat ++ be2 r.tag.toNat
    ++ be4 r.time.toNat ++ be1 r.presence ++ be1 r.integrity ++ be1 r.margin ++ trailBody r.trail
    ++ be2 r.lifetime

/-- The sequence number of the oldest record, 0 when the ring is empty (12.4). -/
def oldestSeq (ring : List FaultRecord) : Nat :=
  match ring with
  | [] => 0
  | r :: _ => r.seq.toNat

/-- READ FAULTS (R155, 12.4). -/
def Health.faultsBody (h : Health) (asked : BitVec 32) : List Byte :=
  be1 h.ring.length ++ be1 (faultsFrom h.ring asked).length ++ be4 (oldestSeq h.ring)
    ++ be4 h.seq.toNat ++ be4 h.replaced ++ (faultsFrom h.ring asked).flatMap faultBytes

def Health.counterList (h : Health) : List Nat :=
  [h.scored, h.lost, h.degrades, h.restores, h.appended, h.replaced]

def Sweep.counterList (w : Sweep) : List Nat :=
  [w.steps, w.staleDiscards, w.staleBytes, w.idleExpiries, w.idleBytes, w.abandoned]

def Port.counterList (p : Port) : List Nat :=
  [p.taken, p.busy, p.malformed, p.attDuplicates, p.attDropped]

def BidCounters.list (k : BidCounters) : List Nat :=
  [k.taken, k.malformed, k.foreign, k.applied, k.deferred, k.replaced, k.policyDiscards, k.dormant,
   k.cadenceIgnored, k.cadenceWakes, k.tailApplied, k.tailDropped, k.bytesLost, k.noticesDropped]

def MapCounters.list (k : MapCounters) : List Nat :=
  [k.handed, k.delivered, k.missed, k.cut, k.late, k.joinSkipped, k.bidClipped, k.bidAbsent,
   k.holdsVoid]

def CadenceCounters.list (k : CadenceCounters) : List Nat :=
  [k.placed, k.blocked, k.dropped, k.missed, k.sleeps]

def OutcomeCounters.list (k : OutcomeCounters) : List Nat :=
  [k.taken, k.malformed, k.strays, k.early, k.received, k.empty, k.errored, k.lost, k.bytesReceived,
   k.bytesUnused, k.overruns, k.corrected, k.uncorrectable, k.badTallies, k.bidTallies, k.grown,
   k.shrunk, k.joinTallies, k.joinSingles, k.joinCollisions, k.badArrivals]

def LinkCounters.list (k : LinkCounters) : List Nat :=
  [k.sent0, k.sent1, k.sent2, k.sent3, k.sent4, k.heard, k.corrupt, k.conflicts, k.ignored, k.losses,
   k.standing, k.void, k.voidFull, k.giveDropped, k.presenceDropped, k.giveLate, k.bytesLost]

/-- The Time Unit's items of READ STATUS (R8, R173). -/
def TimeUnit.body (t : TimeUnit) : List Byte :=
  flag t.timed ++ be4 t.nodeTime.toNat ++ be4 t.beat.toNat ++ [t.line.byte]
    ++ counters [t.slips, t.lineLosses, t.badWords]

/-- READ STATUS: the items of R173's row, as R178 codes them. The step in flight of 10.1 is in neither
list and is not sent (log 44). -/
def State.statusBody (s : State) : List Byte :=
  [s.life.byte] ++ flag s.accepted.isSome ++ s.time.body ++ be4 s.port.burstDiscards
    ++ be2 s.tracker.list.length ++ be4 s.tracker.arrivalsDropped ++ counters s.health.counterList
    ++ [s.sweep.state.byte] ++ be2 s.sweep.cursor ++ be4 s.sweep.pass.toNat
    ++ counters s.sweep.counterList ++ be2 s.port.attention.length ++ be2 s.port.arrivals.length
    ++ [causeByte s.port.latched, causeByte s.port.mask] ++ counters s.port.counterList

/-- READ STATUS clears every latched cause after it has formed its answer (R172). -/
def State.readStatus (s : State) : State × Reply :=
  (s.modPort fun p => { p with latched := 0 }, doneBody s.statusBody)

/-- The existing maps of a channel with their build state bytes (R173, R178). -/
def State.existing (s : State) (c : Chan) : List (Period × Byte) :=
  let own := fun (l : List MapName) (b : Byte) =>
    (l.filter (·.chan = c)).map fun m => (m.period, b)
  own s.planner.requests 0
    ++ own (s.planner.building.map (·.map.name)).toList 1
    ++ own (s.planner.sealing.map (·.name)) 2
    ++ own (s.mapPort.queue.map (·.name)) 3
    ++ own (s.mapPort.delivered.map (·.name)) 4

/-- READ CHANNEL of a channel, its maps in the order given (R173, R178). The one count byte of more than
255 maps holds their number mod 256, and every map follows it (log 43). -/
def State.channelBody (s : State) (c : Chan) (maps : List (Period × Byte)) : List Byte :=
  let ch := s.chans.get c
  flag (s.enabled c) ++ be2 (ch.w.getD 0) ++ be1 maps.length
    ++ maps.flatMap (fun m => be4 m.1.toNat ++ [m.2]) ++ be4 ch.skipped ++ counters ch.bids.list
    ++ counters ch.maps.list ++ counters ch.cadence.list ++ counters ch.outcomes.list
    ++ be2 (s.tracker.list.filter (·.chan = c)).length

/-- READ CHANNEL past R167; the order of the maps is free (R173, log 15). -/
def State.readChannel (s : State) (b : Byte) : State × Reply :=
  if 3 < b.toNat then (s, badField 3)
  else
    let maps := s.existing (chanOf b.toNat)
    let o := State.order maps.length maps s
    (o.2, doneBody (s.channelBody (chanOf b.toNat) o.1))

def RosterEntry.bytes (e : RosterEntry) : List Byte :=
  flag e.present ++ [e.announced.byte] ++ be4 ((e.absence.getD 0).toNat)

/-- READ PEERS (R173, R178). -/
def State.peersBody (s : State) : List Byte :=
  be1 s.station.toNat ++ allStations.flatMap (fun k => (s.rosterEntry k).bytes)
    ++ be2 s.link.holds.length ++ counters s.link.counters.list ++ be2 s.link.queue.length

/-- The record of READ MODEM in the order of 3.1, with the profile in force (R50, R178). -/
def Modem.body (m : Modem) : List Byte :=
  be2 m.key.toNat ++ [m.state.byte] ++ flag m.single ++ be1 m.normal.toNat ++ be1 m.fallback.toNat
    ++ [m.pin.byte] ++ be1 m.presence ++ be1 m.integrity ++ be1 m.margin ++ trailBody m.trail
    ++ be1 m.flowCount ++ be2 m.lifetime ++ be1 m.profileInForce.toNat

/-- READ MODEM past R167 (R50). -/
def State.readModem (s : State) (key : Key) : Reply :=
  match s.modemIx key with
  | none => plain .unknown
  | some i =>
    match s.modemAt i with
    | none => plain .unknown
    | some m => doneBody (be2 i ++ m.body)

/-- A deferred bid: its bytes and its channel, 0 when absent (R178, log 25). -/
def deferredBytes (d : Option (Nat × Chan)) : List Byte :=
  match d with
  | some (b, c) => be2 b ++ be1 c.val
  | none => [0, 0, 0]

/-- The fields of a flow record in the order of 3.2 (R50, R178). The pending count is a count of pending
entries and takes 2 bytes. -/
def Flow.body (f : Flow) : List Byte :=
  be2 f.tag.toNat ++ be2 f.modemIx ++ be2 f.modemKey.toNat ++ flag f.cadence.isSome
    ++ [f.state.byte] ++ be1 f.cls.val ++ be1 f.chanMask.toNat ++ be1 f.spanMask.toNat ++ be2 f.rate
    ++ be4 f.ceiling ++ be4 f.credit ++ be4 f.lastBeat.toNat ++ be4 f.outstanding ++ be4 f.tentative
    ++ deferredBytes f.deferred ++ flag f.discard ++ be2 f.pendingCount ++ be2 f.maxTurn
    ++ be1 f.idleCode ++ be4 f.lastActivity.toNat ++ be4 f.lastService.toNat ++ be4 f.overgrant

def Cadence.body (c : Cadence) : List Byte :=
  be1 c.chan.val ++ be1 c.interval ++ be2 c.bytes ++ be2 c.phase ++ be1 c.jitter ++ be1 c.idleLimit
    ++ be4 c.nextDue.toNat ++ be1 c.empties

def Flow.cadenceBody (f : Flow) : List Byte :=
  match f.cadence with
  | some c => c.body
  | none => []

/-- READ FLOW past R167 (R50, R178). The orphan count is a count of pending entries and takes 2 bytes. -/
def State.readFlow (s : State) (tag : Tag) : Reply :=
  match s.tagState tag with
  | none => plain .unknown
  | some (.draining n) => doneBody (be1 2 ++ be2 n)
  | some (.bound ix) =>
    match tabGet s.store.flows ix with
    | none => plain .unknown
    | some f =>
      doneBody (be1 1 ++ be2 ix ++ f.body ++ f.cadenceBody ++ be4 f.unclaimed
        ++ flag (s.spanningActive f) ++ flag (s.isReady f))

/-! ### The host's queues, the mask and the ring (R156, R171, R172) -/

def attentionBytes (e : AttentionEntry) : List Byte := be2 e.tag.toNat ++ [e.reason.byte]

def arrivalBytes (e : ArrivalEntry) : List Byte :=
  be1 (e.chan.val * 64 + e.margin.toNat) ++ be6 e.identity.toNat ++ be4 e.time.toNat

/-- TAKE ATTENTION: up to 8 of the oldest entries, and the number left (R171). -/
def State.takeAttention (s : State) : State × Reply :=
  let got := s.port.attention.take 8
  (s.modPort fun p => { p with attention := p.attention.drop 8 },
    doneBody (be1 got.length ++ be1 (s.port.attention.drop 8).length
      ++ got.flatMap attentionBytes))

/-- TAKE ARRIVALS: up to 4 of the oldest entries, and the number left (R171). -/
def State.takeArrivals (s : State) : State × Reply :=
  let got := s.port.arrivals.take 4
  (s.modPort fun p => { p with arrivals := p.arrivals.drop 4 },
    doneBody (be1 got.length ++ be1 (s.port.arrivals.drop 4).length ++ got.flatMap arrivalBytes))

/-- SET EVENT MASK (R172). -/
def State.setMask (s : State) (b : Byte) : State × Reply :=
  (s.modPort fun p => { p with mask := maskOfByte b }, doneBody [causeByte (maskOfByte b)])

/-- CLEAR FAULTS (R156). -/
def State.clearFaults (s : State) : State × Reply :=
  (s.modHealth fun h => { h with ring := [] }, plain .done)

/-- SWEEP RESTART past R167: a RUNNING sweep begins a step at record 0 at once (R165), unless a map is
BUILDING (R159, log 29). -/
def State.restartSweep (s : State) : State × Reply :=
  ((s.modSweep (·.restarted)).beginStep, plain .done)

/-! ### The map record (12.3) -/

def EntryKind.code (k : EntryKind) : Nat :=
  match k with
  | .data => 0
  | .cadence => 1
  | .join => 2
  | .bid => 3

def entryBytes (e : Entry) : List Byte :=
  be1 (e.kind.code * 64 + e.profile.toNat) ++ be2 e.tag.toNat ++ be2 e.start ++ be2 e.len ++ [0]

/-- A turn map as the framer takes it: header and entries, 8 bytes each (12.3). -/
def State.mapBytes (s : State) (m : TurnMap) : List Byte :=
  let p := s.part m.name.chan
  be1 (m.name.chan.val * 64) ++ be1 m.entries.length ++ be2 (m.name.period.truncate 16).toNat
    ++ be1 (p.backoffStart.toNat * 16 + p.backoffEnd.toNat) ++ [0, 0, 0]
    ++ m.entries.flatMap entryBytes

/-- The framer takes the head map, which becomes DELIVERED (R88). -/
def State.framerTakes (s : State) : State :=
  match s.mapPort.queue with
  | [] => s
  | m :: rest =>
    State.modMaps
      { s with
        mapPort := ⟨rest, s.mapPort.delivered ++ [m]⟩
        out := { s.out with turnMap := s.mapBytes m } }
      m.name.chan fun k => { k with delivered := bump k.delivered 1 }

end Sys2Proof.Machine
end

