-- ==== Sys2Proof/Machine/BuildEvents.lean ====
section
/-! DEFINITION. The commands of the period clocks, the planner and the framer (05). -/

namespace Sys2Proof.Machine

/-- BUILD_START (R10, R69). -/
def execBuildStart (c : Chan) (n : Period) (s : State) : Host.Outcome State Fault Refusal :=
  .next (s.atDeadline (.buildStart ⟨c, n⟩))

/-- DELIVER_DEADLINE (R10, R71, R86). -/
def execDeliverDeadline (c : Chan) (n : Period) (s : State) : Host.Outcome State Fault Refusal :=
  .next (s.atDeadline (.deliver ⟨c, n⟩))

/-- PERIOD_START (R10, R89). -/
def execPeriodStart (c : Chan) (n : Period) (s : State) : Host.Outcome State Fault Refusal :=
  .next (s.atDeadline (.start ⟨c, n⟩))

/-- The placement a command does: all of it, or so many steps (log 9). -/
def State.placeUpTo (s : State) (upTo : Option Nat) : State :=
  match upTo with
  | some n => State.placeSteps n s
  | none => s.placeRest

/-- PLANNER_TAKES_REQUEST: the free planner takes the head request and places turns; while a map is
BUILDING it goes on placing, so that other commands may come between any two placements (R69, R70,
log 9). -/
def execPlannerTakesRequest (upTo : Option Nat) (s : State) : Host.Outcome State Fault Refusal :=
  match s.planner.building, s.planner.requests with
  | some _, _ => .next (s.placeUpTo upTo)
  | none, m :: rest => .next ((s.takeRequest m rest).placeUpTo upTo)
  | none, [] => .next s

/-- The end of building with what is left to place placed first (R84, log 9). -/
def State.finishBuild (s : State) : State :=
  match s.placeRest.planner.building with
  | some b => s.placeRest.endBuild b
  | none => s

/-- BUILD_END (R84). -/
def execBuildEnd (s : State) : Host.Outcome State Fault Refusal := .next s.finishBuild

/-- FRAMER_TAKES_MAP (R88). -/
def execFramerTakesMap (s : State) : Host.Outcome State Fault Refusal := .next s.framerTakes

end Sys2Proof.Machine
end

