-- ==== Sys2Proof/Machine/BurstEvents.lean ====
section
/-! DEFINITION. The commands of the Burst Report Port (04, 08, 12.2). -/

namespace Sys2Proof.Machine

/-- A record is discarded in START and taken in LISTEN and SERVING (R13). -/
def State.record (s : State) (take : State → State) : State :=
  if s.life = .start then s.discardRecord else take s

/-- BID_RECORD (R53 to R66). -/
def execBidRecord (r : BidRecord) (s : State) : Host.Outcome State Fault Refusal :=
  .next (s.record fun s => s.takeBid r)

/-- OUTCOME_REPORT (R133 to R136). -/
def execOutcomeReport (r : OutcomeReport) (s : State) : Host.Outcome State Fault Refusal :=
  .next (s.record fun s => s.takeReport r)

/-- WINDOW_TALLY (R93, R140). -/
def execWindowTally (r : WindowTally) (s : State) : Host.Outcome State Fault Refusal :=
  .next (s.record fun s => s.takeTally r)

/-- ARRIVAL_RECORD (R141). -/
def execArrivalRecord (r : ArrivalRecord) (s : State) : Host.Outcome State Fault Refusal :=
  .next (s.record fun s => s.takeArrival r)

/-- BURST_RECORD_DISCARD (R176); a whole record of a known kind is no such record (log 27). -/
def execBurstRecordDiscard (kind : Byte) (endedEarly : Bool) (s : State) :
    Host.Outcome State Fault Refusal :=
  if burstDiscarded kind endedEarly then .next s.discardRecord
  else .refused (.illFormed "BURST_RECORD_DISCARD")

end Sys2Proof.Machine
end

