-- ==== Sys2Proof/Machine/HostCommands.lean ====
section
/-! DEFINITION. The commands of the Management Port (11): the exchange and the nineteen host commands. -/

namespace Sys2Proof.Machine

/-- COMMAND_BUSY: a command frame written while the slot is ANSWERED (R166); in READY there is no such
refusal and nothing happens (log 2). -/
def execCommandBusy (s : State) : Host.Outcome State Fault Refusal :=
  if slotAnswered s.port.slot then .next s.refuseBusy else .next s

/-- RESPONSE_READ (R166, R177). -/
def execResponseRead (bytes : Nat) (s : State) : Host.Outcome State Fault Refusal :=
  .next (s.readResponse bytes)

/-- MALFORMED_FRAME (R166). -/
def execMalformedFrame (s : State) : Host.Outcome State Fault Refusal := .next s.malformed

/-- BAD_DIRECTION_BYTE (R177); 01h and 02h are no such bytes (log 27). -/
def execBadDirectionByte (b : Byte) (s : State) : Host.Outcome State Fault Refusal :=
  if b = 1 ∨ b = 2 then .refused (.illFormed "BAD_DIRECTION_BYTE") else .next s.malformed

/-- BAD_COMMAND_FRAME (R167, R177); a frame that passes its checks is no such frame (log 27). -/
def execBadCommandFrame (f : CommandFrame) (s : State) : Host.Outcome State Fault Refusal :=
  if f.body.length ≠ f.length.toNat then .refused (.illFormed "BAD_COMMAND_FRAME")
  else match frameFault f with
    | some offset => .next (s.takeBadFrame f offset)
    | none => .refused (.illFormed "BAD_COMMAND_FRAME")

/-- LOAD START (R13, R168). -/
def execLoadStart (r : StartRecord) (s : State) : Host.Outcome State Fault Refusal :=
  .next (s.hostCommand 0x01 inStart fun s => s.loadStart r)

/-- RESTART (R16, R169). -/
def execRestart (s : State) : Host.Outcome State Fault Refusal :=
  .next (s.hostCommand 0x02 inAnyLife fun s => s.restart)

/-- ADMIT MODEM (R34). -/
def execAdmitModem (key : Key) (single : Bool) (normal fallback : ProfileIx) (s : State) :
    Host.Outcome State Fault Refusal :=
  .next (s.hostCommand 0x03 inService fun s => s.admitModem key single normal fallback)

/-- REMOVE MODEM (R35). -/
def execRemoveModem (key : Key) (s : State) : Host.Outcome State Fault Refusal :=
  .next (s.hostCommand 0x04 inService fun s => s.removeModem key)

/-- PIN MODEM (R150). -/
def execPinModem (key : Key) (pin : BitVec 2) (s : State) : Host.Outcome State Fault Refusal :=
  .next (s.hostCommand 0x05 inService fun s => s.pinModem key pin)

/-- READ MODEM (R50). -/
def execReadModem (key : Key) (s : State) : Host.Outcome State Fault Refusal :=
  .next (s.hostCommand 0x06 inService fun s => (s, s.readModem key))

/-- ADMIT FLOW (R42 to R45). -/
def execAdmitFlow (f : AdmitFlow) (s : State) : Host.Outcome State Fault Refusal :=
  .next (s.hostCommand 0x07 inService fun s => s.admitFlow f)

/-- REMOVE FLOW (R46, R47). -/
def execRemoveFlow (tag : Tag) (s : State) : Host.Outcome State Fault Refusal :=
  .next (s.hostCommand 0x08 inService fun s => s.removeTag tag)

/-- REVIVE FLOW (R49). -/
def execReviveFlow (tag : Tag) (s : State) : Host.Outcome State Fault Refusal :=
  .next (s.hostCommand 0x09 inService fun s => s.reviveFlow tag)

/-- READ FLOW (R50). -/
def execReadFlow (tag : Tag) (s : State) : Host.Outcome State Fault Refusal :=
  .next (s.hostCommand 0x0A inService fun s => (s, s.readFlow tag))

/-- READ CHANNEL (R173). -/
def execReadChannel (channel : Byte) (s : State) : Host.Outcome State Fault Refusal :=
  .next (s.hostCommand 0x0B inService fun s => s.readChannel channel)

/-- READ PEERS (R173). -/
def execReadPeers (s : State) : Host.Outcome State Fault Refusal :=
  .next (s.hostCommand 0x0C inService fun s => (s, doneBody s.peersBody))

/-- READ STATUS (R172, R173). -/
def execReadStatus (s : State) : Host.Outcome State Fault Refusal :=
  .next (s.hostCommand 0x0D inAnyLife fun s => s.readStatus)

/-- READ FAULTS (R155). -/
def execReadFaults (asked : BitVec 32) (s : State) : Host.Outcome State Fault Refusal :=
  .next (s.hostCommand 0x0E inAnyLife fun s => (s, doneBody (s.health.faultsBody asked)))

/-- CLEAR FAULTS (R156). -/
def execClearFaults (s : State) : Host.Outcome State Fault Refusal :=
  .next (s.hostCommand 0x0F inService fun s => s.clearFaults)

/-- TAKE ATTENTION (R171). -/
def execTakeAttention (s : State) : Host.Outcome State Fault Refusal :=
  .next (s.hostCommand 0x10 inService fun s => s.takeAttention)

/-- TAKE ARRIVALS (R171). -/
def execTakeArrivals (s : State) : Host.Outcome State Fault Refusal :=
  .next (s.hostCommand 0x11 inService fun s => s.takeArrivals)

/-- SET EVENT MASK (R172). -/
def execSetEventMask (causes : Byte) (s : State) : Host.Outcome State Fault Refusal :=
  .next (s.hostCommand 0x12 inService fun s => s.setMask causes)

/-- SWEEP RESTART (R165). -/
def execSweepRestart (s : State) : Host.Outcome State Fault Refusal :=
  .next (s.hostCommand 0x13 inService fun s => s.restartSweep)

end Sys2Proof.Machine
end

