-- ==== Sys2Proof/Machine/LinkEvents.lean ====
section
/-! DEFINITION. The commands of the peer link (07). -/

namespace Sys2Proof.Machine

/-- CONTENTION_DECIDED (R112, R113). -/
def execContentionDecided (others : List (BitVec 6)) (joined : Bool) (s : State) :
    Host.Outcome State Fault Refusal :=
  .next (s.decideContention others joined)

/-- TRANSMISSION_END (R114 to R121). -/
def execTransmissionEnd (heard : List Byte) (s : State) : Host.Outcome State Fault Refusal :=
  .next (s.endTransmission heard)

end Sys2Proof.Machine
end

