-- ==== Sys2Proof/Machine/SweepEvents.lean ====
section
/-! DEFINITION. The commands of the Table Sweep (10). -/

namespace Sys2Proof.Machine

/-- SWEEP_STEP_BEGIN: the first step after entry to LISTEN or after the sweep has resumed (R159, log 32). -/
def execSweepStepBegin (s : State) : Host.Outcome State Fault Refusal := .next s.beginStep

/-- SWEEP_STEP_COMPLETION (R159 to R163). -/
def execSweepStepCompletion (s : State) : Host.Outcome State Fault Refusal := .next s.completeStep

end Sys2Proof.Machine
end

