-- ==== Sys2Proof/Machine/TimeEvents.lean ====
section
/-! DEFINITION. The commands of reset, time and the deadlines outside the planner (01, 07, 08). -/

namespace Sys2Proof.Machine

/-- HARD_RESET (R8, R16). -/
def execHardReset (straps : StationNo) (s : State) : Host.Outcome State Fault Refusal :=
  .next (s.hardReset straps)

/-- TIME_WORD (R2 to R7). -/
def execTimeWord (stated : Tick) (check : BitVec 16) (s : State) :
    Host.Outcome State Fault Refusal :=
  .next (s.takeTimeWord stated check)

/-- BEAT_EVENT: counting brings node time to a beat boundary (R5, R7). -/
def execBeatEvent (t : Tick) (s : State) : Host.Outcome State Fault Refusal :=
  .next (s.atDeadline (.beat t))

/-- LISTEN_END (R15). -/
def execListenEnd (t : Tick) (s : State) : Host.Outcome State Fault Refusal :=
  .next (s.atDeadline (.listenEnd t))

/-- PENDING_EXPIRY (R137, R138). -/
def execPendingExpiry (t : Tick) (s : State) : Host.Outcome State Fault Refusal :=
  .next (s.atDeadline (.expiry t))

/-- LOCAL_HOLD_END (R83). -/
def execLocalHoldEnd (t : Tick) (s : State) : Host.Outcome State Fault Refusal :=
  .next (s.atDeadline (.localEnd t))

/-- SHARED_HOLD_END (R122). -/
def execSharedHoldEnd (t : Tick) (s : State) : Host.Outcome State Fault Refusal :=
  .next (s.atDeadline (.sharedEnd t))

/-- PRESENCE_TIMER (R124). -/
def execPresenceTimer (t : Tick) (s : State) : Host.Outcome State Fault Refusal :=
  .next (s.atDeadline (.presence t))

/-- ABSENCE_TICK (R126). -/
def execAbsenceTick (k : StationNo) (t : Tick) (s : State) : Host.Outcome State Fault Refusal :=
  .next (s.atDeadline (.absence k t))

end Sys2Proof.Machine
end

