-- ==== Sys2Proof/Machine/Dispatch.lean ====
section
/-! DEFINITION. exec: one arm per command, each one direct call of its meaning. -/

namespace Sys2Proof.Machine

def exec (i : Instr) (s : State) : Host.Outcome State Fault Refusal :=
  match i with
  | .hardReset straps => Sys2Proof.Machine.execHardReset straps s
  | .timeWord stated check => Sys2Proof.Machine.execTimeWord stated check s
  | .beatEvent t => Sys2Proof.Machine.execBeatEvent t s
  | .buildStart c n => Sys2Proof.Machine.execBuildStart c n s
  | .deliverDeadline c n => Sys2Proof.Machine.execDeliverDeadline c n s
  | .periodStart c n => Sys2Proof.Machine.execPeriodStart c n s
  | .listenEnd t => Sys2Proof.Machine.execListenEnd t s
  | .pendingExpiry t => Sys2Proof.Machine.execPendingExpiry t s
  | .localHoldEnd t => Sys2Proof.Machine.execLocalHoldEnd t s
  | .sharedHoldEnd t => Sys2Proof.Machine.execSharedHoldEnd t s
  | .presenceTimer t => Sys2Proof.Machine.execPresenceTimer t s
  | .absenceTick k t => Sys2Proof.Machine.execAbsenceTick k t s
  | .bidRecord r => Sys2Proof.Machine.execBidRecord r s
  | .outcomeReport r => Sys2Proof.Machine.execOutcomeReport r s
  | .windowTally r => Sys2Proof.Machine.execWindowTally r s
  | .arrivalRecord r => Sys2Proof.Machine.execArrivalRecord r s
  | .burstRecordDiscard kind endedEarly => Sys2Proof.Machine.execBurstRecordDiscard kind endedEarly s
  | .plannerTakesRequest upTo => Sys2Proof.Machine.execPlannerTakesRequest upTo s
  | .buildEnd => Sys2Proof.Machine.execBuildEnd s
  | .framerTakesMap => Sys2Proof.Machine.execFramerTakesMap s
  | .contentionDecided others joined => Sys2Proof.Machine.execContentionDecided others joined s
  | .transmissionEnd heard => Sys2Proof.Machine.execTransmissionEnd heard s
  | .sweepStepBegin => Sys2Proof.Machine.execSweepStepBegin s
  | .sweepStepCompletion => Sys2Proof.Machine.execSweepStepCompletion s
  | .commandBusy => Sys2Proof.Machine.execCommandBusy s
  | .responseRead bytes => Sys2Proof.Machine.execResponseRead bytes s
  | .malformedFrame => Sys2Proof.Machine.execMalformedFrame s
  | .badDirectionByte b => Sys2Proof.Machine.execBadDirectionByte b s
  | .badCommandFrame f => Sys2Proof.Machine.execBadCommandFrame f s
  | .loadStart r => Sys2Proof.Machine.execLoadStart r s
  | .restart => Sys2Proof.Machine.execRestart s
  | .admitModem key single normal fallback => Sys2Proof.Machine.execAdmitModem key single normal fallback s
  | .removeModem key => Sys2Proof.Machine.execRemoveModem key s
  | .pinModem key pin => Sys2Proof.Machine.execPinModem key pin s
  | .readModem key => Sys2Proof.Machine.execReadModem key s
  | .admitFlow f => Sys2Proof.Machine.execAdmitFlow f s
  | .removeFlow tag => Sys2Proof.Machine.execRemoveFlow tag s
  | .reviveFlow tag => Sys2Proof.Machine.execReviveFlow tag s
  | .readFlow tag => Sys2Proof.Machine.execReadFlow tag s
  | .readChannel channel => Sys2Proof.Machine.execReadChannel channel s
  | .readPeers => Sys2Proof.Machine.execReadPeers s
  | .readStatus => Sys2Proof.Machine.execReadStatus s
  | .readFaults asked => Sys2Proof.Machine.execReadFaults asked s
  | .clearFaults => Sys2Proof.Machine.execClearFaults s
  | .takeAttention => Sys2Proof.Machine.execTakeAttention s
  | .takeArrivals => Sys2Proof.Machine.execTakeArrivals s
  | .setEventMask causes => Sys2Proof.Machine.execSetEventMask causes s
  | .sweepRestart => Sys2Proof.Machine.execSweepRestart s

end Sys2Proof.Machine
end

