-- ==== Sys2Proof/Machine/Step.lean ====
section
/-! DEFINITION. The step: the front command of the queue, or a tick of the node clock. -/

namespace Sys2Proof.Machine

/-- The clock part of a step on an empty queue (log 3): an untimed station idles; a deadline of the
present tick that no command has taken sends its own command, one of several by a free value; else
node time counts on by one tick. -/
def State.idle (s : State) : State :=
  if s.time.timed then
    match s.draw (s.within 1) with
    | some (d, s') => { s' with pending := d.command.toList }
    | none => s.setNow (s.time.nodeTime + 1)
  else s

/-- Take the command at the front of the queue and run it with the queue's rest. -/
def step (s : State) : Host.Outcome State Fault Refusal :=
  match s.pending with
  | [] => .next s.idle
  | c :: rest => exec c { s with pending := rest }

/-- The command that a word spells, put at the front of the queue; no word spells one, and the state
is then unchanged (log 39). -/
def State.withFetchWord (s : State) (nbits w : Nat) : State :=
  match decodeTableWord nbits w with
  | some c => { s with pending := c :: s.pending }
  | none => s

end Sys2Proof.Machine
end

