-- ==== Sys2Proof/Safety.lean ====
section
/-! DEFINITION. What a safe state of the station is: the laws that the rules of the spec state of its
tables, queues and lists, and the states no run leaves. -/

namespace Sys2Proof.Machine

/-- The law of the attention queue: at most 64 entries, never two for one flow tag (R170). -/
def AttentionLaw (s : State) : Prop :=
  s.port.attention.length ≤ 64 ∧ (s.port.attention.map (·.tag)).Nodup

/-- The law of the fault ring: at most 16 records, numbered consecutively up to the number before the
sequence counter (R154). -/
def RingLaw (s : State) : Prop :=
  s.health.ring.length ≤ 16 ∧
    ∀ i r, s.health.ring[i]? = some r →
      r.seq = s.health.seq - BitVec.ofNat 32 (s.health.ring.length - i)

/-- The law of holds: at most 256 entries, no two of one modem key overlapping (R119). -/
def HoldLaw (s : State) : Prop :=
  s.link.holds.length ≤ 256 ∧
    s.link.holds.Pairwise fun a b => a.key = b.key → overlaps a.start a.stop b.start b.stop = false

/-- The transmit queue: at most 64 notices, in rank order, with one PRESENCE at most (R110, R124). -/
def QueueLaw (s : State) : Prop :=
  s.link.queue.length ≤ 64 ∧ s.link.queue.Pairwise (fun a b => a.rank ≤ b.rank) ∧
    (s.link.queue.filter isPresence).length ≤ 1

/-- The bytes of a flow record: credit within its ceiling, ceiling and outstanding within 1,048,575
(R30, R36, R43). -/
def flowBytesOk (f : Flow) : Prop :=
  f.credit ≤ f.ceiling ∧ f.ceiling ≤ 1048575 ∧ f.outstanding ≤ 1048575

def BytesLaw (s : State) : Prop := ∀ e ∈ s.store.flows, flowBytesOk e.2

/-- The tables: records in rising order within the capacity of each (R34, R44). -/
def TablesLaw (s : State) : Prop :=
  (tabWf s.store.modems = true ∧ ∀ e ∈ s.store.modems, e.1 < 4096) ∧
    (tabWf s.store.flows = true ∧ ∀ e ∈ s.store.flows, e.1 < 8192) ∧
    tabWf s.store.tagMap = true

/-- The store: its tables, and a tag BOUND to a record exactly when that record holds the tag's flow
(R40, R41, R44, R46). -/
def StoreLaw (s : State) : Prop :=
  TablesLaw s ∧
    (∀ (tag : Tag) i, s.tagState tag = some (.bound i) →
      ∃ f, tabGet s.store.flows i = some f ∧ f.tag = tag) ∧
    ∀ i f, tabGet s.store.flows i = some f → s.tagState f.tag = some (.bound i)

/-- The tags a walk has still to visit in its class. -/
def Phase.visits (p : Phase) : List Tag :=
  match p with
  | .walk _ left _ => left
  | _ => []

/-- The law of membership (R77): a tag stands in a ready list, and once, exactly when it names an
eligible flow of that class; a walk visits members only; no flow has more than 4 pending turns. -/
def ReadyLaw (s : State) : Prop :=
  StoreLaw s ∧ (∀ c, (s.planner.ready.get c).Nodup) ∧
    (∀ c tag, tag ∈ s.planner.ready.get c ↔
      ∃ f, s.flow tag = some f ∧ f.cls = c ∧ f.eligible = true) ∧
    (∀ b, s.planner.building = some b →
      b.phase.visits.Nodup ∧ ∀ tag ∈ b.phase.visits, ∃ c, tag ∈ s.planner.ready.get c) ∧
    ∀ e ∈ s.store.flows, e.2.pendingCount ≤ 4

/-- The capacities of the queues and lists of the planner, the Map Output Port, the Outcome Tracker and
the host (R69, R83, R87, R130, R141). -/
def CapacityLaw (s : State) : Prop :=
  s.planner.requests.length ≤ 4 ∧ s.planner.localHolds.length ≤ 256 ∧
    s.mapPort.queue.length ≤ 4 ∧ s.tracker.list.length ≤ 1024 ∧ s.port.arrivals.length ≤ 32

/-- An untimed station holds node time and the beat counter at 0 and is in START (R1, R13). -/
def UntimedLaw (s : State) : Prop :=
  s.time.timed = false → s.time.nodeTime = 0 ∧ s.time.beat = 0 ∧ s.life = .start

/-- What a channel holds in START: no clock, W unset (R12, R13, R94). -/
def chanQuiet (ch : Channel) : Prop := ch.clock = none ∧ ch.w = none

/-- In START the station serves nothing: no clocks, no maps, no records, no queues, an idle link and a
STOPPED sweep (R13, R16, R36, R40, R109, R123, R130, R159, R169). -/
structure Quiet (s : State) : Prop where
  chans : ∀ c, chanQuiet (s.chans.get c)
  listenEnd : s.listenEnd = none
  store : s.store = FlowStore.reset
  planner : s.planner = Planner.reset
  mapPort : s.mapPort = MapPort.reset
  queue : s.link.queue = []
  roster : s.link.roster = Vector.replicate 8 RosterEntry.absent
  holds : s.link.holds = []
  presence : s.link.presence = none
  contender : ∀ q b, s.link.medium ≠ Medium.idle (some q) b
  pendings : s.tracker.list = []
  sweep : s.sweep.state = .stopped ∧ s.sweep.cursor = 0 ∧ s.sweep.step = none
  attention : s.port.attention = []
  arrivals : s.port.arrivals = []

def StartLaw (s : State) : Prop := s.life = .start → Quiet s

/-- No slot belongs to both entries. -/
def Entry.apart (a b : Entry) : Prop :=
  ∀ x, ¬ (a.start ≤ x ∧ x < a.start + a.len ∧ b.start ≤ x ∧ x < b.start + b.len)

/-- The law of turn maps on a period of `slots` slots (R72): entries in start-slot order, no slot in
two of them, all within the period, at most 240. -/
def laidOut (slots : Nat) (es : List Entry) : Prop :=
  (es.Pairwise fun a b => a.start ≤ b.start ∧ a.apart b) ∧
    (∀ e ∈ es, e.start + e.len ≤ slots) ∧ es.length ≤ 240

/-- Every map past its request that has not ended. -/
def State.maps (s : State) : List TurnMap :=
  (s.planner.building.map (·.map)).toList ++ s.planner.sealing ++ s.mapPort.queue
    ++ s.mapPort.delivered

def MapsLaw (s : State) : Prop :=
  StartLaw s ∧ ∀ m ∈ s.maps, laidOut (s.part m.name.chan).periodSlots.toNat m.entries

/-- The law of health (R147), with the bounds of the trail and of the lifetime fault count (R151,
R154). The thresholds are those of the accepted record, which R168 checks. -/
def HealthLaw (s : State) : Prop :=
  (s.life = .start → s.store.modems = []) ∧
    (∀ r, s.accepted = some r →
      (r.t1.toNat < 200 ∧ r.t2.toNat < 200 ∧ r.t3.toNat < 200 ∧ 1 ≤ r.recover.toNat) ∧
        ∀ e ∈ s.store.modems,
          (e.2.presence ≤ r.t1.toNat ∨ e.2.integrity ≤ r.t2.toNat ∨ e.2.margin ≤ r.t3.toNat) →
            e.2.state = .degraded) ∧
    ∀ e ∈ s.store.modems, e.2.presence ≤ 200 ∧ e.2.integrity ≤ 200 ∧ e.2.margin ≤ 200 ∧
      e.2.trail.length ≤ 4 ∧ e.2.lifetime ≤ 65535

/-- The roster: a PRESENT entry has an absence tick, an ABSENT one announces nothing and has none, and
the entry stored for this station stays unused (R123). -/
def rosterEntryOk (e : RosterEntry) : Prop :=
  if e.present then e.absence.isSome = true else e = RosterEntry.absent

def RosterLaw (s : State) : Prop :=
  (∀ k, rosterEntryOk (s.stored k)) ∧ s.stored s.station = RosterEntry.absent

/-! ### The terms of the statements -/

/-- A deadline stands and counting meets none before it (R6). -/
abbrev State.due (s : State) (d : Deadline) : Prop :=
  d ∈ s.deadlines ∧ ∀ e ∈ s.deadlines, s.distance d ≤ s.distance e

/-- Node time counted on to `t` with no deadline met on the way: it passes the end ticks of pending
entries (R1, R134). -/
def State.countedTo (s : State) (t : Tick) : State :=
  { s with
    time := { s.time with nodeTime := t }
    tracker := s.tracker.passing s.time.nodeTime (t - s.time.nodeTime).toNat }

/-- The latches after one cause is raised (R172): its bit joins them when the mask enables it. -/
def State.latchedWith (s : State) (bit : BitVec 7) : BitVec 7 :=
  s.port.latched ||| (bit &&& s.port.mask)

/-- What a forward slip to `v` changes whatever deadlines it passes: node time, the slip counter, the
watch, one beat event (R4, R5; `nextBeat` is log 6), the end ticks passed (R134), and the TIME cause. -/
def State.slippedTo (s : State) (v : Tick) : State :=
  { s.countedTo v with
    time := { s.time with
      nodeTime := v, slips := bump s.time.slips 1, watch := 0, line := .arriving,
      beat := s.time.beat + 1,
      nextBeat :=
        if (s.time.nextBeat - s.time.nodeTime).toNat ≤ (v - s.time.nodeTime).toNat then v + 65536
        else s.time.nextBeat }
    port := { s.port with latched := s.latchedWith 0x20#7 } }

/-- A forward slip to `v` passes over a tick (R6). -/
abbrev State.slipPasses (s : State) (v t : Tick) : Prop :=
  (t - s.time.nodeTime).toNat ≤ (v - s.time.nodeTime).toNat

/-- A forward slip to `v` passes over no deadline but the beat and those listed. -/
abbrev State.slipPassesOnly (s : State) (v : Tick) (ds : List Deadline) : Prop :=
  ∀ d ∈ s.deadlines, s.slipPasses v (s.tickOf d) → d = .beat s.time.nextBeat ∨ d ∈ ds

/-- The port takes commands of 11.2 that need LISTEN or SERVING, and its slot is READY. -/
def State.hostReady (s : State) : Prop := s.port.slot = .ready ∧ s.life ≠ .start

/-- The exchange of a command taken in READY: the status byte of a READY slot, one more command taken,
and the response held (R166, R167, R177). -/
def State.replied (s : State) (code : Byte) (result : ResultCode) (body : List Byte) : State :=
  { s with
    out := { s.out with statusByte := 0 }
    port := { s.port with taken := bump s.port.taken 1, slot := .answered ⟨code, result, body⟩ } }

/-- The command code of a host command (11.2, R178); none for the rows that the host does not send. -/
def hostCode (i : Instr) : Option Byte :=
  match i with
  | .loadStart _ => some 0x01
  | .restart => some 0x02
  | .admitModem _ _ _ _ => some 0x03
  | .removeModem _ => some 0x04
  | .pinModem _ _ => some 0x05
  | .readModem _ => some 0x06
  | .admitFlow _ => some 0x07
  | .removeFlow _ => some 0x08
  | .reviveFlow _ => some 0x09
  | .readFlow _ => some 0x0A
  | .readChannel _ => some 0x0B
  | .readPeers => some 0x0C
  | .readStatus => some 0x0D
  | .readFaults _ => some 0x0E
  | .clearFaults => some 0x0F
  | .takeAttention => some 0x10
  | .takeArrivals => some 0x11
  | .setEventMask _ => some 0x12
  | .sweepRestart => some 0x13
  | .hardReset _ => none
  | .timeWord _ _ => none
  | .beatEvent _ => none
  | .buildStart _ _ => none
  | .deliverDeadline _ _ => none
  | .periodStart _ _ => none
  | .listenEnd _ => none
  | .pendingExpiry _ => none
  | .localHoldEnd _ => none
  | .sharedHoldEnd _ => none
  | .presenceTimer _ => none
  | .absenceTick _ _ => none
  | .bidRecord _ => none
  | .outcomeReport _ => none
  | .windowTally _ => none
  | .arrivalRecord _ => none
  | .burstRecordDiscard _ _ => none
  | .plannerTakesRequest _ => none
  | .buildEnd => none
  | .framerTakesMap => none
  | .contentionDecided _ _ => none
  | .transmissionEnd _ => none
  | .sweepStepBegin => none
  | .sweepStepCompletion => none
  | .commandBusy => none
  | .responseRead _ => none
  | .malformedFrame => none
  | .badDirectionByte _ => none
  | .badCommandFrame _ => none

end Sys2Proof.Machine
end

