-- ==== Sys2Proof/WellFormed.lean ====
section
/-! DEFINITION. Which terms of `Instr` spell a command of the spec: the checks an operand must pass. -/

namespace Sys2Proof

/-- The arbitration fields of the other contenders: ranks 0 to 4, no station twice (R112). -/
def contendersWellFormed (others : List (BitVec 6)) : Bool :=
  others.all (fun f => f.toNat / 8 ≤ 4) && (others.map (fun f => f.toNat % 8)).Nodup

/-- A command frame whose length field counts its body and that R167 or R177 refuses. -/
def badFrameWellFormed (f : CommandFrame) : Bool :=
  f.body.length == f.length.toNat && (Machine.frameFault f).isSome

def Instr.wellFormed : Instr → Bool
  | .hardReset _ => true
  | .timeWord _ _ => true
  | .beatEvent _ => true
  | .buildStart _ _ => true
  | .deliverDeadline _ _ => true
  | .periodStart _ _ => true
  | .listenEnd _ => true
  | .pendingExpiry _ => true
  | .localHoldEnd _ => true
  | .sharedHoldEnd _ => true
  | .presenceTimer _ => true
  | .absenceTick _ _ => true
  | .bidRecord _ => true
  | .outcomeReport _ => true
  | .windowTally _ => true
  | .arrivalRecord _ => true
  | .burstRecordDiscard kind endedEarly => Machine.burstDiscarded kind endedEarly
  | .plannerTakesRequest _ => true
  | .buildEnd => true
  | .framerTakesMap => true
  | .contentionDecided others _ => contendersWellFormed others
  | .transmissionEnd _ => true
  | .sweepStepBegin => true
  | .sweepStepCompletion => true
  | .commandBusy => true
  | .responseRead _ => true
  | .malformedFrame => true
  | .badDirectionByte b => b != 1 && b != 2
  | .badCommandFrame f => badFrameWellFormed f
  | .loadStart _ => true
  | .restart => true
  | .admitModem _ _ _ _ => true
  | .removeModem _ => true
  | .pinModem _ _ => true
  | .readModem _ => true
  | .admitFlow _ => true
  | .removeFlow _ => true
  | .reviveFlow _ => true
  | .readFlow _ => true
  | .readChannel _ => true
  | .readPeers => true
  | .readStatus => true
  | .readFaults _ => true
  | .clearFaults => true
  | .takeAttention => true
  | .takeArrivals => true
  | .setEventMask _ => true
  | .sweepRestart => true

end Sys2Proof
end

