-- ==== Sys2Proof/Certificates/Slice0/Obligations.lean ====
section
/-! DEFINITION. The statements for the provers, as OBLIGATIONS.json lists them. An equation
`exec c s = .next t` with `t` written as an update of `s` says the command's whole effect: every field
it does not name is unchanged. -/

section

open Sys2Proof Sys2Proof.Machine

/-! ### The step and its outcomes -/

/-- A step takes the front command of the queue and runs it with the queue's rest (log 1). -/
def Obligations.StepRunsTheFrontCommand : Prop :=
  ∀ (c : Instr) (s : State), step { s with pending := c :: s.pending } = exec c s

/-- On an empty queue an untimed station does nothing; a timed one with no deadline at the present tick
counts node time on by one tick, which passes the end ticks of the turns that end there (R1, R134); and a
single deadline of the present tick sends its command (the model's choice, log 3). -/
def Obligations.EmptyQueueLetsTheClockRun : Prop :=
  ∀ s : State, s.pending = [] →
    (s.time.timed = false → step s = .next s) ∧
    (s.time.timed = true → (∀ d ∈ s.deadlines, s.tickOf d ≠ s.time.nodeTime) →
      step s = .next
        { s with
          time := { s.time with nodeTime := s.time.nodeTime + 1 }
          tracker := { s.tracker with
            list := s.tracker.list.map fun e =>
              if e.endTick = s.time.nodeTime ∨ e.endTick = s.time.nodeTime + 1 then
                { e with ended := true }
              else e } }) ∧
    (∀ d i, s.deadlines.filter (fun e => s.tickOf e == s.time.nodeTime) = [d] →
      d.command = some i → step s = .next { s with pending := [i] })

/-- Every well-formed command answers a next state, and the three rows whose operands can fail to spell
a command refuse exactly the ill-formed ones (log 27). No command changes the queue of waiting commands
(log 1). -/
def Obligations.WellFormedCommandsRun : Prop :=
  (∀ (c : Instr) (s : State), c.wellFormed = true → ∃ t, exec c s = .next t) ∧
  (∀ kind early s, (Instr.burstRecordDiscard kind early).wellFormed = false →
    exec (.burstRecordDiscard kind early) s = .refused (.illFormed "BURST_RECORD_DISCARD")) ∧
  (∀ b s, (Instr.badDirectionByte b).wellFormed = false →
    exec (.badDirectionByte b) s = .refused (.illFormed "BAD_DIRECTION_BYTE")) ∧
  (∀ f s, (Instr.badCommandFrame f).wellFormed = false →
    exec (.badCommandFrame f) s = .refused (.illFormed "BAD_COMMAND_FRAME")) ∧
  (∀ (c : Instr) (s t : State), exec c s = .next t → t.pending = s.pending)

/-! ### The laws -/

/-- The station after a hard reset meets every law. -/
def Obligations.ResetMeetsEveryLaw : Prop :=
  AttentionLaw State.reset ∧ RingLaw State.reset ∧ HoldLaw State.reset ∧ QueueLaw State.reset ∧
    BytesLaw State.reset ∧ StoreLaw State.reset ∧ CapacityLaw State.reset ∧ ReadyLaw State.reset ∧
    MapsLaw State.reset ∧ HealthLaw State.reset ∧ StartLaw State.reset ∧ UntimedLaw State.reset ∧
    RosterLaw State.reset

/-- Every step keeps the attention queue at most 64 long with no flow tag in it twice, and the queues and
lists of the planner, the map port, the tracker and the host within their capacities. -/
def Obligations.StepKeepsQueueCapacities : Prop :=
  ∀ s t : State, step s = .next t →
    (AttentionLaw s → AttentionLaw t) ∧ (CapacityLaw s → CapacityLaw t)

/-- Every step keeps the fault ring at most 16 long and consecutively numbered. -/
def Obligations.StepKeepsRingLaw : Prop :=
  ∀ s t : State, RingLaw s → step s = .next t → RingLaw t

/-- Every step keeps the shared holds of one modem key apart, and at most 256 of them. -/
def Obligations.StepKeepsHoldLaw : Prop :=
  ∀ s t : State, HoldLaw s → step s = .next t → HoldLaw t

/-- Every step keeps the transmit queue at most 64 long, in rank order, with at most one PRESENCE. -/
def Obligations.StepKeepsTransmitQueueLaw : Prop :=
  ∀ s t : State, QueueLaw s → step s = .next t → QueueLaw t

/-- Every step keeps credit within its ceiling, and ceiling and outstanding bytes within 1,048,575. -/
def Obligations.StepKeepsFlowBytesLaw : Prop :=
  ∀ s t : State, BytesLaw s → step s = .next t → BytesLaw t

/-- Every step keeps the tables in their canonical form and within their sizes, and a tag BOUND to a
record exactly when that record holds the tag's flow. -/
def Obligations.StepKeepsStoreLaw : Prop :=
  ∀ s t : State, StoreLaw s → step s = .next t → StoreLaw t

/-- Every step keeps the law of membership: a tag stands in a ready list, once, exactly when it names an
eligible flow of that class. -/
def Obligations.StepKeepsReadyLaw : Prop :=
  ∀ s t : State, ReadyLaw s → step s = .next t → ReadyLaw t

/-- Every step keeps every turn map laid out: entries in start-slot order, no slot in two of them, all
within the period, at most 240. -/
def Obligations.StepKeepsMapsLaw : Prop :=
  ∀ s t : State, MapsLaw s → step s = .next t → MapsLaw t

/-- Every step keeps the law of health: a modem with a score at or below its threshold is DEGRADED. -/
def Obligations.StepKeepsHealthLaw : Prop :=
  ∀ s t : State, HealthLaw s → step s = .next t → HealthLaw t

/-- Every step keeps a station in START quiet, an untimed station in START with node time 0, and the
roster's absence ticks with PRESENT entries. -/
def Obligations.StepKeepsStationLaws : Prop :=
  ∀ s t : State, step s = .next t →
    (StartLaw s → StartLaw t) ∧ (UntimedLaw s → UntimedLaw t) ∧ (RosterLaw s → RosterLaw t)

/-! ### Records and arithmetic -/

/-- The bytes of a notice, heard whole, give its sender and the notice back: no bit of it is dropped. -/
def Obligations.NoticeRoundTrip : Prop :=
  ∀ (k : StationNo) (n : Notice), noticeOf (noticeBytes k n) = some (k, n)

/-- The bytes of each record of the Burst Report Port give the record back, and so do a time word and
a command frame, whatever follows the frame in its transaction. -/
def Obligations.RecordsAndFramesRoundTrip : Prop :=
  (∀ r, burstCommand (bidRecordBytes r) = .bidRecord r) ∧
  (∀ r, burstCommand (outcomeReportBytes r) = .outcomeReport r) ∧
  (∀ r, burstCommand (windowTallyBytes r) = .windowTally r) ∧
  (∀ r, burstCommand (arrivalRecordBytes r) = .arrivalRecord r) ∧
  (∀ v check, timeWordOf (be4 v.toNat ++ be2 check.toNat) = .timeWord v check) ∧
  (∀ (f : CommandFrame) (rest : List Byte), f.body.length = f.length.toNat →
    frameOf (frameBytes f ++ be2 f.check.toNat ++ rest) = some f)

/-- R23: the answer of the fit search, for a run of 1 to 2,048 slots. -/
def Obligations.FitSearchFindsTheLargestTurn : Prop :=
  ∀ (pr : ProfilePart) (q s : Nat), profileFieldsOk pr = true → 16 ≤ q → q ≤ 256 →
    1 ≤ s → s ≤ 2048 →
    (fitFor pr q s = 0 ∨
      (fitFor pr q s ≤ 16383 ∧ slotsFor pr q (fitFor pr q s) ≤ s ∧
        (fitFor pr q s = 16383 ∨ s < slotsFor pr q (fitFor pr q s + 1)))) ∧
    (fitFor pr q s = 0 ↔ s < slotsFor pr q 1) ∧
    (fitFor pr q s = 0 → ∀ b, 1 ≤ b → b ≤ 16383 → s < slotsFor pr q b) ∧
    (fitFor pr q s = 16383 ↔ slotsFor pr q 16383 ≤ s) ∧
    (∀ s', s ≤ s' → s' ≤ 2048 → fitFor pr q s ≤ fitFor pr q s') ∧
    (∀ want, 1 ≤ want → want ≤ 16383 → s < slotsFor pr q want → fitFor pr q s < want)

/-- The first period of a channel at entry tick `t`: period 0 when its build-start is not before `t`,
and otherwise the period whose build-start lies less than one period after `t`. -/
def Obligations.FirstPeriodFollowsTheEntryTick : Prop :=
  ∀ (p : ChannelPart) (lead : BitVec 32) (t : Tick), 0 < partTicks p → partTicks p ≤ 1048576 →
    ((t - p.epoch + lead = 0 ∨ 2147483648 ≤ (t - p.epoch + lead).toNat) →
      firstPeriod p lead t = 0) ∧
    (0 < (t - p.epoch + lead).toNat → (t - p.epoch + lead).toNat < 2147483648 →
      (p.epoch + firstPeriod p lead t * BitVec.ofNat 32 (partTicks p) - lead - t).toNat
        < partTicks p)

/-! ### Resets -/

/-- R8: the Time Unit after a hard reset and after RESTART. After RESTART a timed node time counts on,
and the beat counter goes on from the next beat event. -/
def Obligations.ResetsSetTheTimeUnit : Prop :=
  (∀ (straps : StationNo) (s : State), ∃ t, exec (.hardReset straps) s = .next t ∧
    t.time.timed = false ∧ t.time.nodeTime = 0 ∧ t.time.beat = 0 ∧ t.time.line = .arriving ∧
    t.time.watch = 0 ∧ t.time.slips = 0 ∧ t.time.lineLosses = 0 ∧ t.time.badWords = 0 ∧
    (∀ c, (t.chans.get c).clock = none) ∧ step { t with pending := [] } = .next { t with pending := [] }) ∧
  (∀ s : State, s.port.slot = .ready → ∃ t, exec .restart s = .next t ∧
    t.time = { s.time with beat := 0, slips := 0, lineLosses := 0, badWords := 0 } ∧
    (∀ c, (t.chans.get c).clock = none) ∧
    (s.time.timed = true → s.time.nextBeat ≠ s.time.nodeTime →
      step { t with pending := [] } = .next
        { t with pending := [], time := { t.time with nodeTime := t.time.nodeTime + 1 } }) ∧
    (s.time.timed = true → ∃ u, exec (.beatEvent t.time.nextBeat) t = .next u ∧ u.time.beat = 1))

/-- Both resets put the station into START with no record, tables, lists, queues and counters cleared.
A hard reset reads the straps and clears all the rest; one taken while this station sends cuts its notice
and a contention opens, and another station's transmission goes on. RESTART keeps the station number, the
fault ring with its sequence and replaced counters, and the event mask, lets its own notice run on
unheard, and answers DONE. (The commands taken counter of RESTART is log 23, the medium log 17.) -/
def Obligations.ResetsClearTheStation : Prop :=
  (∀ (straps : StationNo) (s : State), ∃ t, exec (.hardReset straps) s = .next t ∧
    t.station = straps ∧ t.life = .start ∧ t.accepted = none ∧ t.listenEnd = none ∧
    t.chans = Quad.all Channel.reset ∧ t.store = FlowStore.reset ∧ t.planner = Planner.reset ∧
    t.mapPort = MapPort.reset ∧ t.tracker = Tracker.reset ∧ t.health = Health.reset ∧
    t.sweep = Sweep.reset ∧ t.port = Port.reset ∧ t.link.queue = [] ∧ t.link.inTx = none ∧
    t.link.holds = [] ∧ t.link.presence = none ∧ t.link.counters = LinkCounters.zero ∧
    (∀ k, t.stored k = RosterEntry.absent) ∧
    (s.link.inTx ≠ none → t.link.medium = .idle none true ∧ t.link.deaf = false) ∧
    (s.link.inTx = none → t.link.deaf = s.link.deaf ∧
      (s.link.medium = .sending → t.link.medium = .sending) ∧
      (∀ q e, s.link.medium = .idle q e → t.link.medium = .idle none e))) ∧
  (∀ s : State, s.port.slot = .ready → ∃ t, exec .restart s = .next t ∧
    t.station = s.station ∧ t.life = .start ∧ t.accepted = none ∧ t.listenEnd = none ∧
    t.chans = Quad.all Channel.reset ∧ t.store = FlowStore.reset ∧ t.planner = Planner.reset ∧
    t.mapPort = MapPort.reset ∧ t.tracker = Tracker.reset ∧
    t.health = { Health.reset with
      ring := s.health.ring, seq := s.health.seq, replaced := s.health.replaced } ∧
    t.sweep = Sweep.reset ∧
    t.port = { Port.reset with mask := s.port.mask, slot := .answered ⟨2, .done, []⟩ } ∧
    t.link.queue = [] ∧ t.link.holds = [] ∧ t.link.presence = none ∧
    t.link.counters = LinkCounters.zero ∧ (∀ k, t.stored k = RosterEntry.absent) ∧
    (s.link.inTx = none → t.link.inTx = none) ∧
    (∀ x, s.link.inTx = some x →
      t.link.inTx = some { own := ⟨x.own.notice, none⟩, withdrawn := false, silent := true }) ∧
    (s.link.medium = .sending → t.link.medium = .sending) ∧
    (∀ q e, s.link.medium = .idle q e → t.link.medium = .idle none e) ∧
    (s.link.inTx = none → s.link.medium = .sending → t.link.deaf = true))

/-! ### Time words and deadlines -/

/-- A time word that fails its check or states no beat boundary only counts as bad; the first valid one
loads node time; one that agrees with node time only renews the watch. -/
def Obligations.TimeWordRefusedFirstOrAgreeing : Prop :=
  ∀ (v : Tick) (check : BitVec 16) (s : State),
    ((check ≠ crc16 (be4 v.toNat) ∨ v.toNat % 65536 ≠ 0) →
      exec (.timeWord v check) s = .next
        { s with time := { s.time with badWords := bump s.time.badWords 1 } }) ∧
    (check = crc16 (be4 v.toNat) → v.toNat % 65536 = 0 → s.time.timed = false →
      s.accepted = none →
      exec (.timeWord v check) s = .next
        { s with time := { s.time with
            timed := true, nodeTime := v, beat := 0, watch := 0, line := .arriving,
            nextBeat := v + 65536 } }) ∧
    (check = crc16 (be4 v.toNat) → v.toNat % 65536 = 0 → s.time.timed = true →
      v = s.time.nodeTime →
      exec (.timeWord v check) s = .next
        { s with time := { s.time with watch := 0, line := .arriving } })

/-- A slip: a valid word other than node time reloads node time, counts a slip and raises TIME; a
forward one adds one beat event and passes the end ticks of pending entries. When no deadline but the
beat is passed over, nothing else changes. A forward slip over one deadline makes it fall at the slip: a
period whose build has not begun is skipped and counted when its deliver deadline is passed too, and
else its build is requested; a period whose build has begun has its deliver deadline and then its
period-start; LISTEN ends; local and shared holds end; a pending entry is LOST; the presence timer
queues one PRESENCE and moves past node time; a roster entry becomes ABSENT. That a backward slip
changes nothing else keeps the mark of a turn whose end was passed, which is the model's choice (log
41). (A distance of exactly 2^31 is log 7; `nextBeat` is log 6.) -/
def Obligations.TimeWordSlips : Prop :=
  ∀ (v : Tick) (s : State), v.toNat % 65536 = 0 → s.time.timed = true →
    (∀ d ∈ s.deadlines, s.tickOf d ≠ s.time.nodeTime) →
    let word := Instr.timeWord v (crc16 (be4 v.toNat))
    let u := s.slippedTo v
    (before v s.time.nodeTime = true →
      exec word s = .next
        { s with
          time := { s.time with
            nodeTime := v, slips := bump s.time.slips 1, watch := 0, line := .arriving }
          port := { s.port with latched := s.latchedWith 0x20#7 } }) ∧
    (before s.time.nodeTime v = true →
      (s.slipPassesOnly v [] → exec word s = .next u) ∧
      (∀ c k, (s.chans.get c).clock = some k → s.slipPassesOnly v (clockDeadlines c k) →
        let ch := s.chans.get c
        let m : MapName := ⟨c, k.start⟩
        let n : MapName := ⟨c, k.start + 1⟩
        k.deadline = k.start → ¬ s.slipPasses v (s.buildTick n) →
        ¬ s.slipPasses v (s.deadlineTick n) →
        (k.build = k.start → s.slipPasses v (s.deadlineTick m) →
          exec word s = .next
            { u with chans := s.chans.set c { ch with
              skipped := bump ch.skipped 1
              clock := some { k with build := n.period, deadline := n.period, start := n.period } } }) ∧
        (k.build = k.start → s.slipPasses v (s.buildTick m) → ¬ s.slipPasses v (s.deadlineTick m) →
          s.planner.requests.length < 4 →
          exec word s = .next
            { u with
              chans := s.chans.set c { ch with clock := some { k with build := n.period } }
              planner := { s.planner with requests := s.planner.requests ++ [m] } }) ∧
        (∀ x, k.build = n.period → k.skips = [] → s.slipPasses v (s.deadlineTick m) →
          s.slipPasses v (s.startTick m) → m ∉ s.planner.requests → s.planner.building = none →
          s.planner.sealing = [] → s.mapPort.queue.find? (·.name == m) = some x →
          (∀ e ∈ x.entries, e.kind = .join ∨ e.kind = .bid) →
          exec word s = .next
            { u with
              chans := s.chans.set c { ch with
                clock := some { k with deadline := n.period, start := n.period }
                maps := { ch.maps with late := bump ch.maps.late 1 } }
              mapPort := { s.mapPort with queue := s.mapPort.queue.filter (·.name ≠ m) }
              port := { u.port with latched := u.latchedWith 0x10#7 } })) ∧
      (∀ t, s.life = .listen → s.listenEnd = some t → s.slipPasses v t →
        s.slipPassesOnly v [.listenEnd t] →
        exec word s = .next
          { u with
            life := .serving
            listenEnd := none
            port := { u.port with latched := u.latchedWith 0x40#7 } }) ∧
      (∀ t, Deadline.sharedEnd t ∈ s.deadlines → s.slipPasses v t → s.slipPassesOnly v [.sharedEnd t] →
        ∃ drawn, exec word s = .next
          { u with
            free := drawn
            link := { s.link with holds := s.link.holds.filter (·.stop ≠ t) } }) ∧
      (∀ t, Deadline.localEnd t ∈ s.deadlines → s.slipPasses v t → s.slipPassesOnly v [.localEnd t] →
        ∃ drawn, exec word s = .next
          { u with
            free := drawn
            planner := { s.planner with localHolds := s.planner.localHolds.filter (·.stop ≠ t) } }) ∧
      (∀ t, s.link.presence = some t → s.slipPasses v t → s.slipPassesOnly v [.presence t] →
        let one : Queued := ⟨.presence (s.life == .serving), none⟩
        ∃ p : Tick, 0 < (p - v).toNat ∧ (p - v).toNat ≤ 262144 ∧ (p - t).toNat % 262144 = 0 ∧
          (s.link.queue.any isPresence = true →
            exec word s = .next { u with link := { s.link with presence := some p } }) ∧
          (s.link.queue.any isPresence = false → 64 ≤ s.link.queue.length →
            exec word s = .next
              { u with link := { s.link with
                presence := some p
                counters := { s.link.counters with
                  presenceDropped := bump s.link.counters.presenceDropped 1 } } }) ∧
          (s.link.queue.any isPresence = false → s.link.queue.length < 64 →
            exec word s = .next
              { u with link := { s.link with
                presence := some p
                queue := s.link.queue ++ [one]
                medium :=
                  match s.link.medium with
                  | .idle none _ => .idle (s.link.queue ++ [one]).head? false
                  | m => m } })) ∧
      (∀ k t, Deadline.absence k t ∈ s.deadlines → s.slipPasses v t →
        s.slipPassesOnly v [.absence k t] →
        exec word s = .next
          { u with
            link := { s.link with roster := s.link.roster.set k.toNat RosterEntry.absent }
            port := { u.port with latched := u.latchedWith 0x08#7 } }) ∧
      (∀ e, s.tracker.list.filter (·.expiry = e.expiry) = [e] → s.slipPasses v e.expiry →
        s.slipPassesOnly v [.expiry e.expiry] →
        ∃ t, exec word s = .next t ∧ t.time = u.time ∧
          t.tracker.list = u.tracker.list.filter (·.expiry ≠ e.expiry) ∧
          (t.chans.get e.chan).outcomes.lost = bump (s.chans.get e.chan).outcomes.lost 1))

/-- A beat event adds 1 to the beat counter and to the watch count; the one that brings the watch to 5
while ARRIVING declares the line LOST, counts it and raises TIME. -/
def Obligations.BeatEventCounts : Prop :=
  ∀ s : State, s.due (.beat s.time.nextBeat) →
    ((s.time.line = .lost ∨ s.time.watch < 4) →
      exec (.beatEvent s.time.nextBeat) s = .next
        { s.countedTo s.time.nextBeat with
          time := { s.time with
            nodeTime := s.time.nextBeat, beat := s.time.beat + 1,
            nextBeat := s.time.nextBeat + 65536, watch := min (s.time.watch + 1) 5 } }) ∧
    (s.time.line = .arriving → s.time.watch = 4 →
      exec (.beatEvent s.time.nextBeat) s = .next
        { s.countedTo s.time.nextBeat with
          time := { s.time with
            nodeTime := s.time.nextBeat, beat := s.time.beat + 1,
            nextBeat := s.time.nextBeat + 65536, watch := 5, line := .lost,
            lineLosses := bump s.time.lineLosses 1 }
          port := { s.port with latched := s.latchedWith 0x20#7 } })

/-- A build-start queues a build request, or the map is MISSED when the request queue holds 4. -/
def Obligations.BuildStartQueuesOrMisses : Prop :=
  ∀ (s : State) (c : Chan) (k : PeriodClock), (s.chans.get c).clock = some k →
    s.due (.buildStart ⟨c, k.build⟩) →
    let ch := { s.chans.get c with clock := some { k with build := k.build + 1 } }
    let now := s.countedTo (s.buildTick ⟨c, k.build⟩)
    (s.planner.requests.length < 4 →
      exec (.buildStart c k.build) s = .next
        { now with
          chans := s.chans.set c ch
          planner := { s.planner with requests := s.planner.requests ++ [⟨c, k.build⟩] } }) ∧
    (4 ≤ s.planner.requests.length →
      exec (.buildStart c k.build) s = .next
        { now with
          chans := s.chans.set c { ch with maps := { ch.maps with missed := bump ch.maps.missed 1 } }
          port := { s.port with latched := s.latchedWith 0x10#7 } })

/-- A deliver deadline: nothing when its map is not waiting, BUILDING or SEALING; a waiting request is
MISSED; a BUILDING map is CUT and handed without its unconfirmed turns; so is a SEALING map without
being cut, and it is LATE when the map output queue holds 4. An unconfirmed turn is withdrawn: its pending
entry and local hold go, its waiting TAKE leaves the transmit queue and its bytes leave tentative, one in
transmission is marked withdrawn and its bytes stay, credit returns, and a cadence occurrence is owed
again. An unconfirmed orphan turn goes with its pending entry and local hold, its tag has one orphan fewer
and is FREE at 0, and nothing is given back. (When the sweep resumes is log 10.) -/
def Obligations.DeliverDeadlineByBuildState : Prop :=
  ∀ (s : State) (c : Chan) (k : PeriodClock), (s.chans.get c).clock = some k →
    s.due (.deliver ⟨c, k.deadline⟩) →
    let m : MapName := ⟨c, k.deadline⟩
    let ch := { s.chans.get c with clock := some { k with deadline := k.deadline + 1 } }
    let now := s.countedTo (s.deadlineTick m)
    (m ∉ s.planner.requests → (∀ b, s.planner.building = some b → b.map.name ≠ m) →
      (∀ x ∈ s.planner.sealing, x.name ≠ m) →
      exec (.deliverDeadline c k.deadline) s = .next { now with chans := s.chans.set c ch }) ∧
    (m ∈ s.planner.requests →
      exec (.deliverDeadline c k.deadline) s = .next
        { now with
          chans := s.chans.set c { ch with maps := { ch.maps with missed := bump ch.maps.missed 1 } }
          planner := { s.planner with requests := s.planner.requests.filter (· ≠ m) }
          port := { s.port with latched := s.latchedWith 0x10#7 }
          sweep :=
            if s.sweep.state = .suspended ∧ s.planner.building = none ∧
                s.planner.requests.filter (· ≠ m) = [] then
              { s.sweep with state := .running }
            else s.sweep }) ∧
    (∀ b, m ∉ s.planner.requests → s.planner.building = some b → b.map.name = m →
      s.mapPort.queue.length < 4 →
      ∃ t, exec (.deliverDeadline c k.deadline) s = .next t ∧ t.time = now.time ∧
        t.planner.building = none ∧
        t.mapPort.queue = s.mapPort.queue ++
          [{ b.map with cut := true, entries := b.map.entries.filter (!·.unconfirmed) }] ∧
        (t.chans.get c).maps =
          { ch.maps with cut := bump ch.maps.cut 1, handed := bump ch.maps.handed 1 } ∧
        t.port.latched = s.latchedWith 0x10#7) ∧
    (∀ x, m ∉ s.planner.requests → s.planner.building = none → s.sealingMap m = some x →
      (s.mapPort.queue.length < 4 →
        ∃ t, exec (.deliverDeadline c k.deadline) s = .next t ∧ t.time = now.time ∧
          t.planner.sealing = s.planner.sealing.filter (·.name ≠ m) ∧
          t.mapPort.queue = s.mapPort.queue ++
            [{ x with entries := x.entries.filter (!·.unconfirmed) }] ∧
          (t.chans.get c).maps = { ch.maps with handed := bump ch.maps.handed 1 } ∧
          t.port = s.port) ∧
      (4 ≤ s.mapPort.queue.length → (∀ e ∈ x.entries, e.kind = .join ∨ e.kind = .bid) →
        (∀ e ∈ x.entries, e.hold = false) →
        exec (.deliverDeadline c k.deadline) s = .next
          { now with
            chans := s.chans.set c { ch with maps := { ch.maps with late := bump ch.maps.late 1 } }
            planner := { s.planner with sealing := s.planner.sealing.filter (·.name ≠ m) }
            port := { s.port with latched := s.latchedWith 0x10#7 } }) ∧
      (∀ e f p, s.mapPort.queue.length < 4 → x.entries.filter (·.unconfirmed) = [e] →
        e.orphan = false → s.flow e.tag = some f → f.tag = e.tag → f.deferred = none →
        let turn : TurnKey := ⟨c, k.deadline, e.start⟩
        s.pendingEntry turn = some p → (e.kind = .data ∨ e.kind = .cadence) →
        ∃ t, exec (.deliverDeadline c k.deadline) s = .next t ∧
          t.tracker.list = now.tracker.list.filter (fun q => !q.isTurn turn) ∧
          t.planner.localHolds = s.planner.localHolds.filter (·.turn ≠ turn) ∧
          (e.fate = .queued →
            t.link.queue = s.link.queue.filter (fun q => !(q.turn == some turn)) ∧
            t.link.inTx = s.link.inTx) ∧
          (e.fate = .inTx → t.link.queue = s.link.queue ∧
            t.link.inTx = s.link.inTx.map fun y =>
              if y.own.turn = some turn then { y with withdrawn := true } else y) ∧
          (e.kind = .data →
            t.flow e.tag = some { f with
              pendingCount := f.pendingCount - 1
              credit := if f.rate = 0 then f.credit else min f.ceiling (f.credit + e.bytes)
              tentative := if e.fate = .queued then f.tentative - e.bytes else f.tentative }) ∧
          (∀ cad, e.kind = .cadence → f.cadence = some cad →
            t.flow e.tag = some { f with
              pendingCount := f.pendingCount - 1
              cadence := some { cad with
                nextDue := cad.nextDue - BitVec.ofNat 32 cad.interval } } ∧
            (t.chans.get c).cadence = (s.chans.get c).cadence)) ∧
      (∀ e p n, s.mapPort.queue.length < 4 → x.entries.filter (·.unconfirmed) = [e] →
        e.orphan = true → (e.kind = .data ∨ e.kind = .cadence) →
        let turn : TurnKey := ⟨c, k.deadline, e.start⟩
        s.pendingEntry turn = some p → s.tagState e.tag = some (.draining n) →
        tabWf s.store.tagMap = true →
        ∃ t, exec (.deliverDeadline c k.deadline) s = .next t ∧
          t.tracker.list = now.tracker.list.filter (fun q => !q.isTurn turn) ∧
          t.planner.localHolds = s.planner.localHolds.filter (·.turn ≠ turn) ∧
          t.tagState e.tag = (if n ≤ 1 then none else some (.draining (n - 1))) ∧
          t.store.flows = s.store.flows ∧ t.store.modems = s.store.modems ∧
          (t.chans.get c).bids = (s.chans.get c).bids ∧
          (t.chans.get c).cadence = (s.chans.get c).cadence ∧ t.sweep = s.sweep ∧
          t.link.counters = s.link.counters ∧
          t.link.queue = if e.fate = .queued then
              s.link.queue.filter (fun q => !(q.turn == some turn))
            else s.link.queue))

/-- A period-start ends the life of a DELIVERED map; a map still in the map output queue leaves it as
LATE, and its turns are withdrawn: their pending entries and local holds go and their credit returns.
The bytes of a data turn return to outstanding when no TAKE was queued and with a GIVE to the peers when
its TAKE stands, or, of a DORMANT flow, count as idle bytes discarded; they leave tentative with a waiting
TAKE. A cadence occurrence is missed. An orphan turn goes with its pending entry and local hold, its tag has
one orphan fewer and is FREE at 0, and nothing is given back or missed. (Periods skipped before it are log 30; where the excess of a GIVE's
bytes counts is log 21.) -/
def Obligations.PeriodStartEndsOrDiscards : Prop :=
  ∀ (s : State) (c : Chan) (k : PeriodClock), (s.chans.get c).clock = some k → k.skips = [] →
    s.due (.start ⟨c, k.start⟩) →
    let m : MapName := ⟨c, k.start⟩
    let ch := { s.chans.get c with clock := some { k with start := k.start + 1 } }
    let now := s.countedTo (s.startTick m)
    ((∀ x ∈ s.mapPort.queue, x.name ≠ m) →
      exec (.periodStart c k.start) s = .next
        { now with
          chans := s.chans.set c ch
          mapPort := { s.mapPort with delivered := s.mapPort.delivered.filter (·.name ≠ m) } }) ∧
    (∀ x, s.mapPort.queue.find? (·.name == m) = some x →
      (∃ t, exec (.periodStart c k.start) s = .next t ∧ t.time = now.time ∧
        t.mapPort = { s.mapPort with queue := s.mapPort.queue.filter (·.name ≠ m) } ∧
        (t.chans.get c).maps = { ch.maps with late := bump ch.maps.late 1 } ∧
        t.port = { s.port with latched := s.latchedWith 0x10#7 }) ∧
      ((∀ e ∈ x.entries, e.kind = .join ∨ e.kind = .bid) →
        exec (.periodStart c k.start) s = .next
          { now with
            chans := s.chans.set c { ch with maps := { ch.maps with late := bump ch.maps.late 1 } }
            mapPort := { s.mapPort with queue := s.mapPort.queue.filter (·.name ≠ m) }
            port := { s.port with latched := s.latchedWith 0x10#7 } }) ∧
      (∀ e f p, x.entries = [e] → e.orphan = false → s.flow e.tag = some f → f.tag = e.tag →
        let turn : TurnKey := ⟨c, k.start, e.start⟩
        s.pendingEntry turn = some p →
        (∀ cad, e.kind = .cadence → f.cadence = some cad →
          ∃ t, exec (.periodStart c k.start) s = .next t ∧
            t.tracker.list = now.tracker.list.filter (fun q => !q.isTurn turn) ∧
            t.planner.localHolds = s.planner.localHolds.filter (·.turn ≠ turn) ∧
            t.flow e.tag = some { f with pendingCount := f.pendingCount - 1 } ∧
            (t.chans.get c).cadence = { (s.chans.get c).cadence with
              missed := bump (s.chans.get c).cadence.missed 1 }) ∧
        (e.kind = .data → f.cadence = none → f.deferred = none → f.state ≠ .sleep →
          let back := { f with
            pendingCount := f.pendingCount - 1
            credit := if f.rate = 0 then f.credit else min f.ceiling (f.credit + e.bytes) }
          let more := { back with outstanding := min (f.outstanding + e.bytes) 1048575 }
          ∃ t, exec (.periodStart c k.start) s = .next t ∧
            t.tracker.list = now.tracker.list.filter (fun q => !q.isTurn turn) ∧
            t.planner.localHolds = s.planner.localHolds.filter (·.turn ≠ turn) ∧
            (e.fate = .noTake → f.state = .active →
              t.flow e.tag = some more ∧ t.link = s.link ∧
              (t.chans.get c).bids.bytesLost =
                bump (s.chans.get c).bids.bytesLost (f.outstanding + e.bytes - 1048575)) ∧
            (e.fate = .noTake → f.state = .dormant →
              t.flow e.tag = some back ∧ t.link = s.link ∧
              t.sweep = { s.sweep with idleBytes := bump s.sweep.idleBytes e.bytes }) ∧
            (e.fate = .queued →
              t.flow e.tag = some { back with tentative := f.tentative - e.bytes } ∧
              t.link.queue = s.link.queue.filter (fun q => !(q.turn == some turn))) ∧
            (e.fate = .inTx →
              t.flow e.tag = some back ∧ t.link.queue = s.link.queue ∧
              t.link.inTx = s.link.inTx.map fun y =>
                if y.own.turn = some turn then { y with withdrawn := true } else y) ∧
            (e.fate = .standing → s.link.queue.length < 64 →
              t.link.queue =
                insertNotice ⟨.give e.tag (BitVec.ofNat 16 e.bytes), none⟩ s.link.queue ∧
              t.flow e.tag = some (if f.state = .dormant then back else more) ∧
              t.sweep = if f.state = .dormant then
                  { s.sweep with idleBytes := bump s.sweep.idleBytes e.bytes }
                else s.sweep) ∧
            (e.fate = .standing → 64 ≤ s.link.queue.length → f.state = .active →
              t.link.queue = s.link.queue ∧ t.flow e.tag = some more ∧
              t.link.counters.giveDropped = bump s.link.counters.giveDropped 1))) ∧
      (∀ e p n, x.entries = [e] → e.orphan = true → (e.kind = .data ∨ e.kind = .cadence) →
        let turn : TurnKey := ⟨c, k.start, e.start⟩
        s.pendingEntry turn = some p → s.tagState e.tag = some (.draining n) →
        tabWf s.store.tagMap = true →
        ∃ t, exec (.periodStart c k.start) s = .next t ∧
          t.tracker.list = now.tracker.list.filter (fun q => !q.isTurn turn) ∧
          t.planner.localHolds = s.planner.localHolds.filter (·.turn ≠ turn) ∧
          t.tagState e.tag = (if n ≤ 1 then none else some (.draining (n - 1))) ∧
          t.store.flows = s.store.flows ∧ t.store.modems = s.store.modems ∧
          (t.chans.get c).bids = (s.chans.get c).bids ∧
          (t.chans.get c).cadence = (s.chans.get c).cadence ∧ t.sweep = s.sweep ∧
          t.link.counters = s.link.counters ∧
          t.link.queue = if e.fate = .queued then
              s.link.queue.filter (fun q => !(q.turn == some turn))
            else s.link.queue))

/-- LISTEN ends in SERVING with START raised; a hold end removes the holds that end at its tick; an
absence tick makes its roster entry ABSENT and raises PEER. -/
def Obligations.ListenHoldAndAbsenceEnds : Prop :=
  (∀ (s : State) (t : Tick), s.due (.listenEnd t) →
    exec (.listenEnd t) s = .next
      { s.countedTo t with
        life := .serving
        listenEnd := none
        port := { s.port with latched := s.latchedWith 0x40#7 } }) ∧
  (∀ (s : State) (t : Tick), s.due (.localEnd t) →
    exec (.localHoldEnd t) s = .next
      { s.countedTo t with
        planner := { s.planner with localHolds := s.planner.localHolds.filter (·.stop ≠ t) } }) ∧
  (∀ (s : State) (t : Tick), s.due (.sharedEnd t) →
    exec (.sharedHoldEnd t) s = .next
      { s.countedTo t with
        link := { s.link with holds := s.link.holds.filter (·.stop ≠ t) } }) ∧
  (∀ (s : State) (k : StationNo) (t : Tick), s.due (.absence k t) →
    exec (.absenceTick k t) s = .next
      { s.countedTo t with
        link := { s.link with roster := s.link.roster.set k.toNat RosterEntry.absent }
        port := { s.port with latched := s.latchedWith 0x08#7 } })

/-- The presence timer moves on by 262,144 ticks and queues one PRESENCE with the life state: none when
one already waits, and a counted drop when the queue holds 64. -/
def Obligations.PresenceTimerQueuesOne : Prop :=
  ∀ (s : State) (t : Tick), s.due (.presence t) →
    let now := s.countedTo t
    let one : Queued := ⟨.presence (s.life == .serving), none⟩
    (s.link.queue.any isPresence = true →
      exec (.presenceTimer t) s = .next
        { now with link := { s.link with presence := some (t + 262144) } }) ∧
    (s.link.queue.any isPresence = false → 64 ≤ s.link.queue.length →
      exec (.presenceTimer t) s = .next
        { now with
          link := { s.link with
            presence := some (t + 262144)
            counters := { s.link.counters with
              presenceDropped := bump s.link.counters.presenceDropped 1 } } }) ∧
    (s.link.queue.any isPresence = false → s.link.queue.length < 64 →
      exec (.presenceTimer t) s = .next
        { now with
          link := { s.link with
            presence := some (t + 262144)
            queue := s.link.queue ++ [one]
            medium :=
              match s.link.medium with
              | .idle none _ => .idle (s.link.queue ++ [one]).head? false
              | m => m } })

/-- A pending entry that expires is consumed as LOST: the pending count falls, a deferred bid is applied
at 0, the trail gains a LOST outcome and nothing is scored; an orphan lowers its tag's orphan count. -/
def Obligations.PendingExpiryIsLost : Prop :=
  ∀ (s : State) (t : Tick) (e : PendingEntry), s.due (.expiry t) →
    s.tracker.list.filter (·.expiry = t) = [e] →
    let left := (s.countedTo t).tracker.list.filter (·.expiry ≠ t)
    (∀ f m, e.orphan = false → s.flow e.tag = some f → f.deferred = none →
      s.modemAt e.modemIx = some m → m.key = e.modemKey →
      ∃ u, exec (.pendingExpiry t) s = .next u ∧ u.tracker.list = left ∧
        u.flow e.tag = some { f with pendingCount := f.pendingCount - 1 } ∧
        (u.chans.get e.chan).outcomes.lost = bump (s.chans.get e.chan).outcomes.lost 1 ∧
        u.modemAt e.modemIx = some { m with
          trail := (if 4 ≤ m.trail.length then m.trail.drop 1 else m.trail) ++
            [⟨.lost, e.tag, e.chan, 0⟩] } ∧
        u.health = { s.health with lost := bump s.health.lost 1 }) ∧
    (∀ f b c, e.orphan = false → s.flow e.tag = some f → f.pendingCount = 1 →
      f.deferred = some (b, c) →
      ∃ u, exec (.pendingExpiry t) s = .next u ∧ u.tracker.list = left ∧
        u.flow e.tag = some { f with
          pendingCount := 0, deferred := none, outstanding := min (f.outstanding + b) 1048575 } ∧
        (u.chans.get c).bids.applied = bump (s.chans.get c).bids.applied 1) ∧
    (∀ n, e.orphan = true → s.tagState e.tag = some (.draining n) → tabWf s.store.tagMap = true →
      ∃ u, exec (.pendingExpiry t) s = .next u ∧ u.tracker.list = left ∧
        u.tagState e.tag = if n ≤ 1 then none else some (.draining (n - 1)))

/-! ### Records of the Burst Report Port -/

/-- In START every burst record is discarded and counted; a record of an unknown kind, or one that ends
early, is so in every life state. A bid of a channel that is not enabled, with tag 0 or with 0 bytes
counts as malformed, and one for a tag that names no flow here as foreign; neither does anything else. -/
def Obligations.BurstRecordsRefused : Prop :=
  ((∀ s : State, s.life = .start →
      let dropped := { s with port := { s.port with burstDiscards := bump s.port.burstDiscards 1 } }
      (∀ r, exec (.bidRecord r) s = .next dropped) ∧
      (∀ r, exec (.outcomeReport r) s = .next dropped) ∧
      (∀ r, exec (.windowTally r) s = .next dropped) ∧
      (∀ r, exec (.arrivalRecord r) s = .next dropped)) ∧
    (∀ (s : State) (kind : Byte) (early : Bool),
      early = true ∨ (kind ≠ 1 ∧ kind ≠ 2 ∧ kind ≠ 3 ∧ kind ≠ 4) →
      exec (.burstRecordDiscard kind early) s = .next
        { s with port := { s.port with burstDiscards := bump s.port.burstDiscards 1 } })) ∧
  (∀ (s : State) (r : BidRecord), s.life ≠ .start →
      let ch := s.chans.get r.chan
      ((s.enabled r.chan = false ∨ r.tag = 0 ∨ r.bytes = 0) →
        exec (.bidRecord r) s = .next { s with chans := s.chans.set r.chan { ch with
          bids := { ch.bids with
            taken := bump ch.bids.taken 1, malformed := bump ch.bids.malformed 1 } } }) ∧
      (s.enabled r.chan = true → r.tag ≠ 0 → r.bytes ≠ 0 → s.flow r.tag = none →
        exec (.bidRecord r) s = .next { s with chans := s.chans.set r.chan { ch with
          bids := { ch.bids with
            taken := bump ch.bids.taken 1, foreign := bump ch.bids.foreign 1 } } }))

/-- A bid of an idle flow, one with nothing pending and nothing unclaimed, is applied: its bytes are added to
outstanding, held at 1,048,575 with the excess counted; the flow joins the tail of its ready list when it
then has unclaimed bytes; for a spanning-active flow a BID notice with the bytes is queued too. -/
def Obligations.IdleBidApplied : Prop :=
  ∀ (s : State) (r : BidRecord) (ix : Nat) (f : Flow), s.life ≠ .start →
    s.enabled r.chan = true → r.tag ≠ 0 → r.bytes ≠ 0 → s.flowIx r.tag = some ix →
    tabGet s.store.flows ix = some f → f.tag = r.tag → f.cadence = none → f.state = .active →
    f.pendingCount = 0 → f.outstanding ≤ f.tentative → s.isReady f = false →
    let ch := s.chans.get r.chan
    let sum := f.outstanding + r.bytes.toNat
    let g := { f with lastActivity := s.time.beat, outstanding := min sum 1048575 }
    let k := { ch.bids with taken := bump ch.bids.taken 1, applied := bump ch.bids.applied 1 }
    let t : State :=
      { s with
        store := { s.store with flows := tabPut s.store.flows ix g }
        planner := { s.planner with
          ready :=
            if f.tentative < min sum 1048575 then
              s.planner.ready.set f.cls (s.planner.ready.get f.cls ++ [r.tag])
            else s.planner.ready }
        chans := s.chans.set r.chan { ch with
          bids := { k with bytesLost := bump k.bytesLost (sum - 1048575) } } }
    let queue := insertNotice ⟨.bid r.tag r.bytes, none⟩ s.link.queue
    (s.spanningActive f = false → exec (.bidRecord r) s = .next t) ∧
    (s.spanningActive f = true → s.link.queue.length < 64 →
      exec (.bidRecord r) s = .next { t with link := { s.link with
        queue := queue
        medium :=
          match s.link.medium with
          | .idle none _ => .idle queue.head? false
          | m => m } }) ∧
    (s.spanningActive f = true → 64 ≤ s.link.queue.length →
      exec (.bidRecord r) s = .next { t with chans := s.chans.set r.chan { ch with
        bids := { k with
          bytesLost := bump k.bytesLost (sum - 1048575)
          noticesDropped := bump k.noticesDropped 1 } } })

/-- A bid of a busy flow: dropped and counted under the DISCARD policy, and kept as the deferred bid
under HOLD, replacing one that was kept before. -/
def Obligations.BusyBidHeldOrDiscarded : Prop :=
  ∀ (s : State) (r : BidRecord) (ix : Nat) (f : Flow), s.life ≠ .start →
    s.enabled r.chan = true → r.tag ≠ 0 → r.bytes ≠ 0 → s.flowIx r.tag = some ix →
    tabGet s.store.flows ix = some f → f.tag = r.tag → f.cadence = none → f.state = .active →
    (0 < f.pendingCount ∨ f.tentative < f.outstanding) →
    let ch := s.chans.get r.chan
    (f.discard = true →
      exec (.bidRecord r) s = .next { s with chans := s.chans.set r.chan { ch with
        bids := { ch.bids with
          taken := bump ch.bids.taken 1, policyDiscards := bump ch.bids.policyDiscards 1 } } }) ∧
    (f.discard = false → f.eligible = s.isReady f →
      let g := { f with deferred := some (r.bytes.toNat, r.chan), lastActivity := s.time.beat }
      exec (.bidRecord r) s = .next
        { s with
          store := { s.store with flows := tabPut s.store.flows ix g }
          chans := s.chans.set r.chan { ch with
            bids := { ch.bids with
              taken := bump ch.bids.taken 1
              deferred := bump ch.bids.deferred 1
              replaced :=
                if f.deferred.isSome then bump ch.bids.replaced 1 else ch.bids.replaced } } })

/-- R66: a bid for an ACTIVE cadence flow only counts. -/
def Obligations.ActiveCadenceIgnoresBids : Prop :=
  ∀ (s : State) (r : BidRecord) (f : Flow), s.life ≠ .start → s.enabled r.chan = true →
    r.tag ≠ 0 → r.bytes ≠ 0 → s.flow r.tag = some f → f.cadence.isSome = true →
    f.state = .active →
    let ch := s.chans.get r.chan
    exec (.bidRecord r) s = .next { s with chans := s.chans.set r.chan { ch with
      bids := { ch.bids with
        taken := bump ch.bids.taken 1, cadenceIgnored := bump ch.bids.cadenceIgnored 1 } } }

/-- A bid wakes a sleeping cadence flow at the period its channel builds next; a bid of a DORMANT flow is
dropped and offered to the host, with ATTENTION raised when the attention queue takes it. (That a tag
already queued counts as a duplicate at a full queue too is log 42.) -/
def Obligations.BidWakesOrIsOffered : Prop :=
  ∀ (s : State) (r : BidRecord) (ix : Nat) (f : Flow), s.life ≠ .start →
    s.enabled r.chan = true → r.tag ≠ 0 → r.bytes ≠ 0 → s.flowIx r.tag = some ix →
    tabGet s.store.flows ix = some f → f.tag = r.tag →
    let ch := s.chans.get r.chan
    (∀ cad k, f.cadence = some cad → f.state = .sleep → s.isReady f = false →
      (s.chans.get cad.chan).clock = some k →
      let g : Flow := { f with
        state := .active
        lastActivity := s.time.beat
        cadence := some { cad with nextDue := k.build, empties := 0 } }
      exec (.bidRecord r) s = .next
        { s with
          store := { s.store with flows := tabPut s.store.flows ix g }
          chans := s.chans.set r.chan { ch with
            bids := { ch.bids with
              taken := bump ch.bids.taken 1, cadenceWakes := bump ch.bids.cadenceWakes 1 } } }) ∧
    (f.cadence = none → f.state = .dormant →
      let u := { s with chans := s.chans.set r.chan { ch with
        bids := { ch.bids with
          taken := bump ch.bids.taken 1, dormant := bump ch.bids.dormant 1 } } }
      (s.port.attention.any (·.tag == r.tag) = true →
        exec (.bidRecord r) s = .next { u with port := { s.port with
          attDuplicates := bump s.port.attDuplicates 1 } }) ∧
      (s.port.attention.any (·.tag == r.tag) = false → 64 ≤ s.port.attention.length →
        exec (.bidRecord r) s = .next { u with port := { s.port with
          attDropped := bump s.port.attDropped 1 } }) ∧
      (s.port.attention.any (·.tag == r.tag) = false → s.port.attention.length < 64 →
        exec (.bidRecord r) s = .next { u with port := { s.port with
          attention := s.port.attention ++ [⟨r.tag, .dormantBid⟩]
          latched := s.latchedWith 0x01#7 } }))

/-- An outcome report with the fourth result value, of a channel that is not enabled or of a slot past the
period counts as malformed; one that finds no pending entry is a stray, and its tail bid is dropped; one
that comes before node time has passed the end of its turn is early and leaves the entry. -/
def Obligations.ReportMalformedStrayOrEarly : Prop :=
  ∀ (s : State) (r : OutcomeReport), s.life ≠ .start →
    let ch := s.chans.get r.chan
    let k := { ch.outcomes with taken := bump ch.outcomes.taken 1 }
    ((r.result = 3 ∨ s.enabled r.chan = false ∨
        (s.part r.chan).periodSlots.toNat ≤ r.slot.toNat) →
      exec (.outcomeReport r) s = .next { s with chans := s.chans.set r.chan { ch with
        outcomes := { k with malformed := bump k.malformed 1 } } }) ∧
    (r.result ≠ 3 → s.enabled r.chan = true →
      r.slot.toNat < (s.part r.chan).periodSlots.toNat →
      (∀ e ∈ s.tracker.list,
        ¬ (e.chan = r.chan ∧ e.period = r.period ∧ e.slot = r.slot.toNat)) →
      exec (.outcomeReport r) s = .next { s with chans := s.chans.set r.chan { ch with
        outcomes := { k with strays := bump k.strays 1 }
        bids :=
          if r.result = 0 ∧ r.tailPresent = true ∧ r.tail ≠ 0 then
            { ch.bids with tailDropped := bump ch.bids.tailDropped 1 }
          else ch.bids } }) ∧
    (∀ e, r.result ≠ 3 → s.enabled r.chan = true →
      r.slot.toNat < (s.part r.chan).periodSlots.toNat →
      s.tracker.list.find? (·.hasKey r) = some e → e.ended = false →
      exec (.outcomeReport r) s = .next { s with chans := s.chans.set r.chan { ch with
        outcomes := { k with early := bump k.early 1 } } })

/-- A report that finds its entry after node time has passed the end of its turn consumes it: the entry
leaves the pending list and the channel counts the result and its bytes. The outcome is taken by the
modem the entry names, as `takeOutcome` says, and by none when that record is free or carries another
key. The flow's pending count falls and its marks move; a deferred bid is applied at pending count 0,
and a RECEIVED tail bid is added. A tail bid of a DORMANT flow is dropped and offered to the host. A
cadence flow counts its empty turns and falls asleep at its idle limit, and an orphan lowers its tag's
orphan count; a tail bid is dropped there. (Overruns of any result count: log 22. That an end tick
passed before a backward slip counts as passed is the model's choice: log 41.) -/
def Obligations.ReportConsumesItsEntry : Prop :=
  ∀ (s : State) (r : OutcomeReport) (e : PendingEntry) (res : TurnResult),
    s.life ≠ .start → s.enabled r.chan = true →
    r.slot.toNat < (s.part r.chan).periodSlots.toNat →
    s.tracker.list.find? (·.hasKey r) = some e → e.ended = true →
    (r.result = 0 ∧ res = .received ∨ r.result = 1 ∧ res = .empty ∨
      r.result = 2 ∧ res = .errored) →
    let k := (s.chans.get r.chan).outcomes
    let bids := (s.chans.get r.chan).bids
    let got := if res = .received then min r.used.toNat e.bytes else 0
    let tail :=
      if res = .received ∧ r.tailPresent = true ∧ r.tail ≠ 0 then r.tail.toNat else 0
    let taken := s.takeOutcome e.modemIx e.modemKey
      ⟨res, e.cadence, e.tag, e.chan, r.margin, r.corrected.toNat⟩
    ∃ t, exec (.outcomeReport r) s = .next t ∧ t.tracker.list = s.tracker.list.erase e ∧
      t.store.modems = taken.store.modems ∧ t.health = taken.health ∧
      ((tail = 0 ∨ e.orphan = true ∨
          ∀ f, s.flow e.tag = some f → f.cadence ≠ none ∨ f.state ≠ .dormant) →
        t.port = taken.port) ∧
      ((∀ m, s.modemAt e.modemIx = some m → m.key ≠ e.modemKey) →
        t.store.modems = s.store.modems ∧ t.health = s.health) ∧
      (t.chans.get r.chan).outcomes =
        { k with
          taken := bump k.taken 1
          received := if res = .received then bump k.received 1 else k.received
          empty := if res = .empty then bump k.empty 1 else k.empty
          errored := if res = .errored then bump k.errored 1 else k.errored
          bytesReceived := bump k.bytesReceived got
          bytesUnused := bump k.bytesUnused (e.bytes - got)
          overruns := if e.bytes < r.used.toNat then bump k.overruns 1 else k.overruns
          corrected := bump k.corrected r.corrected.toNat
          uncorrectable := bump k.uncorrectable r.uncorrectable.toNat } ∧
      (∀ f, e.orphan = false → s.flow e.tag = some f → f.tag = e.tag → f.cadence = none →
        let g := { f with
          pendingCount := f.pendingCount - 1
          lastService := s.time.beat
          lastActivity := if res = .received then s.time.beat else f.lastActivity }
        (f.deferred = none → f.state = .active →
          t.flow e.tag = some { g with
            outstanding := if tail = 0 then f.outstanding else min (f.outstanding + tail) 1048575 } ∧
          (t.chans.get r.chan).bids.tailApplied =
            if tail = 0 then bids.tailApplied else bump bids.tailApplied 1) ∧
        (∀ b c, f.deferred = some (b, c) → f.pendingCount = 1 → tail = 0 →
          t.flow e.tag = some { g with
            deferred := none, outstanding := min (f.outstanding + b) 1048575 } ∧
          (t.chans.get c).bids.applied = bump (s.chans.get c).bids.applied 1) ∧
        (∀ b c, f.deferred = some (b, c) → f.pendingCount ≠ 1 → f.pendingCount ≠ 0 → tail = 0 →
          t.flow e.tag = some g) ∧
        (f.deferred = none → f.state = .dormant → tail ≠ 0 →
          t.flow e.tag = some g ∧
          (t.chans.get r.chan).bids.tailDropped = bump bids.tailDropped 1 ∧
          (t.chans.get r.chan).bids.dormant = bump bids.dormant 1 ∧
          ((∀ a ∈ s.port.attention, a.tag ≠ e.tag) → s.port.attention.length < 64 →
            t.port.attention = s.port.attention ++ [⟨e.tag, .dormantBid⟩] ∧
            t.port.latched = taken.port.latched ||| (0x01#7 &&& s.port.mask)))) ∧
      (∀ f cad, e.orphan = false → s.flow e.tag = some f → f.tag = e.tag → f.cadence = some cad →
        let empties :=
          match res with
          | .received => 0
          | .empty => min (cad.empties + 1) cad.idleLimit
          | _ => cad.empties
        let sleeps : Prop :=
          res = .empty ∧ cad.idleLimit ≠ 0 ∧ empties = cad.idleLimit ∧ f.state = .active
        let g := { f with
          pendingCount := f.pendingCount - 1
          lastService := s.time.beat
          lastActivity := if res = .received then s.time.beat else f.lastActivity
          cadence := some { cad with empties := empties } }
        (sleeps → t.flow e.tag = some { g with state := .sleep } ∧
          (t.chans.get cad.chan).cadence.sleeps = bump (s.chans.get cad.chan).cadence.sleeps 1) ∧
        (¬ sleeps → t.flow e.tag = some g ∧
          (t.chans.get cad.chan).cadence = (s.chans.get cad.chan).cadence) ∧
        (tail ≠ 0 → (t.chans.get r.chan).bids = { bids with
          tailDropped := bump bids.tailDropped 1
          cadenceIgnored := bump bids.cadenceIgnored 1 })) ∧
      (∀ n, e.orphan = true → s.tagState e.tag = some (.draining n) → tabWf s.store.tagMap = true →
        t.tagState e.tag = (if n ≤ 1 then none else some (.draining (n - 1))) ∧
        t.store.flows = s.store.flows ∧
        (t.chans.get r.chan).bids =
          if tail = 0 then bids else { bids with tailDropped := bump bids.tailDropped 1 })

/-- The outcome that a report hands on (`ReportConsumesItsEntry`) scores the modem: the table of scores
and the trail. An ACTIVE modem becomes DEGRADED exactly when a score is then at or below its threshold,
with a DEGRADE record and FAULT; a DEGRADED one becomes ACTIVE exactly when every score is at or above
its recovery level, with a RESTORE record and FAULT. -/
def Obligations.OutcomeScoresTheModem : Prop :=
  ∀ (s : State) (i : Nat) (m : Modem) (o : TurnOutcome), s.modemAt i = some m →
    s.modemIx m.key = some i → o.result ≠ .lost →
    let p := match o.result with
      | .empty => if o.cadence then m.presence else m.presence - 12
      | _ => min (m.presence + 1) 200
    let g := match o.result with
      | .received =>
        if o.corrected = 0 then min (m.integrity + 1) 200 else m.integrity - 2
      | .errored => m.integrity - 16
      | _ => m.integrity
    let q := match o.result with
      | .received =>
        if o.margin.toNat < s.inForce.floor.toNat then m.margin - 4 else min (m.margin + 1) 200
      | .errored =>
        if o.margin.toNat < s.inForce.floor.toNat then m.margin - 4 else m.margin
      | _ => m.margin
    let m' := { m with
      presence := p, integrity := g, margin := q
      trail := (if 4 ≤ m.trail.length then m.trail.drop 1 else m.trail) ++
        [⟨o.result, o.tag, o.chan, o.margin⟩] }
    let t := s.takeOutcome i m.key o
    let recordOf (kind : FaultKind) : FaultRecord :=
      { seq := s.health.seq, kind := kind, key := m.key, tag := o.tag, time := s.time.nodeTime,
        found := true, presence := p, integrity := g, margin := q, trail := m'.trail,
        lifetime := min (m.lifetime + 1) 65535 }
    let level (threshold : BitVec 8) : Nat :=
      min 200 (threshold.toNat + s.inForce.recover.toNat)
    let low : Prop := p ≤ s.inForce.t1.toNat ∨ g ≤ s.inForce.t2.toNat ∨ q ≤ s.inForce.t3.toNat
    let well : Prop := level s.inForce.t1 ≤ p ∧ level s.inForce.t2 ≤ g ∧ level s.inForce.t3 ≤ q
    ((m.state = .active ∧ ¬ low ∨ m.state = .degraded ∧ ¬ well) →
      t.modemAt i = some m' ∧
      t.health = { s.health with scored := bump s.health.scored 1 } ∧ t.port = s.port) ∧
    (m.state = .active → low →
      t.modemAt i =
        some { m' with state := .degraded, lifetime := min (m.lifetime + 1) 65535 } ∧
      t.health.ring.getLast? = some (recordOf .degrade) ∧
      t.health.degrades = bump s.health.degrades 1 ∧
      t.port = { s.port with latched := s.latchedWith 0x04#7 }) ∧
    (m.state = .degraded → well →
      t.modemAt i = some { m' with state := .active, lifetime := min (m.lifetime + 1) 65535 } ∧
      t.health.ring.getLast? = some (recordOf .restore) ∧
      t.health.restores = bump s.health.restores 1 ∧
      t.port = { s.port with latched := s.latchedWith 0x04#7 })

/-- A window tally is refused when its sums or its channel are bad; a JOIN tally only counts; a BID tally
moves W by the tests of R93 and counts growth and shrinkage. An arrival joins the arrival queue with
node time and raises ARRIVAL, or is dropped at 32 entries, or counts as bad on a channel that is not
enabled. -/
def Obligations.TalliesAndArrivals : Prop :=
  (∀ (s : State) (r : WindowTally), s.life ≠ .start →
      let ch := s.chans.get r.chan
      let k := ch.outcomes
      let p := s.part r.chan
      ((s.enabled r.chan = false ∨ 256 < r.length.toNat ∨
          r.length.toNat < r.singles.toNat + r.collisions.toNat + r.empties.toNat) →
        exec (.windowTally r) s = .next { s with chans := s.chans.set r.chan { ch with
          outcomes := { k with badTallies := bump k.badTallies 1 } } }) ∧
      (s.enabled r.chan = true → r.length.toNat ≤ 256 →
        r.singles.toNat + r.collisions.toNat + r.empties.toNat ≤ r.length.toNat →
        (r.join = true →
          exec (.windowTally r) s = .next { s with chans := s.chans.set r.chan { ch with
            outcomes := { k with
              joinTallies := bump k.joinTallies 1
              joinSingles := bump k.joinSingles r.singles.toNat
              joinCollisions := bump k.joinCollisions r.collisions.toNat } } }) ∧
        (∀ w, r.join = false → ch.w = some w →
          let w' :=
            if r.length = 0 then w
            else if r.length.toNat < 4 * r.collisions.toNat then min p.wMax.toNat (w + (w + 3) / 4)
            else if r.length.toNat < 2 * r.empties.toNat then max p.wMin.toNat (w - max 1 (w / 8))
            else w
          exec (.windowTally r) s = .next { s with chans := s.chans.set r.chan { ch with
            w := some w'
            outcomes := { k with
              bidTallies := bump k.bidTallies 1
              grown := if w < w' then bump k.grown 1 else k.grown
              shrunk := if w' < w then bump k.shrunk 1 else k.shrunk } } }))) ∧
  (∀ (s : State) (r : ArrivalRecord), s.life ≠ .start →
      let ch := s.chans.get r.chan
      (s.enabled r.chan = false →
        exec (.arrivalRecord r) s = .next { s with chans := s.chans.set r.chan { ch with
          outcomes := { ch.outcomes with badArrivals := bump ch.outcomes.badArrivals 1 } } }) ∧
      (s.enabled r.chan = true → s.port.arrivals.length < 32 →
        exec (.arrivalRecord r) s = .next { s with port := { s.port with
          arrivals := s.port.arrivals ++ [⟨r.chan, r.identity, r.margin, s.time.nodeTime⟩]
          latched := s.latchedWith 0x02#7 } }) ∧
      (s.enabled r.chan = true → 32 ≤ s.port.arrivals.length →
        exec (.arrivalRecord r) s = .next { s with tracker := { s.tracker with
          arrivalsDropped := bump s.tracker.arrivalsDropped 1 } }))

/-! ### The planner and the framer -/

/-- The free planner takes the head request: its map becomes BUILDING with nothing placed and with the
channel's W, and a RUNNING sweep with no step in flight is SUSPENDED. A cadence flow later than its jitter
limit loses the occurrences that are too late: its next-due moves on, they are counted, and one CADENCE_DROP
record is appended. While a map is BUILDING the command goes on placing, step by step, and other commands
may come between the steps; a free planner with no request does nothing. (How far one command places is
its operand, log 9.) A build with no flow to serve places its windows: the join window at slot 0 when the
period carries one, and the bid window behind it with W slots. On a map that holds turns the join window
takes the earliest run that is long enough, or is skipped and counted; the bid window takes the earliest
run of W slots, else the earliest of the longest runs, clipped, or is absent, each counted. -/
def Obligations.PlannerBuildsTheHeadRequest : Prop :=
  (∀ (s : State) (m : MapName) (rest : List MapName) (w : Nat), s.planner.building = none →
      s.planner.requests = m :: rest → (s.chans.get m.chan).w = some w →
      let sweep :=
        if s.sweep.state = .running ∧ s.sweep.step = none then
          { s.sweep with state := .suspended }
        else s.sweep
      (s.dueFlows m = [] →
        exec (.plannerTakesRequest (some 0)) s = .next
          { s with
            planner := { s.planner with
              requests := rest
              building := some ⟨⟨m, [], false⟩, w, .cadence [], false⟩ }
            sweep := sweep }) ∧
      (∀ f cad, s.dueFlows m = [f] → s.flow f.tag = some f → f.cadence = some cad →
        cad.jitter < (m.period - cad.nextDue).toNat →
        let gone := ((m.period - cad.nextDue).toNat - cad.jitter + cad.interval - 1) / cad.interval
        let k := (s.chans.get m.chan).cadence
        0 < gone →
        ∃ t r, exec (.plannerTakesRequest (some 0)) s = .next t ∧ t.sweep = sweep ∧
          t.flow f.tag = some { f with cadence := some { cad with
            nextDue := cad.nextDue + BitVec.ofNat 32 (gone * cad.interval) } } ∧
          (t.chans.get m.chan).cadence = { k with dropped := bump k.dropped gone } ∧
          t.health.ring.getLast? = some r ∧ r.kind = .cadenceDrop ∧ r.key = f.modemKey ∧
          r.tag = f.tag ∧ r.seq = s.health.seq)) ∧
  (∀ (s : State) (b : Build), s.planner.building = some b →
      exec (.plannerTakesRequest (some 0)) s = .next s ∧
      ∀ i j, ∃ t c, exec (.plannerTakesRequest (some i)) s = .next t ∧
        t.planner.building = some c ∧
        exec (.plannerTakesRequest (some (i + j))) s = exec (.plannerTakesRequest (some j)) t) ∧
  (∀ (s : State) upTo, s.planner.building = none → s.planner.requests = [] →
      exec (.plannerTakesRequest upTo) s = .next s) ∧
  (∀ (s : State) (m : MapName) (rest : List MapName) (w : Nat), s.planner.building = none →
      s.planner.requests = m :: rest → s.store.flows = [] → s.planner.ready = Quad.all [] →
      (s.chans.get m.chan).w = some w → 0 < w →
      let p := s.part m.chan
      let join : Prop := 0 < p.joinSlots.toNat ∧ m.period.toNat % p.joinEvery.toNat = 0
      let sweep :=
        if s.sweep.state = .running ∧ s.sweep.step = none then
          { s.sweep with state := .suspended }
        else s.sweep
      p.joinSlots.toNat + w < p.periodSlots.toNat →
      (join →
        exec (.plannerTakesRequest none) s = .next
          { s with
            planner := { s.planner with
              requests := rest
              building := some ⟨⟨m, [⟨.join, 0, p.joinSlots.toNat, 0, 0, 0, .noTake, false, false⟩,
                ⟨.bid, p.joinSlots.toNat, w, 0, 0, 0, .noTake, false, false⟩], false⟩, w, .done,
                s.life == .listen⟩ }
            sweep := sweep }) ∧
      (¬ join →
        exec (.plannerTakesRequest none) s = .next
          { s with
            planner := { s.planner with
              requests := rest
              building := some ⟨⟨m, [⟨.bid, 0, w, 0, 0, 0, .noTake, false, false⟩], false⟩, w, .done,
                s.life == .listen⟩ }
            sweep := sweep })) ∧
  (∀ (s : State) (b : Build), s.planner.building = some b → b.map.entries.length < 240 →
      let c := b.map.name.chan
      let p := s.part c
      let ch := s.chans.get c
      let runs := s.freeRuns b
      let placed (kind : EntryKind) (start len : Nat) : TurnMap :=
        { b.map with entries :=
          insertEntry ⟨kind, start, len, 0, 0, 0, .noTake, false, false⟩ b.map.entries }
      (b.phase = .joinWindow → 0 < p.joinSlots.toNat →
        b.map.name.period.toNat % p.joinEvery.toNat = 0 →
        (∀ r, runs.find? (fun r => decide (p.joinSlots.toNat ≤ r.len)) = some r →
          exec (.plannerTakesRequest (some 1)) s = .next
            { s with planner := { s.planner with building := some { b with
              map := placed .join r.start p.joinSlots.toNat, phase := .bidWindow } } }) ∧
        ((∀ r ∈ runs, r.len < p.joinSlots.toNat) →
          exec (.plannerTakesRequest (some 1)) s = .next
            { s with
              planner := { s.planner with building := some { b with phase := .bidWindow } }
              chans := s.chans.set c { ch with
                maps := { ch.maps with joinSkipped := bump ch.maps.joinSkipped 1 } } })) ∧
      (b.phase = .bidWindow →
        ∃ t after, exec (.plannerTakesRequest (some 1)) s = .next t ∧
          t.planner.building = some after ∧ after.w = b.w ∧
          (∀ r, runs.find? (fun r => decide (b.w ≤ r.len)) = some r →
            after.map = placed .bid r.start b.w ∧ t.chans = s.chans) ∧
          (∀ (i : Nat) (r : Run), (∀ q ∈ runs, q.len < b.w) → runs[i]? = some r →
            (∀ q ∈ runs, q.len ≤ r.len) → (∀ j < i, ∀ q, runs[j]? = some q → q.len < r.len) →
            after.map = placed .bid r.start r.len ∧
            t.chans = s.chans.set c { ch with
              maps := { ch.maps with bidClipped := bump ch.maps.bidClipped 1 } }) ∧
          (runs = [] → after.map = b.map ∧
            t.chans = s.chans.set c { ch with
              maps := { ch.maps with bidAbsent := bump ch.maps.bidAbsent 1 } })))

/-- Placement, one step of it. A data turn: the turn enters the map, its pending entry is opened, a
rate-limited flow spends credit, and the flow goes to the tail of its list or, no longer eligible, leaves it.
Its bytes leave outstanding, or, when the flow is spanning-active, join tentative with a TAKE in the
transmit queue, which carries a hold when the modem is single-chain; a single-chain modem's turn adds a
local hold. A turn across a hold of the modem is not placed, and a spanning-active flow is skipped in
LISTEN and in a walk that began there (log 40). A cadence turn: it enters the map at the slot the search
gives, its pending entry is opened, and its flow is next due one interval later; a single-chain modem's
adds a local hold and, when the modem has a spanning-active flow, a hold-only TAKE of 0 bytes. It is
blocked and counted when it cannot be carried or finds no slot, or across a hold. -/
def Obligations.TurnsPlaced : Prop :=
  (∀ (s : State) (b : Build) (tag : Tag) (cursor : Nat) (left : List Tag)
      (classes : List ServiceClass) (f : Flow) (m : Modem),
      s.planner.building = some b → b.phase = .walk cursor (tag :: left) classes →
      s.walkEnds b cursor = false → s.flow tag = some f → f.tag = tag →
      f.eligible = true → s.isReady f = true → s.modemAt f.modemIx = some m →
      let spans := s.spanningActive f
      (spans = true → (s.life = .listen ∨ b.barred = true) →
        exec (.plannerTakesRequest (some 1)) s = .next
          { s with planner := { s.planner with
            building := some { b with phase := .walk cursor left classes } } }) ∧
      (∀ k : Candidate, f.chanMask.getLsbD b.map.name.chan.val = true → s.pendingFull = false →
        (m.single = true → s.localFull = false) →
        (spans = true → s.life ≠ .listen ∧ b.barred = false ∧ s.txFull = false) →
        let credit :=
          if f.rate = 0 then f.credit
          else min f.ceiling (f.credit + f.rate * min (s.time.beat - f.lastBeat).toNat 65535)
        let cap := min f.maxTurn (s.profile m.profileInForce).maxTurn.toNat
        let want := if f.rate = 0 then min f.unclaimed cap else min (min f.unclaimed credit) cap
        min s.minGrant f.unclaimed ≤ want → 0 < want →
        sizeAgainst (s.profile m.profileInForce) (s.part b.map.name.chan).q.toNat s.minGrant want
          (runsFrom cursor (s.freeRuns b)) = some k →
        let a := s.slotTick b.map.name k.start
        let z := s.slotTick b.map.name (k.start + k.len)
        let turn : TurnKey := ⟨b.map.name.chan, b.map.name.period, k.start⟩
        let e : Entry :=
          { kind := .data, start := k.start, len := k.len, tag := tag, profile := m.profileInForce,
            bytes := k.bytes, fate := if spans then .queued else .noTake,
            hold := spans && m.single, orphan := false }
        let fresh := { f with lastBeat := s.time.beat, credit := credit }
        let g : Flow := { fresh with
          credit := if f.rate = 0 then credit else credit - k.bytes
          pendingCount := f.pendingCount + 1
          outstanding := if spans then f.outstanding else f.outstanding - k.bytes
          tentative := if spans then f.tentative + k.bytes else f.tentative }
        let notice : Notice :=
          if m.single then .takeHold tag (BitVec.ofNat 16 k.bytes) f.modemKey a z
          else .take tag (BitVec.ofNat 16 k.bytes)
        ∃ t, exec (.plannerTakesRequest (some 1)) s = .next t ∧
          (m.single = true → s.heldAcross m.key a z = true →
            t.flow tag = some fresh ∧ t.planner.building.map (·.map) = some b.map ∧
            t.tracker = s.tracker ∧ t.link = s.link ∧
            t.planner.ready = s.planner.ready) ∧
          ((m.single = true → s.heldAcross m.key a z = false) →
            t.flow tag = some g ∧
            t.planner.ready.get f.cls = (s.planner.ready.get f.cls).filter (· ≠ tag) ++
              (if g.eligible = true then [tag] else []) ∧
            t.planner.building.map (·.map) =
              some { b.map with entries := insertEntry e b.map.entries } ∧
            t.tracker.list = insertPending (s.pendingOf b.map.name f e) s.tracker.list ∧
            t.planner.localHolds =
              s.planner.localHolds ++ (if m.single then [⟨f.modemKey, a, z, turn⟩] else []) ∧
            t.link.queue =
              if spans then insertNotice ⟨notice, some turn⟩ s.link.queue else s.link.queue))) ∧
  (∀ (s : State) (b : Build) (tag : Tag) (left : List Tag) (f : Flow) (m : Modem) (cad : Cadence),
    s.planner.building = some b → b.phase = .cadence (tag :: left) → b.map.entries.length < 240 →
    s.flow tag = some f → f.tag = tag → f.state = .active → f.cadence = some cad →
    (b.map.name.period - cad.nextDue).toNat < 2147483648 → s.modemAt f.modemIx = some m →
    let c := b.map.name.chan
    let need := slotsFor (s.profile m.profileInForce) (s.part c).q.toNat cad.bytes
    let k := (s.chans.get c).cadence
    let spans : Prop := ∃ x ∈ s.store.flows, x.2.modemIx = f.modemIx ∧ s.spanningActive x.2 = true
    let barred : Prop :=
      f.pendingCount = 4 ∨ s.pendingFull = true ∨ (m.single = true ∧ s.localFull = true) ∨
        (m.single = true ∧ spans ∧ s.txFull = true)
    let held (slot : Nat) : Prop :=
      m.single = true ∧
        s.heldAcross m.key (s.slotTick b.map.name slot) (s.slotTick b.map.name (slot + need)) = true
    (∀ slot, ¬ barred → cadenceSlot (s.freeRuns b) cad.phase need = some slot → ¬ held slot →
      let a := s.slotTick b.map.name slot
      let z := s.slotTick b.map.name (slot + need)
      let turn : TurnKey := ⟨c, b.map.name.period, slot⟩
      ∃ t e, exec (.plannerTakesRequest (some 1)) s = .next t ∧
        e.kind = .cadence ∧ e.start = slot ∧ e.len = need ∧ e.tag = tag ∧
        e.profile = m.profileInForce ∧ e.bytes = cad.bytes ∧ e.orphan = false ∧
        t.flow tag = some { f with
          pendingCount := f.pendingCount + 1
          cadence := some { cad with nextDue := cad.nextDue + BitVec.ofNat 32 cad.interval } } ∧
        t.planner.building.map (·.map) =
          some { b.map with entries := insertEntry e b.map.entries } ∧
        t.tracker.list = insertPending (s.pendingOf b.map.name f e) s.tracker.list ∧
        (t.chans.get c).cadence = { k with placed := bump k.placed 1 } ∧
        t.planner.localHolds =
          s.planner.localHolds ++ (if m.single then [⟨f.modemKey, a, z, turn⟩] else []) ∧
        (m.single = true ∧ spans → e.hold = true ∧ e.fate = .queued ∧
          t.link.queue =
            insertNotice ⟨.takeHold tag 0 f.modemKey a z, some turn⟩ s.link.queue) ∧
        (¬ (m.single = true ∧ spans) → e.hold = false ∧ e.fate = .noTake ∧ t.link = s.link)) ∧
    ((barred ∨ cadenceSlot (s.freeRuns b) cad.phase need = none ∨
        ∃ slot, cadenceSlot (s.freeRuns b) cad.phase need = some slot ∧ held slot) →
      exec (.plannerTakesRequest (some 1)) s = .next
        { s with
          planner := { s.planner with building := some { b with phase := .cadence left } }
          chans := s.chans.set c { s.chans.get c with
            cadence := { k with blocked := bump k.blocked 1 } } }))

/-- Building ends: a map with nothing unconfirmed is handed to the map output queue, or is LATE when the
queue holds 4; a map with an unconfirmed turn becomes SEALING; and with no map BUILDING nothing happens
(placement that is left is done first: log 9; when the sweep resumes is log 10). The framer takes the head
of the map output queue: its record goes out and the map is DELIVERED; with an empty queue nothing
happens. -/
def Obligations.BuildEndsAndFramerTakes : Prop :=
  (∀ s : State,
      (s.planner.building = none → exec .buildEnd s = .next s) ∧
      (∀ b, s.planner.building = some b → b.phase = .done →
        let sweep :=
          if s.sweep.state = .suspended ∧ s.planner.requests = [] then
            { s.sweep with state := .running }
          else s.sweep
        let ch := s.chans.get b.map.name.chan
        ((∀ e ∈ b.map.entries, e.hold = false ∨ e.fate = .standing) →
          s.mapPort.queue.length < 4 →
          exec .buildEnd s = .next
            { s with
              planner := { s.planner with building := none }
              sweep := sweep
              mapPort := { s.mapPort with queue := s.mapPort.queue ++ [b.map] }
              chans := s.chans.set b.map.name.chan { ch with
                maps := { ch.maps with handed := bump ch.maps.handed 1 } } }) ∧
        ((∀ e ∈ b.map.entries, e.hold = false ∧ (e.kind = .join ∨ e.kind = .bid)) →
          4 ≤ s.mapPort.queue.length →
          exec .buildEnd s = .next
            { s with
              planner := { s.planner with building := none }
              sweep := sweep
              chans := s.chans.set b.map.name.chan { ch with
                maps := { ch.maps with late := bump ch.maps.late 1 } }
              port := { s.port with latched := s.latchedWith 0x10#7 } }) ∧
        (∀ e ∈ b.map.entries, e.hold = true → (e.fate = .queued ∨ e.fate = .inTx) →
          exec .buildEnd s = .next
            { s with
              planner := { s.planner with
                building := none, sealing := s.planner.sealing ++ [b.map] }
              sweep := sweep }))) ∧
  (∀ s : State,
      (s.mapPort.queue = [] → exec .framerTakesMap s = .next s) ∧
      (∀ m rest, s.mapPort.queue = m :: rest →
        let ch := s.chans.get m.name.chan
        exec .framerTakesMap s = .next
          { s with
            mapPort := ⟨rest, s.mapPort.delivered ++ [m]⟩
            chans := s.chans.set m.name.chan { ch with
              maps := { ch.maps with delivered := bump ch.maps.delivered 1 } }
            out := { s.out with turnMap := s.mapBytes m } }))

/-! ### The peer link -/

/-- A contention: this station's contender wins when no other field is lower (that it wins a tie, which
distinct station numbers rule out, is the model's choice, log 16), leaves the queue and is in
transmission; it loses to a lower field and stays queued. On a quiet link it may have no part in the
contention of others (log 16), and it stays queued as another station sends; without a contender another
station sends. -/
def Obligations.ContentionWinsLosesOrPasses : Prop :=
  ∀ (s : State) (others : List (BitVec 6)),
    (s.link.medium = .sending → ∀ j, exec (.contentionDecided others j) s = .next s) ∧
    (∀ e j, s.link.medium = .idle none e →
      exec (.contentionDecided others j) s = .next
        (if others = [] then s else { s with link := { s.link with medium := .sending } })) ∧
    (∀ q e j, s.link.medium = .idle (some q) e →
      ((j = true ∨ e = true ∨ others = []) →
        ((∀ f ∈ others, noticeRank q.notice * 8 + s.station.toNat ≤ f.toNat) →
          ∃ t, exec (.contentionDecided others j) s = .next t ∧
            t.link = { s.link with
              queue := s.link.queue.erase q, inTx := some ⟨q, false, false⟩, medium := .sending } ∧
            (q.turn = none → t = { s with link := { s.link with
              queue := s.link.queue.erase q, inTx := some ⟨q, false, false⟩,
              medium := .sending } })) ∧
        ((∃ f ∈ others, f.toNat < noticeRank q.notice * 8 + s.station.toNat) →
          exec (.contentionDecided others j) s = .next { s with link := { s.link with
            medium := .sending
            counters := { s.link.counters with losses := bump s.link.counters.losses 1 } } })) ∧
      (j = false → e = false → others ≠ [] →
        exec (.contentionDecided others j) s = .next
          { s with link := { s.link with medium := .sending } }))

/-- Another station's transmission ends: bytes that fail the check only count as corrupt; a notice with
this station's own number counts as a conflict and raises PEER; a PRESENCE refreshes its sender's
roster entry, and PEER is raised when that changes. In START nothing is heard, nor is a notice during
which this station took RESTART. The counting of a conflict is log 18. -/
def Obligations.NoticesHeardAreChecked : Prop :=
  ∀ (s : State) (bs : List Byte), s.link.inTx = none →
    let quiet := Medium.idle s.link.queue.head? true
    let k := s.link.counters
    (s.life = .start ∨ s.link.deaf = true →
      exec (.transmissionEnd bs) s = .next { s with link := { s.link with
        medium := quiet, deaf := false } }) ∧
    (s.life ≠ .start → s.link.deaf = false → noticeOf bs = none →
      exec (.transmissionEnd bs) s = .next { s with link := { s.link with
        medium := quiet, deaf := false, counters := { k with corrupt := bump k.corrupt 1 } } }) ∧
    (∀ n, s.life ≠ .start → s.link.deaf = false → noticeOf bs = some (s.station, n) →
      exec (.transmissionEnd bs) s = .next { s with
        link := { s.link with
          medium := quiet
          deaf := false
          counters := { k with heard := bump k.heard 1, conflicts := bump k.conflicts 1 } }
        port := { s.port with latched := s.latchedWith 0x08#7 } }) ∧
    (∀ from_ serving, s.life ≠ .start → s.link.deaf = false → from_ ≠ s.station →
      noticeOf bs = some (from_, .presence serving) →
      let saying := if serving then Announced.serving else Announced.listen
      exec (.transmissionEnd bs) s = .next { s with
        link := { s.link with
          medium := quiet
          deaf := false
          counters := { k with heard := bump k.heard 1 }
          roster := s.link.roster.set from_.toNat
            ⟨true, saying, some (s.time.nodeTime + 786432)⟩ }
        port :=
          if (s.stored from_).present = true ∧ (s.stored from_).announced = saying then s.port
          else { s.port with latched := s.latchedWith 0x08#7 } })

/-- The byte effects of a peer's notice on an ACTIVE bid flow whose span mask names the sender: BID and
GIVE add to outstanding, TAKE subtracts, both within bounds with the excess counted. A notice whose tag
names no such flow is counted as ignored. -/
def Obligations.PeerNoticesMoveBytes : Prop :=
  ∀ (s : State) (bs : List Byte) (from_ : StationNo) (tag : Tag) (b : BitVec 16),
    s.link.inTx = none → s.link.deaf = false → s.life ≠ .start → from_ ≠ s.station →
    let k := s.link.counters
    (∀ f, s.flow tag = some f → f.tag = tag → f.cadence = none → f.state = .active →
      f.spanMask.getLsbD from_.toNat = true → f.deferred = none →
      (noticeOf bs = some (from_, .bid tag b) ∨ noticeOf bs = some (from_, .give tag b) →
        ∃ t, exec (.transmissionEnd bs) s = .next t ∧
          t.flow tag = some { f with
            outstanding := min (f.outstanding + b.toNat) 1048575 } ∧
          t.link.counters = { k with
            heard := bump k.heard 1
            bytesLost := bump k.bytesLost (f.outstanding + b.toNat - 1048575) }) ∧
      (noticeOf bs = some (from_, .take tag b) →
        ∃ t, exec (.transmissionEnd bs) s = .next t ∧
          t.flow tag = some { f with
            outstanding := f.outstanding - b.toNat
            overgrant := bump f.overgrant (b.toNat - f.outstanding) } ∧
          t.link.counters = { k with heard := bump k.heard 1 })) ∧
    (∀ n, noticeOf bs = some (from_, n) →
      (n = .bid tag b ∨ n = .give tag b ∨ n = .take tag b) →
      (∀ f, s.flow tag = some f →
        f.cadence ≠ none ∨ f.state ≠ .active ∨ f.spanMask.getLsbD from_.toNat = false) →
      ∃ t, exec (.transmissionEnd bs) s = .next t ∧ t.store = s.store ∧ t.planner = s.planner ∧
        t.link.counters = { k with heard := bump k.heard 1, ignored := bump k.ignored 1 })

/-- A peer's TAKE with hold: its hold stands and is entered when no entry of its key overlaps it and the
list has room (not entered when its end tick is not after node time); else it is void. (An overlap at a
full list counts as void only: log 19.) -/
def Obligations.PeerHoldsAreJudged : Prop :=
  ∀ (s : State) (bs : List Byte) (from_ : StationNo) (tag : Tag) (b : BitVec 16) (key : Key)
    (a z : Tick), s.link.inTx = none → s.link.deaf = false → s.life ≠ .start → from_ ≠ s.station →
    noticeOf bs = some (from_, .takeHold tag b key a z) → s.flow tag = none →
    let k := { s.link.counters with
      heard := bump s.link.counters.heard 1, ignored := bump s.link.counters.ignored 1 }
    let clash := s.link.holds.any fun h =>
      h.key == key && before a h.stop && before h.start z
    ∃ t, exec (.transmissionEnd bs) s = .next t ∧ t.store = s.store ∧
      (clash = false → s.link.holds.length < 256 →
        t.link.counters = { k with standing := bump k.standing 1 } ∧
        (before s.time.nodeTime z = true → t.link.holds = s.link.holds ++ [⟨key, a, z, from_⟩]) ∧
        (before s.time.nodeTime z = false → t.link.holds = s.link.holds)) ∧
      (clash = true → t.link.holds = s.link.holds ∧
        t.link.counters = { k with void := bump k.void 1 }) ∧
      (clash = false → 256 ≤ s.link.holds.length → t.link.holds = s.link.holds ∧
        t.link.counters = { k with void := bump k.void 1, voidFull := bump k.voidFull 1 })

/-- The end of this station's own transmission. A TAKE lowers its flow's tentative and outstanding bytes;
one marked withdrawn gives the bytes back with a GIVE. A TAKE with hold that stands is entered, confirms
its turn, and hands over a SEALING map in which it was the last unconfirmed turn. A void one leaves
outstanding, lowers tentative and passes a HOLD_VOID record; not marked withdrawn, it withdraws its turn,
whose slots come free, and the SEALING map is handed over when nothing unconfirmed is left. One that a
RESTART has outlived is not heard (log 17). (A void hold that overlaps at a full hold list does not count as
void by a full list: log 19.) -/
def Obligations.OwnTransmissionEnds : Prop :=
  (∀ (s : State) (bs : List Byte) (x : InTx), s.link.inTx = some x →
    (s.life = .start ∨ x.silent = true) →
    exec (.transmissionEnd bs) s = .next { s with link := { s.link with
      inTx := none, medium := .idle s.link.queue.head? true, deaf := false } }) ∧
  (∀ (s : State) (bs : List Byte) (tag : Tag) (b : BitVec 16) (turn : Option TurnKey) (f : Flow),
    s.life ≠ .start → s.planner.sealing = [] → s.flow tag = some f → f.tag = tag →
    f.cadence = none → f.state = .active → f.deferred = none →
    let k := s.link.counters
    (s.link.inTx = some ⟨⟨.take tag b, turn⟩, false, false⟩ →
      ∃ t, exec (.transmissionEnd bs) s = .next t ∧ t.link.inTx = none ∧
        t.link.counters = { k with sent1 := bump k.sent1 1 } ∧
        t.flow tag = some { f with
          tentative := f.tentative - b.toNat
          outstanding := f.outstanding - b.toNat
          overgrant := bump f.overgrant (b.toNat - f.outstanding) }) ∧
    (s.link.inTx = some ⟨⟨.take tag b, turn⟩, true, false⟩ → 0 < b.toNat →
      s.link.queue.length < 64 →
      ∃ t, exec (.transmissionEnd bs) s = .next t ∧ t.link.inTx = none ∧
        t.link.queue = insertNotice ⟨.give tag b, none⟩ s.link.queue ∧
        t.link.counters.giveLate = bump k.giveLate 1 ∧
        t.flow tag = some { f with
          tentative := f.tentative - b.toNat
          outstanding := min (f.outstanding - b.toNat + b.toNat) 1048575
          overgrant := bump f.overgrant (b.toNat - f.outstanding) }) ∧
    (∀ key a z, s.link.inTx = some ⟨⟨.takeHold tag b key a z, turn⟩, true, false⟩ →
      (s.link.holds.any fun h => h.key == key && before a h.stop && before h.start z) = true →
      ∃ t r, exec (.transmissionEnd bs) s = .next t ∧ t.link.inTx = none ∧
        t.link.holds = s.link.holds ∧
        t.link.counters = { k with sent0 := bump k.sent0 1, void := bump k.void 1 } ∧
        t.flow tag = some { f with tentative := f.tentative - b.toNat } ∧
        t.health.ring.getLast? = some r ∧ r.kind = .holdVoid ∧ r.key = key ∧ r.tag = tag ∧
        r.seq = s.health.seq)) ∧
  (∀ (s : State) (bs : List Byte) (tag : Tag) (b : BitVec 16) (turn : TurnKey) (key : Key)
    (a z : Tick) (f : Flow) (x : TurnMap),
    s.life ≠ .start → s.planner.building = none → s.planner.sealing = [x] →
    x.name = ⟨turn.chan, turn.period⟩ → s.mapPort.queue.length < 4 →
    (∀ e ∈ x.entries, e.start ≠ turn.slot → e.unconfirmed = false) →
    s.flow tag = some f → f.tag = tag → f.cadence = none → f.state = .active →
    f.deferred = none → s.link.inTx = some ⟨⟨.takeHold tag b key a z, some turn⟩, false, false⟩ →
    let k := s.link.counters
    let maps := (s.chans.get turn.chan).maps
    let clash := s.link.holds.any fun h => h.key == key && before a h.stop && before h.start z
    let confirmed (y : TurnMap) : TurnMap :=
      if y.name = x.name then
        { y with entries := y.entries.map fun e =>
          if e.start = turn.slot then { e with fate := .standing } else e }
      else y
    (clash = false → s.link.holds.length < 256 →
      ∃ t, exec (.transmissionEnd bs) s = .next t ∧ t.link.inTx = none ∧
        t.link.counters = { k with sent0 := bump k.sent0 1, standing := bump k.standing 1 } ∧
        t.link.holds = s.link.holds ++
          (if before s.time.nodeTime z then [⟨key, a, z, s.station⟩] else []) ∧
        t.flow tag = some { f with
          tentative := f.tentative - b.toNat
          outstanding := f.outstanding - b.toNat
          overgrant := bump f.overgrant (b.toNat - f.outstanding) } ∧
        t.planner.sealing = [] ∧
        t.mapPort.queue = (s.mapPort.queue ++ [x]).map confirmed ∧
        (t.chans.get turn.chan).maps = { maps with handed := bump maps.handed 1 } ∧
        t.health = s.health) ∧
    (∀ e p, clash = true → x.entries.find? (·.start == turn.slot) = some e → e.kind = .data →
      e.orphan = false → e.tag = tag → s.pendingEntry turn = some p →
      ∃ t r, exec (.transmissionEnd bs) s = .next t ∧ t.link.inTx = none ∧
        t.link.holds = s.link.holds ∧
        t.link.counters = { k with sent0 := bump k.sent0 1, void := bump k.void 1 } ∧
        t.flow tag = some { f with
          tentative := f.tentative - b.toNat
          pendingCount := f.pendingCount - 1
          credit := if f.rate = 0 then f.credit else min f.ceiling (f.credit + e.bytes) } ∧
        t.tracker.list = s.tracker.list.filter (fun q => !q.isTurn turn) ∧
        t.planner.localHolds = s.planner.localHolds.filter (·.turn ≠ turn) ∧
        t.planner.sealing = [] ∧
        t.mapPort.queue = s.mapPort.queue ++
          [{ x with entries := x.entries.filter (·.start ≠ turn.slot) }] ∧
        (t.chans.get turn.chan).maps =
          { maps with holdsVoid := bump maps.holdsVoid 1, handed := bump maps.handed 1 } ∧
        t.health.ring.getLast? = some r ∧ r.kind = .holdVoid ∧ r.key = key ∧ r.tag = tag ∧
        r.seq = s.health.seq))

/-! ### The sweep -/

/-- A RUNNING sweep with no step in flight, as it stands after entry to LISTEN or after it has resumed,
begins a step on the record at its cursor when no map is BUILDING (log 32), and otherwise SWEEP_STEP_BEGIN
does nothing. A step that completes on a FREE record moves the cursor, with its wrap and the pass count;
the next step begins at that event, and with a map BUILDING the sweep is SUSPENDED (a step that outlives
the build it ran into goes on to the next: log 48). -/
def Obligations.SweepStepsBeginAndPass : Prop :=
  ∀ s : State,
    (s.sweep.state = .running → s.sweep.step = none → s.planner.building = none →
      exec .sweepStepBegin s = .next { s with sweep := { s.sweep with
        step := some ⟨(tabGet s.store.flows s.sweep.cursor).map (·.tag)⟩ } }) ∧
    ((s.sweep.state ≠ .running ∨ s.sweep.step ≠ none ∨ s.planner.building ≠ none) →
      exec .sweepStepBegin s = .next s) ∧
    (s.sweep.step = none → exec .sweepStepCompletion s = .next s) ∧
    (∀ st, s.sweep.step = some st → s.sweep.state = .running →
      tabGet s.store.flows s.sweep.cursor = none →
      let at_ := if s.sweep.cursor < 8191 then s.sweep.cursor + 1 else 0
      let moved := { s.sweep with
        steps := bump s.sweep.steps 1
        cursor := at_
        pass := if s.sweep.cursor < 8191 then s.sweep.pass else s.sweep.pass + 1 }
      (s.planner.building = none →
        exec .sweepStepCompletion s = .next { s with sweep := { moved with
          step := some ⟨(tabGet s.store.flows at_).map (·.tag)⟩ } }) ∧
      (s.planner.building ≠ none →
        exec .sweepStepCompletion s = .next { s with sweep := { moved with
          step := none, state := .suspended } }))

/-- A step that completes on an ACTIVE bid flow refreshes its credit, then discards its bytes when it is
stale, with a STALE_DISCARD record, and puts it to rest when it is idle, each offered to the host: of the
two offers of one step the second finds the first queued and counts as a duplicate, also when the first
filled the queue (log 42). (A step that outlives the build it ran into goes on to the next: log 48.) -/
def Obligations.SweepFindsStaleAndIdleFlows : Prop :=
  ∀ (s : State) (st : SweepStep) (f : Flow), s.sweep.step = some st →
    tabGet s.store.flows s.sweep.cursor = some f → s.flow f.tag = some f → f.cadence = none →
    f.state = .active → (∀ e ∈ s.port.attention, e.tag ≠ f.tag) → s.port.attention.length < 64 →
    let g := { f with
      lastBeat := s.time.beat
      credit :=
        if f.rate = 0 then f.credit
        else min f.ceiling (f.credit + f.rate * min (s.time.beat - f.lastBeat).toNat 65535) }
    let stale : Prop :=
      0 < f.outstanding ∧ s.inForce.staleLimit.toNat < (s.time.beat - f.lastService).toNat
    let span :=
      if f.idleCode ≤ 200 then f.idleCode * 250
      else if f.idleCode ≤ 250 then (f.idleCode - 200) * 15000 else 900000
    let idle : Prop := f.idleCode ≠ 0 ∧ span ≤ (s.time.beat - f.lastActivity).toNat
    let bytes := f.outstanding + match f.deferred with
      | some (b, _) => b
      | none => 0
    ∃ t, exec .sweepStepCompletion s = .next t ∧
      t.sweep.steps = bump s.sweep.steps 1 ∧
      t.sweep.cursor = (if s.sweep.cursor < 8191 then s.sweep.cursor + 1 else 0) ∧
      (s.sweep.state = .running → s.planner.building = none →
        t.sweep.state = .running ∧
        t.sweep.step = some ⟨(tabGet t.store.flows t.sweep.cursor).map (·.tag)⟩) ∧
      (s.sweep.state = .running → s.planner.building ≠ none →
        t.sweep.state = .suspended ∧ t.sweep.step = none) ∧
      (¬ stale → ¬ idle → t.flow f.tag = some g ∧ t.port = s.port ∧ t.health = s.health) ∧
      (stale → ¬ idle →
        t.flow f.tag = some { g with outstanding := 0, deferred := none } ∧
        t.sweep.staleDiscards = bump s.sweep.staleDiscards 1 ∧
        t.sweep.staleBytes = bump s.sweep.staleBytes bytes ∧
        t.port.attention = s.port.attention ++ [⟨f.tag, .stale⟩] ∧
        (∃ r, t.health.ring.getLast? = some r ∧ r.kind = .staleDiscard ∧ r.key = f.modemKey ∧
          r.tag = f.tag)) ∧
      (¬ stale → idle →
        t.flow f.tag = some { g with state := .dormant, outstanding := 0, deferred := none } ∧
        t.sweep.idleExpiries = bump s.sweep.idleExpiries 1 ∧
        t.sweep.idleBytes = bump s.sweep.idleBytes bytes ∧
        t.port.attention = s.port.attention ++ [⟨f.tag, .idleExpired⟩] ∧ t.health = s.health) ∧
      (stale → idle →
        t.flow f.tag = some { g with state := .dormant, outstanding := 0, deferred := none } ∧
        t.sweep.staleDiscards = bump s.sweep.staleDiscards 1 ∧
        t.sweep.staleBytes = bump s.sweep.staleBytes bytes ∧
        t.sweep.idleExpiries = bump s.sweep.idleExpiries 1 ∧
        t.sweep.idleBytes = bump s.sweep.idleBytes 0 ∧
        t.port.attention = s.port.attention ++ [⟨f.tag, .stale⟩] ∧
        t.port.attDuplicates = bump s.port.attDuplicates 1)

/-! ### The management port -/

/-- The exchange: a busy write, a read, an incomplete write, an unknown direction byte and a frame that
fails its checks. The status byte carries the slot's state at the start (that the model keeps what the part
sent last is log 24; that an incomplete write in ANSWERED is no BUSY refusal is log 49; that nothing follows the frame in a read that clocks out more bytes is log 28). A frame
is refused first for its check, then its code, then its length, by the offset of each (an offset above
65,535 is log 43). -/
def Obligations.PortExchange : Prop :=
  (∀ (s : State) (r : Response), s.port.slot = .answered r →
    let busy := { s with
      out := { s.out with statusByte := 1 }
      port := { s.port with busy := bump s.port.busy 1 } }
    exec .commandBusy s = .next busy ∧
    (∀ f : CommandFrame, f.body.length = f.length.toNat → (frameFault f).isSome = true →
      exec (.badCommandFrame f) s = .next busy) ∧
    (∀ n, exec (.responseRead n) s = .next { s with
      out := { s.out with statusByte := 1, response := (slotFrame (.answered r)).take n }
      port := { s.port with slot := .ready } })) ∧
  (∀ (s : State) (n : Nat), s.port.slot = .ready →
    exec (.responseRead n) s = .next { s with
      out := { s.out with statusByte := 0, response := ([0] : List Byte).take n } }) ∧
  (∀ (s : State) (b : Byte), b ≠ 1 → b ≠ 2 →
    let t := { s with
      out := { s.out with statusByte := if slotAnswered s.port.slot then 1 else 0 }
      port := { s.port with malformed := bump s.port.malformed 1 } }
    exec .malformedFrame s = .next t ∧ exec (.badDirectionByte b) s = .next t) ∧
  (∀ (s : State) (f : CommandFrame), s.port.slot = .ready → f.body.length = f.length.toNat →
    (f.check ≠ crc16 (frameBytes f) →
      exec (.badCommandFrame f) s = .next
        (s.replied f.code .badField (be2 (3 + f.length.toNat)))) ∧
    (f.check = crc16 (frameBytes f) → requiredLength f.code.toNat = none →
      exec (.badCommandFrame f) s = .next (s.replied f.code .badField [0, 0])) ∧
    (∀ n, f.check = crc16 (frameBytes f) → requiredLength f.code.toNat = some n →
      n ≠ f.length.toNat →
      exec (.badCommandFrame f) s = .next (s.replied f.code .badField [0, 1])))

/-- A host command written while the slot holds a response is refused as BUSY with no effect; one that
its life state does not take answers NOT_SERVING and changes nothing else. -/
def Obligations.HostCommandsTurnedAway : Prop :=
  ∀ (s : State) (i : Instr) (code : Byte), hostCode i = some code →
    (∀ r, s.port.slot = .answered r →
      exec i s = .next { s with
        out := { s.out with statusByte := 1 }
        port := { s.port with busy := bump s.port.busy 1 } }) ∧
    (s.port.slot = .ready → s.life = .start → code ≠ 0x01 → code ≠ 0x02 → code ≠ 0x0D →
      code ≠ 0x0E → exec i s = .next (s.replied code .notServing [])) ∧
    (s.port.slot = .ready → s.life ≠ .start → code = 0x01 →
      exec i s = .next (s.replied code .notServing []))

/-- LOAD START in START: a record that fails a check answers START_ERROR with the first failing check; one
that passes is accepted, and a timed station enters LISTEN at once, an untimed one at its first valid
time word. A record passes exactly when every field of its channels, leads, windows, profiles, grant floor,
largest turns, health values, report wait and stale limit is in range; a good record with one field put
out of range, or out of order with another, answers that check's code and item: slot and period lengths, Q,
the leads, Wmin and Wmax, joinEvery and backoff exponents, preamble, bits per symbol, k, parity, maxTurnBytes
(its range, the grant floor and the fit), minGrantBytes, the health values, reportWait and staleLimit. -/
def Obligations.LoadStartEntersListen : Prop :=
  (∀ (s : State) (r : StartRecord) (k : StartCheck), s.port.slot = .ready → s.life = .start →
    firstFailure r = some k →
    exec (.loadStart r) s = .next (s.replied 0x01 .startError [k.code.byte, byteOf k.item])) ∧
  (∀ (s : State) (r : StartRecord), s.port.slot = .ready → s.life = .start →
    firstFailure r = none → s.time.timed = false →
    exec (.loadStart r) s = .next (State.replied { s with accepted := some r } 0x01 .done [])) ∧
  (∀ (s : State) (i : Instr) (r : StartRecord), s.life = .start →
    ((i = .loadStart r ∧ s.port.slot = .ready ∧ firstFailure r = none ∧ s.time.timed = true) ∨
      (∃ v, i = .timeWord v (crc16 (be4 v.toNat)) ∧ v.toNat % 65536 = 0 ∧
        s.time.timed = false ∧ s.accepted = some r)) →
    ∃ t, exec i s = .next t ∧ t.life = .listen ∧ t.accepted = some r ∧ t.time.timed = true ∧
      t.listenEnd = some (t.time.nodeTime + 2097152) ∧ t.sweep.state = .running ∧
      t.sweep.cursor = 0 ∧ t.link.presence = some (t.time.nodeTime + 262144) ∧
      ∀ c, (r.channels.get c).enabled = true →
        (t.chans.get c).w = some (r.channels.get c).wMin.toNat ∧
        ∃ k, (t.chans.get c).clock = some k ∧
          k.start = firstPeriod (r.channels.get c) r.buildLead t.time.nodeTime ∧
          k.deadline = k.start) ∧
  (∀ r : StartRecord,
    let on (c : Chan) : Prop := (r.channels.get c).enabled = true
    (firstFailure r = none ↔
      (∃ c, on c) ∧
      (∀ c, on c →
        let p := r.channels.get c
        (p.slotTicks = 16 ∨ p.slotTicks = 32 ∨ p.slotTicks = 64 ∨ p.slotTicks = 128 ∨
          p.slotTicks = 256 ∨ p.slotTicks = 512) ∧
        64 ≤ p.periodSlots.toNat ∧ p.periodSlots.toNat ≤ 2048 ∧ p.periodSlots.toNat % 8 = 0 ∧
        p.slotTicks.toNat * p.periodSlots.toNat ≤ 1048576 ∧
        16 ≤ p.q.toNat ∧ p.q.toNat ≤ 256 ∧
        1 ≤ p.wMin.toNat ∧ p.wMin.toNat ≤ p.wMax.toNat ∧ p.wMax.toNat ≤ 256 ∧
        1 ≤ p.joinEvery.toNat ∧ p.backoffStart.toNat ≤ p.backoffEnd.toNat) ∧
      (4096 ≤ r.deliverLead.toNat ∧ r.deliverLead.toNat + 8192 ≤ r.buildLead.toNat ∧
        r.buildLead.toNat ≤ 1048576) ∧
      (∀ pr ∈ r.profiles, 8 ≤ pr.preamble.toNat ∧ pr.preamble.toNat ≤ 512 ∧
        1 ≤ pr.bitsPerSymbol.toNat ∧ pr.bitsPerSymbol.toNat ≤ 12 ∧ 16 ≤ pr.k.toNat ∧
        pr.p.toNat ≤ 32 ∧ pr.p.toNat % 2 = 0 ∧ 64 ≤ pr.maxTurn.toNat ∧
        pr.maxTurn.toNat ≤ 16383 ∧ r.minGrant.toNat ≤ pr.maxTurn.toNat ∧
        ∀ c, on c →
          let p := r.channels.get c
          p.wMax.toNat + p.joinSlots.toNat < p.periodSlots.toNat ∧
          slotsFor pr p.q.toNat pr.maxTurn.toNat ≤
            p.periodSlots.toNat - p.wMax.toNat - p.joinSlots.toNat) ∧
      (1 ≤ r.minGrant.toNat ∧ r.minGrant.toNat ≤ 16383) ∧
      (1 ≤ r.t1.toNat ∧ r.t1.toNat ≤ 199 ∧ 1 ≤ r.t2.toNat ∧ r.t2.toNat ≤ 199 ∧
        1 ≤ r.t3.toNat ∧ r.t3.toNat ≤ 199 ∧ 1 ≤ r.recover.toNat ∧ r.recover.toNat ≤ 100) ∧
      (8192 ≤ r.reportWait.toNat ∧ r.reportWait.toNat ≤ 4194304) ∧
      (1 ≤ r.staleLimit.toNat ∧ r.staleLimit.toNat ≤ 900000))) ∧
  (∀ (s : State) (r : StartRecord), s.port.slot = .ready → s.life = .start →
    firstFailure r = none →
    let refused (r' : StartRecord) (code : Byte) (item : Nat) : Prop :=
      exec (.loadStart r') s = .next (s.replied 0x01 .startError [code, byteOf item])
    let withChan (c : Chan) (p : ChannelPart) : StartRecord :=
      { r with channels := r.channels.set c p }
    (refused { r with channels := Quad.all noChannelPart } 0x01 4) ∧
    (∀ c n, (r.channels.get c).enabled = true →
      (n ≠ 16 ∧ n ≠ 32 ∧ n ≠ 64 ∧ n ≠ 128 ∧ n ≠ 256 ∧ n ≠ 512 →
        refused (withChan c { r.channels.get c with slotTicks := n }) 0x01 c.val) ∧
      (n.toNat < 64 ∨ 2048 < n.toNat ∨ n.toNat % 8 ≠ 0 →
        refused (withChan c { r.channels.get c with periodSlots := n }) 0x01 c.val) ∧
      (n.toNat < 16 ∨ 256 < n.toNat →
        refused (withChan c { r.channels.get c with q := n }) 0x02 c.val) ∧
      (n.toNat = 0 ∨ (r.channels.get c).wMax.toNat < n.toNat →
        refused (withChan c { r.channels.get c with wMin := n }) 0x04 c.val) ∧
      (n.toNat < (r.channels.get c).wMin.toNat ∨ 256 < n.toNat →
        refused (withChan c { r.channels.get c with wMax := n }) 0x04 c.val)) ∧
    (∀ c (n : BitVec 4), (r.channels.get c).enabled = true →
      refused (withChan c { r.channels.get c with joinEvery := 0 }) 0x04 c.val ∧
      ((r.channels.get c).backoffEnd.toNat < n.toNat →
        refused (withChan c { r.channels.get c with backoffStart := n }) 0x04 c.val) ∧
      (n.toNat < (r.channels.get c).backoffStart.toNat →
        refused (withChan c { r.channels.get c with backoffEnd := n }) 0x04 c.val)) ∧
    (∀ n, n.toNat < 4096 → refused { r with deliverLead := n } 0x03 0) ∧
    (∀ n, 4096 ≤ n.toNat → r.buildLead.toNat < n.toNat + 8192 →
      refused { r with deliverLead := n } 0x03 1) ∧
    (∀ n, n.toNat < r.deliverLead.toNat + 8192 → refused { r with buildLead := n } 0x03 1) ∧
    (∀ n, 1048576 < n.toNat → refused { r with buildLead := n } 0x03 2) ∧
    (∀ (i : Nat) (h : i < 16) n,
      (n.toNat < 8 ∨ 512 < n.toNat →
        refused { r with profiles := r.profiles.set i { r.profiles[i] with preamble := n } }
          0x05 i) ∧
      (n.toNat < 64 ∨ 16383 < n.toNat →
        refused { r with profiles := r.profiles.set i { r.profiles[i] with maxTurn := n } }
          0x05 i) ∧
      (64 ≤ n.toNat → n.toNat < r.minGrant.toNat →
        refused { r with profiles := r.profiles.set i { r.profiles[i] with maxTurn := n } }
          0x06 i) ∧
      (∀ c, (r.channels.get c).enabled = true → n.toNat ≤ 16383 → r.minGrant.toNat ≤ n.toNat →
        64 ≤ n.toNat →
        (r.channels.get c).periodSlots.toNat - (r.channels.get c).wMax.toNat -
            (r.channels.get c).joinSlots.toNat <
          slotsFor { r.profiles[i] with maxTurn := n } (r.channels.get c).q.toNat n.toNat →
        refused { r with profiles := r.profiles.set i { r.profiles[i] with maxTurn := n } }
          0x07 i)) ∧
    (∀ (i : Nat) (h : i < 16) (n : BitVec 8),
      (n.toNat = 0 ∨ 12 < n.toNat →
        refused { r with profiles := r.profiles.set i { r.profiles[i] with bitsPerSymbol := n } }
          0x05 i) ∧
      (n.toNat < 16 →
        refused { r with profiles := r.profiles.set i { r.profiles[i] with k := n } } 0x05 i) ∧
      (32 < n.toNat ∨ n.toNat % 2 = 1 →
        refused { r with profiles := r.profiles.set i { r.profiles[i] with p := n } } 0x05 i)) ∧
    (∀ n, n.toNat = 0 ∨ 16383 < n.toNat → refused { r with minGrant := n } 0x06 16) ∧
    (∀ (i : Nat) (h : i < 16) n, n.toNat ≤ 16383 → r.profiles[i].maxTurn.toNat < n.toNat →
      (∀ (j : Nat) (hj : j < i), n.toNat ≤ r.profiles[j].maxTurn.toNat) →
      refused { r with minGrant := n } 0x06 i) ∧
    (∀ n, n.toNat = 0 ∨ 199 < n.toNat →
      refused { r with t1 := n } 0x08 0 ∧ refused { r with t2 := n } 0x08 1 ∧
      refused { r with t3 := n } 0x08 2) ∧
    (∀ n, n.toNat = 0 ∨ 100 < n.toNat → refused { r with recover := n } 0x08 3) ∧
    (∀ n, n.toNat < 8192 ∨ 4194304 < n.toNat → refused { r with reportWait := n } 0x09 0) ∧
    (∀ n, n.toNat = 0 ∨ 900000 < n.toNat → refused { r with staleLimit := n } 0x0A 0))

/-- R34: ADMIT MODEM, its checks in order, the record it fills, and START. -/
def Obligations.AdmitModemFillsTheLowestRecord : Prop :=
  ∀ (s : State) (key : Key) (single : Bool) (normal fallback : ProfileIx),
    s.port.slot = .ready → tabWf s.store.modems = true →
    let c := Instr.admitModem key single normal fallback
    (s.life = .start → exec c s = .next (s.replied 0x03 .notServing [])) ∧
    (s.life ≠ .start → key = 0 → exec c s = .next (s.replied 0x03 .badField [0, 3])) ∧
    (s.life ≠ .start → key ≠ 0 → (∃ e ∈ s.store.modems, e.2.key = key) →
      exec c s = .next (s.replied 0x03 .duplicate [])) ∧
    (s.life ≠ .start → key ≠ 0 → (∀ e ∈ s.store.modems, e.2.key ≠ key) →
      ((∀ i < 4096, s.modemAt i ≠ none) → exec c s = .next (s.replied 0x03 .noRoom [])) ∧
      (∀ i < 4096, s.modemAt i = none → (∀ j < i, s.modemAt j ≠ none) →
        let m : Modem :=
          { key := key, state := .active, single := single, normal := normal,
            fallback := fallback, pin := .unset, presence := 200, integrity := 200,
            margin := 200, trail := [], flowCount := 0, lifetime := 0 }
        m.profileInForce = normal ∧
        exec c s = .next (State.replied
          { s with store := { s.store with modems := tabPut s.store.modems i m } }
          0x03 .done (be2 i))))

/-- REMOVE MODEM removes the modem's flows as REMOVE FLOW does, with no map BUILDING or SEALING, and frees
its record; PIN MODEM writes the pin and answers the profile in force; READ MODEM answers the record (its
layout is log 25); each answers UNKNOWN for a key that no record carries, and the fourth pin value is a
BAD_FIELD first. -/
def Obligations.ModemRemovedPinnedAndRead : Prop :=
  ∀ (s : State) (key : Key), s.hostReady →
    (s.modemIx key = none →
      exec (.removeModem key) s = .next (s.replied 0x04 .unknown []) ∧
      (∀ p, p ≠ 3 → exec (.pinModem key p) s = .next (s.replied 0x05 .unknown [])) ∧
      exec (.readModem key) s = .next (s.replied 0x06 .unknown [])) ∧
    exec (.pinModem key 3) s = .next (s.replied 0x05 .badField [0, 5]) ∧
    (∀ i m, s.modemIx key = some i → s.modemAt i = some m →
      ((∀ e ∈ s.store.flows, e.2.modemIx ≠ i) →
        exec (.removeModem key) s = .next (State.replied
          { s with store := { s.store with modems := tabDel s.store.modems i } } 0x04 .done [])) ∧
      (StoreLaw s → s.planner.building = none → s.planner.sealing = [] →
        let gone (tag : Tag) : Bool := s.store.flows.any fun x => x.2.modemIx == i && x.2.tag == tag
        let left (tag : Tag) : Nat := (s.tracker.list.filter (·.tag = tag)).length
        ∃ t, exec (.removeModem key) s = .next t ∧
          t.store.modems = tabDel s.store.modems i ∧
          t.store.flows = s.store.flows.filter (fun x => x.2.modemIx != i) ∧
          (∀ tag, gone tag = true → t.flow tag = none ∧
            t.tagState tag = if left tag = 0 then none else some (.draining (left tag))) ∧
          (∀ tag, gone tag = false → t.tagState tag = s.tagState tag) ∧
          t.tracker.list = s.tracker.list.map
            (fun e => if gone e.tag then { e with orphan := true } else e) ∧
          t.port.attention = s.port.attention.filter (fun a => !gone a.tag) ∧
          t.port.slot = .answered ⟨0x04, .done, []⟩) ∧
      (∀ p pin, (p = 0 ∧ pin = Pin.unset ∨ p = 1 ∧ pin = Pin.normal ∨ p = 2 ∧ pin = Pin.fallback) →
        let m' := { m with pin := pin }
        let shown :=
          if pin = .normal ∨ (pin = .unset ∧ m.state = .active) then m.normal else m.fallback
        exec (.pinModem key p) s = .next (State.replied
          { s with store := { s.store with modems := tabPut s.store.modems i m' } }
          0x05 .done [byteOf shown.toNat])) ∧
      exec (.readModem key) s = .next (s.replied 0x06 .done (be2 i ++ m.body)))

/-- ADMIT FLOW of a bid flow: its checks in order, the first failing one giving the answer and nothing
else changed, and the record it fills. -/
def Obligations.AdmitFlowFillsARecord : Prop :=
  ∀ (s : State) (a : AdmitFlow), s.hostReady →
    (a.tag = 0 → exec (.admitFlow a) s = .next (s.replied 0x07 .badField [0, 3])) ∧
    (a.tag ≠ 0 → s.modemIx a.key = none →
      exec (.admitFlow a) s = .next (s.replied 0x07 .unknown [])) ∧
    (∀ mi m, a.tag ≠ 0 → s.modemIx a.key = some mi → s.modemAt mi = some m →
      (∀ i, s.tagState a.tag = some (.bound i) →
        exec (.admitFlow a) s = .next (s.replied 0x07 .duplicate [])) ∧
      (∀ n, s.tagState a.tag = some (.draining n) →
        exec (.admitFlow a) s = .next (s.replied 0x07 .tagDraining [])) ∧
      (s.tagState a.tag = none → s.takeInTx a.tag = true →
        exec (.admitFlow a) s = .next (s.replied 0x07 .tagDraining [])) ∧
      (s.tagState a.tag = none → s.takeInTx a.tag = false → a.cadence = false →
        (∀ c, a.chanMask.getLsbD c.val = true → s.enabled c = false) →
        exec (.admitFlow a) s = .next (s.replied 0x07 .badField [0, 7])) ∧
      (s.tagState a.tag = none → s.takeInTx a.tag = false → a.cadence = false →
        (∃ c, a.chanMask.getLsbD c.val = true ∧ s.enabled c = true) →
        (freeRecord s.store.flows 8192 = none ∨ 16 ≤ m.flowCount) →
        exec (.admitFlow a) s = .next (s.replied 0x07 .noRoom [])) ∧
      (∀ ix, s.tagState a.tag = none → s.takeInTx a.tag = false → a.cadence = false →
        (∃ c, a.chanMask.getLsbD c.val = true ∧ s.enabled c = true) →
        freeRecord s.store.flows 8192 = some ix → m.flowCount < 16 →
        let f : Flow :=
          { tag := a.tag, modemIx := mi, modemKey := a.key, state := .active, cls := a.cls,
            chanMask := a.chanMask, spanMask := a.spanMask, rate := a.rate.toNat,
            ceiling := min a.ceiling.toNat 1048575, credit := min a.ceiling.toNat 1048575,
            lastBeat := s.time.beat, outstanding := 0, tentative := 0, deferred := none,
            discard := a.discard, pendingCount := 0,
            maxTurn := max (min a.maxTurn.toNat 16383) s.inForce.minGrant.toNat,
            idleCode := a.idleCode.toNat, lastActivity := s.time.beat,
            lastService := s.time.beat, overgrant := 0, cadence := none }
        let m' := { m with flowCount := m.flowCount + 1 }
        exec (.admitFlow a) s = .next (State.replied
          { s with store :=
            { modems := tabPut s.store.modems mi m'
              flows := tabPut s.store.flows ix f
              tagMap := tabPut s.store.tagMap a.tag.toNat (.bound ix) } }
          0x07 .done (be2 ix))))

/-- ADMIT FLOW of a cadence flow: its remaining checks in order, and the record, due first at the period
its channel builds next, with the fields of a bid flow as R37 gives them. (Two fields the spec does not set
are free values: log 11. That its span mask is stored as given and its maxTurnBytes clamped is the model's
choice: log 38.) -/
def Obligations.AdmitCadenceFlow : Prop :=
  ∀ (s : State) (a : AdmitFlow) (mi : Nat) (m : Modem) (k : PeriodClock), s.hostReady →
    a.tag ≠ 0 → s.modemIx a.key = some mi → s.modemAt mi = some m → s.tagState a.tag = none →
    s.takeInTx a.tag = false → a.cadence = true →
    (s.enabled a.cadChan = false →
      exec (.admitFlow a) s = .next (s.replied 0x07 .badField [0, 18])) ∧
    (s.enabled a.cadChan = true → a.interval = 0 →
      exec (.admitFlow a) s = .next (s.replied 0x07 .badField [0, 20])) ∧
    (s.enabled a.cadChan = true → a.interval ≠ 0 →
      (a.cadBytes.toNat < 16 ∨ 2048 < a.cadBytes.toNat) →
      exec (.admitFlow a) s = .next (s.replied 0x07 .badField [0, 21])) ∧
    (s.enabled a.cadChan = true → a.interval ≠ 0 → 16 ≤ a.cadBytes.toNat →
      a.cadBytes.toNat ≤ 2048 → (s.part a.cadChan).periodSlots.toNat ≤ a.phase.toNat →
      exec (.admitFlow a) s = .next (s.replied 0x07 .badField [0, 23])) ∧
    (s.enabled a.cadChan = true → a.interval ≠ 0 → 16 ≤ a.cadBytes.toNat →
      a.cadBytes.toNat ≤ 2048 → a.phase.toNat < (s.part a.cadChan).periodSlots.toNat →
      (freeRecord s.store.flows 8192 = none ∨ 16 ≤ m.flowCount) →
      exec (.admitFlow a) s = .next (s.replied 0x07 .noRoom [])) ∧
    (∀ ix, s.enabled a.cadChan = true → a.interval ≠ 0 → 16 ≤ a.cadBytes.toNat →
      a.cadBytes.toNat ≤ 2048 → a.phase.toNat < (s.part a.cadChan).periodSlots.toNat →
      freeRecord s.store.flows 8192 = some ix → m.flowCount < 16 →
      (s.chans.get a.cadChan).clock = some k →
      ∃ lastBeat overgrant drawn,
        let f : Flow :=
          { tag := a.tag, modemIx := mi, modemKey := a.key, state := .active, cls := 0,
            chanMask := BitVec.ofNat 4 (2 ^ a.cadChan.val), spanMask := a.spanMask, rate := 0,
            ceiling := 0, credit := 0, lastBeat := lastBeat, outstanding := 0, tentative := 0,
            deferred := none, discard := false, pendingCount := 0,
            maxTurn := max (min a.maxTurn.toNat 16383) s.inForce.minGrant.toNat, idleCode := 0,
            lastActivity := s.time.beat, lastService := s.time.beat, overgrant := overgrant,
            cadence := some
              { chan := a.cadChan, interval := a.interval.toNat, bytes := a.cadBytes.toNat,
                phase := a.phase.toNat, jitter := a.jitter.toNat, idleLimit := a.idleLimit.toNat,
                nextDue := k.build, empties := 0 } }
        exec (.admitFlow a) s = .next (State.replied
          { s with
            free := drawn
            store :=
              { modems := tabPut s.store.modems mi { m with flowCount := m.flowCount + 1 }
                flows := tabPut s.store.flows ix f
                tagMap := tabPut s.store.tagMap a.tag.toNat (.bound ix) } }
          0x07 .done (be2 ix)))

/-- REMOVE FLOW: UNKNOWN for a tag that is not BOUND; else, with no map BUILDING or SEALING, the record
is freed, its pending entries become orphans, the tag is DRAINING with their number or FREE with none,
its modem has one flow fewer, and its ready list and attention entries go, as do its TAKEs and GIVEs
that wait in the transmit queue; a notice in transmission runs on. A sweep step in flight on the flow is
abandoned, and a RUNNING sweep begins the next one at once. With one map BUILDING or SEALING its turns
become orphans in it, but those whose TAKE with hold still waits are withdrawn: their entries, pending
entries and local holds go, a walk will not visit the flow, and a SEALING map that has no unconfirmed
turn left by this is handed over. (At a full map output queue that hand-over is LATE, as
`DeliverDeadlineByBuildState` has it.) -/
def Obligations.RemoveFlowFreesTheRecord : Prop :=
  ∀ (s : State) (tag : Tag), s.hostReady →
    (s.flowIx tag = none → exec (.removeFlow tag) s = .next (s.replied 0x08 .unknown [])) ∧
    (∀ f m, StoreLaw s → s.flow tag = some f → s.modemAt f.modemIx = some m →
      s.planner.building = none → s.planner.sealing = [] →
      let left := (s.tracker.list.filter (·.tag = tag)).length
      ∃ t, exec (.removeFlow tag) s = .next t ∧ t.flow tag = none ∧
        t.tagState tag = (if left = 0 then none else some (.draining left)) ∧
        t.tracker.list = s.tracker.list.map
          (fun e => if e.tag = tag then { e with orphan := true } else e) ∧
        t.modemAt f.modemIx = some { m with flowCount := m.flowCount - 1 } ∧
        t.planner.ready.get f.cls = (s.planner.ready.get f.cls).filter (· ≠ tag) ∧
        t.port.attention = s.port.attention.filter (·.tag ≠ tag) ∧
        t.link.queue = s.link.queue.filter (!isTakeOrGive tag ·) ∧ t.link.inTx = s.link.inTx ∧
        t.port.slot = .answered ⟨0x08, .done, []⟩ ∧
        (s.sweep.step ≠ some ⟨some tag⟩ → t.sweep = s.sweep) ∧
        (s.sweep.step = some ⟨some tag⟩ → s.sweep.state = .running →
          let at_ := if s.sweep.cursor < 8191 then s.sweep.cursor + 1 else 0
          t.sweep = { s.sweep with
            abandoned := bump s.sweep.abandoned 1
            cursor := at_
            pass := if s.sweep.cursor < 8191 then s.sweep.pass else s.sweep.pass + 1
            step := some ⟨(tabGet t.store.flows at_).map (·.tag)⟩ })) ∧
    (∀ f m x, StoreLaw s → s.flow tag = some f → s.modemAt f.modemIx = some m →
      ((∃ b, s.planner.building = some b ∧ b.map = x) ∧ s.planner.sealing = [] ∨
        s.planner.building = none ∧ s.planner.sealing = [x] ∧ s.mapPort.queue.length < 4) →
      let stranded (slot : Nat) : Bool := x.entries.any fun e =>
        e.start == slot && e.tag == tag && (e.kind == .data || e.kind == .cadence) && e.hold
          && e.fate == .queued
      let orphaned (m : TurnMap) : TurnMap :=
        { m with entries := m.entries.map fun e =>
            if e.tag = tag ∧ (e.kind = .data ∨ e.kind = .cadence) then { e with orphan := true }
            else e }
      let x' := orphaned { x with entries := x.entries.filter (!stranded ·.start) }
      let stays (e : PendingEntry) : Bool :=
        !(e.chan == x.name.chan && e.period == x.name.period.truncate 16 && stranded e.slot)
      let left := (s.tracker.list.filter fun e => e.tag == tag && stays e).length
      ∃ t, exec (.removeFlow tag) s = .next t ∧ t.flow tag = none ∧
        t.tagState tag = (if left = 0 then none else some (.draining left)) ∧
        t.tracker.list = (s.tracker.list.filter stays).map
          (fun e => if e.tag = tag then { e with orphan := true } else e) ∧
        t.planner.localHolds = s.planner.localHolds.filter (fun h =>
          !(h.turn.chan == x.name.chan && h.turn.period == x.name.period && stranded h.turn.slot)) ∧
        t.modemAt f.modemIx = some { m with flowCount := m.flowCount - 1 } ∧
        t.link.queue = s.link.queue.filter (!isTakeOrGive tag ·) ∧ t.link.inTx = s.link.inTx ∧
        t.port.slot = .answered ⟨0x08, .done, []⟩ ∧
        (∀ b, s.planner.building = some b →
          t.planner.building = some { b with
            map := x'
            phase :=
              match b.phase with
              | .cadence due => .cadence (due.filter (· ≠ tag))
              | .walk cursor visits classes => .walk cursor (visits.filter (· ≠ tag)) classes
              | p => p } ∧
          t.planner.sealing = [] ∧ t.mapPort.queue = s.mapPort.queue.map orphaned) ∧
        (s.planner.building = none →
          ((∃ e ∈ x'.entries, e.unconfirmed = true) →
            t.planner.sealing = [x'] ∧ t.mapPort.queue = s.mapPort.queue.map orphaned) ∧
          ((∃ e ∈ x.entries, stranded e.start = true) → (∀ e ∈ x'.entries, e.unconfirmed = false) →
            t.planner.sealing = [] ∧ t.mapPort.queue = s.mapPort.queue.map orphaned ++ [x'] ∧
            (t.chans.get x.name.chan).maps.handed =
              bump (s.chans.get x.name.chan).maps.handed 1)))

/-- REVIVE FLOW sets a DORMANT bid flow ACTIVE with its credit full, answers BAD_FIELD for any other flow
and UNKNOWN for no flow; READ FLOW answers what the tag map and the record hold (the body's layout is
log 25). -/
def Obligations.FlowRevivedAndRead : Prop :=
  ∀ (s : State) (tag : Tag), s.hostReady →
    (s.flow tag = none → exec (.reviveFlow tag) s = .next (s.replied 0x09 .unknown [])) ∧
    (s.tagState tag = none → exec (.readFlow tag) s = .next (s.replied 0x0A .unknown [])) ∧
    (∀ n, s.tagState tag = some (.draining n) →
      exec (.readFlow tag) s = .next (s.replied 0x0A .done ([2] ++ be2 n))) ∧
    (∀ ix f, s.flowIx tag = some ix → tabGet s.store.flows ix = some f →
      (f.state ≠ .dormant ∨ f.cadence ≠ none →
        exec (.reviveFlow tag) s = .next (s.replied 0x09 .badField [0, 3])) ∧
      (f.state = .dormant → f.cadence = none → f.outstanding = 0 → s.isReady f = false →
        let g := { f with
          state := .active, credit := f.ceiling, lastBeat := s.time.beat,
          lastActivity := s.time.beat }
        exec (.reviveFlow tag) s = .next (State.replied
          { s with store := { s.store with flows := tabPut s.store.flows ix g } }
          0x09 .done [])) ∧
      exec (.readFlow tag) s = .next (s.replied 0x0A .done
        ([1] ++ be2 ix ++ f.body ++ f.cadenceBody ++ be4 (f.outstanding - f.tentative)
          ++ flag (s.spanningActive f) ++ flag (s.isReady f))))

/-- READ CHANNEL, READ PEERS, READ STATUS and READ FAULTS answer from the state as it stands. They change
nothing, but that READ STATUS clears the latched causes after it has formed its answer. (The layouts of
the bodies are log 25, the step in flight that READ STATUS leaves out is log 44, a channel with more than
255 maps log 43, and the order of READ CHANNEL's maps is a free choice, log 15; a number both before the
oldest and not before the counter is log 46.) On a ring that keeps its
law READ FAULTS answers up to four records from the number asked, from the oldest when the number is
before it, and none from the counter's value on. -/
def Obligations.ReadsAnswerFromTheState : Prop :=
  ((∀ (s : State) (b : Byte), s.hostReady →
      (3 < b.toNat → exec (.readChannel b) s = .next (s.replied 0x0B .badField [0, 3])) ∧
      (∀ c : Chan, b.toNat = c.val →
        ∃ maps drawn, maps.Perm (s.existing c) ∧
          exec (.readChannel b) s = .next (State.replied { s with free := drawn } 0x0B .done
            (s.channelBody c maps))) ∧
      exec .readPeers s = .next (s.replied 0x0C .done s.peersBody)) ∧
    (∀ (s : State) (asked : BitVec 32), s.port.slot = .ready →
      let after := { s.port with taken := bump s.port.taken 1 }
      exec .readStatus s = .next
        { s with
          out := { s.out with statusByte := 0 }
          port := { after with
            latched := 0
            slot := .answered ⟨0x0D, .done, State.statusBody { s with port := after }⟩ } } ∧
      exec (.readFaults asked) s = .next
        (s.replied 0x0E .done
          ([byteOf s.health.ring.length, byteOf (faultsFrom s.health.ring asked).length]
            ++ be4 (oldestSeq s.health.ring) ++ be4 s.health.seq.toNat ++ be4 s.health.replaced
            ++ (faultsFrom s.health.ring asked).flatMap faultBytes)))) ∧
  (∀ (s : State) (asked : BitVec 32), RingLaw s →
      (s.health.ring = [] → faultsFrom s.health.ring asked = []) ∧
      (∀ i < s.health.ring.length,
        asked = s.health.seq - BitVec.ofNat 32 (s.health.ring.length - i) →
        faultsFrom s.health.ring asked = (s.health.ring.drop i).take 4) ∧
      (∀ r, s.health.ring.head? = some r → before asked r.seq = true →
        faultsFrom s.health.ring asked = s.health.ring.take 4) ∧
      ((s.health.seq = asked ∨ before s.health.seq asked = true) → s.health.ring ≠ [] →
        (∀ r ∈ s.health.ring, before asked r.seq = false) → faultsFrom s.health.ring asked = []))

/-- TAKE ATTENTION and TAKE ARRIVALS hand out and remove up to 8 and 4 of the oldest entries; SET EVENT
MASK sets the seven causes; SWEEP RESTART sets the cursor to 0, and a step in flight ends without its
changes; a RUNNING sweep begins a step at record 0 at once, unless a map is BUILDING (log 29). -/
def Obligations.HostQueuesMaskAndSweepRestart : Prop :=
  ∀ s : State, s.hostReady →
    exec .takeAttention s = .next (State.replied
      { s with port := { s.port with attention := s.port.attention.drop 8 } } 0x10 .done
      ([byteOf (s.port.attention.take 8).length, byteOf (s.port.attention.drop 8).length]
        ++ (s.port.attention.take 8).flatMap attentionBytes)) ∧
    exec .takeArrivals s = .next (State.replied
      { s with port := { s.port with arrivals := s.port.arrivals.drop 4 } } 0x11 .done
      ([byteOf (s.port.arrivals.take 4).length, byteOf (s.port.arrivals.drop 4).length]
        ++ (s.port.arrivals.take 4).flatMap arrivalBytes)) ∧
    (∀ causes : Byte,
      exec (.setEventMask causes) s = .next (State.replied
        { s with port := { s.port with mask := causes.truncate 7 } } 0x12 .done
        [(causes.truncate 7 : BitVec 7).zeroExtend 8])) ∧
    (let ended := { s.sweep with
        cursor := 0
        step := none
        abandoned :=
          if s.sweep.step = none then s.sweep.abandoned else bump s.sweep.abandoned 1 }
     (s.sweep.state = .running → s.planner.building = none →
        exec .sweepRestart s = .next (State.replied
          { s with sweep := { ended with
            step := some ⟨(tabGet s.store.flows 0).map (·.tag)⟩ } } 0x13 .done [])) ∧
     (s.sweep.state ≠ .running ∨ s.planner.building ≠ none →
        exec .sweepRestart s = .next (State.replied { s with sweep := ended } 0x13 .done [])))

/-- R156: CLEAR FAULTS empties the fault ring and changes nothing else; in START it answers
NOT_SERVING. -/
def Obligations.ClearFaultsEmptiesTheRing : Prop :=
  ∀ s : State, s.port.slot = .ready →
    (s.life = .start → exec .clearFaults s = .next (s.replied 0x0F .notServing [])) ∧
    (s.life ≠ .start → exec .clearFaults s = .next (State.replied
      { s with health := { s.health with ring := [] } } 0x0F .done []))

end
end

