-- ==== Sys2Proof/Laws/State.lean ====
section
/-! SUPPORT. One lemma per field per update of the state, each true by rfl. -/

namespace Sys2Proof.Machine

@[simp] theorem modTime_life (s : State) (g : TimeUnit → TimeUnit) : (s.modTime g).life = s.life := rfl
@[simp] theorem modTime_station (s : State) (g : TimeUnit → TimeUnit) : (s.modTime g).station = s.station := rfl
@[simp] theorem modTime_accepted (s : State) (g : TimeUnit → TimeUnit) : (s.modTime g).accepted = s.accepted := rfl
@[simp] theorem modTime_listenEnd (s : State) (g : TimeUnit → TimeUnit) : (s.modTime g).listenEnd = s.listenEnd := rfl
@[simp] theorem modTime_time (s : State) (g : TimeUnit → TimeUnit) : (s.modTime g).time = g s.time := rfl
@[simp] theorem modTime_chans (s : State) (g : TimeUnit → TimeUnit) : (s.modTime g).chans = s.chans := rfl
@[simp] theorem modTime_store (s : State) (g : TimeUnit → TimeUnit) : (s.modTime g).store = s.store := rfl
@[simp] theorem modTime_planner (s : State) (g : TimeUnit → TimeUnit) : (s.modTime g).planner = s.planner := rfl
@[simp] theorem modTime_mapPort (s : State) (g : TimeUnit → TimeUnit) : (s.modTime g).mapPort = s.mapPort := rfl
@[simp] theorem modTime_link (s : State) (g : TimeUnit → TimeUnit) : (s.modTime g).link = s.link := rfl
@[simp] theorem modTime_tracker (s : State) (g : TimeUnit → TimeUnit) : (s.modTime g).tracker = s.tracker := rfl
@[simp] theorem modTime_health (s : State) (g : TimeUnit → TimeUnit) : (s.modTime g).health = s.health := rfl
@[simp] theorem modTime_sweep (s : State) (g : TimeUnit → TimeUnit) : (s.modTime g).sweep = s.sweep := rfl
@[simp] theorem modTime_port (s : State) (g : TimeUnit → TimeUnit) : (s.modTime g).port = s.port := rfl
@[simp] theorem modTime_out (s : State) (g : TimeUnit → TimeUnit) : (s.modTime g).out = s.out := rfl
@[simp] theorem modTime_free (s : State) (g : TimeUnit → TimeUnit) : (s.modTime g).free = s.free := rfl
@[simp] theorem modTime_pending (s : State) (g : TimeUnit → TimeUnit) : (s.modTime g).pending = s.pending := rfl

@[simp] theorem modStore_life (s : State) (g : FlowStore → FlowStore) : (s.modStore g).life = s.life := rfl
@[simp] theorem modStore_station (s : State) (g : FlowStore → FlowStore) : (s.modStore g).station = s.station := rfl
@[simp] theorem modStore_accepted (s : State) (g : FlowStore → FlowStore) : (s.modStore g).accepted = s.accepted := rfl
@[simp] theorem modStore_listenEnd (s : State) (g : FlowStore → FlowStore) : (s.modStore g).listenEnd = s.listenEnd := rfl
@[simp] theorem modStore_time (s : State) (g : FlowStore → FlowStore) : (s.modStore g).time = s.time := rfl
@[simp] theorem modStore_chans (s : State) (g : FlowStore → FlowStore) : (s.modStore g).chans = s.chans := rfl
@[simp] theorem modStore_store (s : State) (g : FlowStore → FlowStore) : (s.modStore g).store = g s.store := rfl
@[simp] theorem modStore_planner (s : State) (g : FlowStore → FlowStore) : (s.modStore g).planner = s.planner := rfl
@[simp] theorem modStore_mapPort (s : State) (g : FlowStore → FlowStore) : (s.modStore g).mapPort = s.mapPort := rfl
@[simp] theorem modStore_link (s : State) (g : FlowStore → FlowStore) : (s.modStore g).link = s.link := rfl
@[simp] theorem modStore_tracker (s : State) (g : FlowStore → FlowStore) : (s.modStore g).tracker = s.tracker := rfl
@[simp] theorem modStore_health (s : State) (g : FlowStore → FlowStore) : (s.modStore g).health = s.health := rfl
@[simp] theorem modStore_sweep (s : State) (g : FlowStore → FlowStore) : (s.modStore g).sweep = s.sweep := rfl
@[simp] theorem modStore_port (s : State) (g : FlowStore → FlowStore) : (s.modStore g).port = s.port := rfl
@[simp] theorem modStore_out (s : State) (g : FlowStore → FlowStore) : (s.modStore g).out = s.out := rfl
@[simp] theorem modStore_free (s : State) (g : FlowStore → FlowStore) : (s.modStore g).free = s.free := rfl
@[simp] theorem modStore_pending (s : State) (g : FlowStore → FlowStore) : (s.modStore g).pending = s.pending := rfl

@[simp] theorem modPlanner_life (s : State) (g : Planner → Planner) : (s.modPlanner g).life = s.life := rfl
@[simp] theorem modPlanner_station (s : State) (g : Planner → Planner) : (s.modPlanner g).station = s.station := rfl
@[simp] theorem modPlanner_accepted (s : State) (g : Planner → Planner) : (s.modPlanner g).accepted = s.accepted := rfl
@[simp] theorem modPlanner_listenEnd (s : State) (g : Planner → Planner) : (s.modPlanner g).listenEnd = s.listenEnd := rfl
@[simp] theorem modPlanner_time (s : State) (g : Planner → Planner) : (s.modPlanner g).time = s.time := rfl
@[simp] theorem modPlanner_chans (s : State) (g : Planner → Planner) : (s.modPlanner g).chans = s.chans := rfl
@[simp] theorem modPlanner_store (s : State) (g : Planner → Planner) : (s.modPlanner g).store = s.store := rfl
@[simp] theorem modPlanner_planner (s : State) (g : Planner → Planner) : (s.modPlanner g).planner = g s.planner := rfl
@[simp] theorem modPlanner_mapPort (s : State) (g : Planner → Planner) : (s.modPlanner g).mapPort = s.mapPort := rfl
@[simp] theorem modPlanner_link (s : State) (g : Planner → Planner) : (s.modPlanner g).link = s.link := rfl
@[simp] theorem modPlanner_tracker (s : State) (g : Planner → Planner) : (s.modPlanner g).tracker = s.tracker := rfl
@[simp] theorem modPlanner_health (s : State) (g : Planner → Planner) : (s.modPlanner g).health = s.health := rfl
@[simp] theorem modPlanner_sweep (s : State) (g : Planner → Planner) : (s.modPlanner g).sweep = s.sweep := rfl
@[simp] theorem modPlanner_port (s : State) (g : Planner → Planner) : (s.modPlanner g).port = s.port := rfl
@[simp] theorem modPlanner_out (s : State) (g : Planner → Planner) : (s.modPlanner g).out = s.out := rfl
@[simp] theorem modPlanner_free (s : State) (g : Planner → Planner) : (s.modPlanner g).free = s.free := rfl
@[simp] theorem modPlanner_pending (s : State) (g : Planner → Planner) : (s.modPlanner g).pending = s.pending := rfl

@[simp] theorem modLink_life (s : State) (g : Link → Link) : (s.modLink g).life = s.life := rfl
@[simp] theorem modLink_station (s : State) (g : Link → Link) : (s.modLink g).station = s.station := rfl
@[simp] theorem modLink_accepted (s : State) (g : Link → Link) : (s.modLink g).accepted = s.accepted := rfl
@[simp] theorem modLink_listenEnd (s : State) (g : Link → Link) : (s.modLink g).listenEnd = s.listenEnd := rfl
@[simp] theorem modLink_time (s : State) (g : Link → Link) : (s.modLink g).time = s.time := rfl
@[simp] theorem modLink_chans (s : State) (g : Link → Link) : (s.modLink g).chans = s.chans := rfl
@[simp] theorem modLink_store (s : State) (g : Link → Link) : (s.modLink g).store = s.store := rfl
@[simp] theorem modLink_planner (s : State) (g : Link → Link) : (s.modLink g).planner = s.planner := rfl
@[simp] theorem modLink_mapPort (s : State) (g : Link → Link) : (s.modLink g).mapPort = s.mapPort := rfl
@[simp] theorem modLink_link (s : State) (g : Link → Link) : (s.modLink g).link = g s.link := rfl
@[simp] theorem modLink_tracker (s : State) (g : Link → Link) : (s.modLink g).tracker = s.tracker := rfl
@[simp] theorem modLink_health (s : State) (g : Link → Link) : (s.modLink g).health = s.health := rfl
@[simp] theorem modLink_sweep (s : State) (g : Link → Link) : (s.modLink g).sweep = s.sweep := rfl
@[simp] theorem modLink_port (s : State) (g : Link → Link) : (s.modLink g).port = s.port := rfl
@[simp] theorem modLink_out (s : State) (g : Link → Link) : (s.modLink g).out = s.out := rfl
@[simp] theorem modLink_free (s : State) (g : Link → Link) : (s.modLink g).free = s.free := rfl
@[simp] theorem modLink_pending (s : State) (g : Link → Link) : (s.modLink g).pending = s.pending := rfl

@[simp] theorem modLinkCounters_life (s : State) (g : LinkCounters → LinkCounters) : (s.modLinkCounters g).life = s.life := rfl
@[simp] theorem modLinkCounters_station (s : State) (g : LinkCounters → LinkCounters) : (s.modLinkCounters g).station = s.station := rfl
@[simp] theorem modLinkCounters_accepted (s : State) (g : LinkCounters → LinkCounters) : (s.modLinkCounters g).accepted = s.accepted := rfl
@[simp] theorem modLinkCounters_listenEnd (s : State) (g : LinkCounters → LinkCounters) : (s.modLinkCounters g).listenEnd = s.listenEnd := rfl
@[simp] theorem modLinkCounters_time (s : State) (g : LinkCounters → LinkCounters) : (s.modLinkCounters g).time = s.time := rfl
@[simp] theorem modLinkCounters_chans (s : State) (g : LinkCounters → LinkCounters) : (s.modLinkCounters g).chans = s.chans := rfl
@[simp] theorem modLinkCounters_store (s : State) (g : LinkCounters → LinkCounters) : (s.modLinkCounters g).store = s.store := rfl
@[simp] theorem modLinkCounters_planner (s : State) (g : LinkCounters → LinkCounters) : (s.modLinkCounters g).planner = s.planner := rfl
@[simp] theorem modLinkCounters_mapPort (s : State) (g : LinkCounters → LinkCounters) : (s.modLinkCounters g).mapPort = s.mapPort := rfl
@[simp] theorem modLinkCounters_link (s : State) (g : LinkCounters → LinkCounters) : (s.modLinkCounters g).link = { s.link with counters := g s.link.counters } := rfl
@[simp] theorem modLinkCounters_tracker (s : State) (g : LinkCounters → LinkCounters) : (s.modLinkCounters g).tracker = s.tracker := rfl
@[simp] theorem modLinkCounters_health (s : State) (g : LinkCounters → LinkCounters) : (s.modLinkCounters g).health = s.health := rfl
@[simp] theorem modLinkCounters_sweep (s : State) (g : LinkCounters → LinkCounters) : (s.modLinkCounters g).sweep = s.sweep := rfl
@[simp] theorem modLinkCounters_port (s : State) (g : LinkCounters → LinkCounters) : (s.modLinkCounters g).port = s.port := rfl
@[simp] theorem modLinkCounters_out (s : State) (g : LinkCounters → LinkCounters) : (s.modLinkCounters g).out = s.out := rfl
@[simp] theorem modLinkCounters_free (s : State) (g : LinkCounters → LinkCounters) : (s.modLinkCounters g).free = s.free := rfl
@[simp] theorem modLinkCounters_pending (s : State) (g : LinkCounters → LinkCounters) : (s.modLinkCounters g).pending = s.pending := rfl

@[simp] theorem modTracker_life (s : State) (g : Tracker → Tracker) : (s.modTracker g).life = s.life := rfl
@[simp] theorem modTracker_station (s : State) (g : Tracker → Tracker) : (s.modTracker g).station = s.station := rfl
@[simp] theorem modTracker_accepted (s : State) (g : Tracker → Tracker) : (s.modTracker g).accepted = s.accepted := rfl
@[simp] theorem modTracker_listenEnd (s : State) (g : Tracker → Tracker) : (s.modTracker g).listenEnd = s.listenEnd := rfl
@[simp] theorem modTracker_time (s : State) (g : Tracker → Tracker) : (s.modTracker g).time = s.time := rfl
@[simp] theorem modTracker_chans (s : State) (g : Tracker → Tracker) : (s.modTracker g).chans = s.chans := rfl
@[simp] theorem modTracker_store (s : State) (g : Tracker → Tracker) : (s.modTracker g).store = s.store := rfl
@[simp] theorem modTracker_planner (s : State) (g : Tracker → Tracker) : (s.modTracker g).planner = s.planner := rfl
@[simp] theorem modTracker_mapPort (s : State) (g : Tracker → Tracker) : (s.modTracker g).mapPort = s.mapPort := rfl
@[simp] theorem modTracker_link (s : State) (g : Tracker → Tracker) : (s.modTracker g).link = s.link := rfl
@[simp] theorem modTracker_tracker (s : State) (g : Tracker → Tracker) : (s.modTracker g).tracker = g s.tracker := rfl
@[simp] theorem modTracker_health (s : State) (g : Tracker → Tracker) : (s.modTracker g).health = s.health := rfl
@[simp] theorem modTracker_sweep (s : State) (g : Tracker → Tracker) : (s.modTracker g).sweep = s.sweep := rfl
@[simp] theorem modTracker_port (s : State) (g : Tracker → Tracker) : (s.modTracker g).port = s.port := rfl
@[simp] theorem modTracker_out (s : State) (g : Tracker → Tracker) : (s.modTracker g).out = s.out := rfl
@[simp] theorem modTracker_free (s : State) (g : Tracker → Tracker) : (s.modTracker g).free = s.free := rfl
@[simp] theorem modTracker_pending (s : State) (g : Tracker → Tracker) : (s.modTracker g).pending = s.pending := rfl

@[simp] theorem modHealth_life (s : State) (g : Health → Health) : (s.modHealth g).life = s.life := rfl
@[simp] theorem modHealth_station (s : State) (g : Health → Health) : (s.modHealth g).station = s.station := rfl
@[simp] theorem modHealth_accepted (s : State) (g : Health → Health) : (s.modHealth g).accepted = s.accepted := rfl
@[simp] theorem modHealth_listenEnd (s : State) (g : Health → Health) : (s.modHealth g).listenEnd = s.listenEnd := rfl
@[simp] theorem modHealth_time (s : State) (g : Health → Health) : (s.modHealth g).time = s.time := rfl
@[simp] theorem modHealth_chans (s : State) (g : Health → Health) : (s.modHealth g).chans = s.chans := rfl
@[simp] theorem modHealth_store (s : State) (g : Health → Health) : (s.modHealth g).store = s.store := rfl
@[simp] theorem modHealth_planner (s : State) (g : Health → Health) : (s.modHealth g).planner = s.planner := rfl
@[simp] theorem modHealth_mapPort (s : State) (g : Health → Health) : (s.modHealth g).mapPort = s.mapPort := rfl
@[simp] theorem modHealth_link (s : State) (g : Health → Health) : (s.modHealth g).link = s.link := rfl
@[simp] theorem modHealth_tracker (s : State) (g : Health → Health) : (s.modHealth g).tracker = s.tracker := rfl
@[simp] theorem modHealth_health (s : State) (g : Health → Health) : (s.modHealth g).health = g s.health := rfl
@[simp] theorem modHealth_sweep (s : State) (g : Health → Health) : (s.modHealth g).sweep = s.sweep := rfl
@[simp] theorem modHealth_port (s : State) (g : Health → Health) : (s.modHealth g).port = s.port := rfl
@[simp] theorem modHealth_out (s : State) (g : Health → Health) : (s.modHealth g).out = s.out := rfl
@[simp] theorem modHealth_free (s : State) (g : Health → Health) : (s.modHealth g).free = s.free := rfl
@[simp] theorem modHealth_pending (s : State) (g : Health → Health) : (s.modHealth g).pending = s.pending := rfl

@[simp] theorem modSweep_life (s : State) (g : Sweep → Sweep) : (s.modSweep g).life = s.life := rfl
@[simp] theorem modSweep_station (s : State) (g : Sweep → Sweep) : (s.modSweep g).station = s.station := rfl
@[simp] theorem modSweep_accepted (s : State) (g : Sweep → Sweep) : (s.modSweep g).accepted = s.accepted := rfl
@[simp] theorem modSweep_listenEnd (s : State) (g : Sweep → Sweep) : (s.modSweep g).listenEnd = s.listenEnd := rfl
@[simp] theorem modSweep_time (s : State) (g : Sweep → Sweep) : (s.modSweep g).time = s.time := rfl
@[simp] theorem modSweep_chans (s : State) (g : Sweep → Sweep) : (s.modSweep g).chans = s.chans := rfl
@[simp] theorem modSweep_store (s : State) (g : Sweep → Sweep) : (s.modSweep g).store = s.store := rfl
@[simp] theorem modSweep_planner (s : State) (g : Sweep → Sweep) : (s.modSweep g).planner = s.planner := rfl
@[simp] theorem modSweep_mapPort (s : State) (g : Sweep → Sweep) : (s.modSweep g).mapPort = s.mapPort := rfl
@[simp] theorem modSweep_link (s : State) (g : Sweep → Sweep) : (s.modSweep g).link = s.link := rfl
@[simp] theorem modSweep_tracker (s : State) (g : Sweep → Sweep) : (s.modSweep g).tracker = s.tracker := rfl
@[simp] theorem modSweep_health (s : State) (g : Sweep → Sweep) : (s.modSweep g).health = s.health := rfl
@[simp] theorem modSweep_sweep (s : State) (g : Sweep → Sweep) : (s.modSweep g).sweep = g s.sweep := rfl
@[simp] theorem modSweep_port (s : State) (g : Sweep → Sweep) : (s.modSweep g).port = s.port := rfl
@[simp] theorem modSweep_out (s : State) (g : Sweep → Sweep) : (s.modSweep g).out = s.out := rfl
@[simp] theorem modSweep_free (s : State) (g : Sweep → Sweep) : (s.modSweep g).free = s.free := rfl
@[simp] theorem modSweep_pending (s : State) (g : Sweep → Sweep) : (s.modSweep g).pending = s.pending := rfl

@[simp] theorem modPort_life (s : State) (g : Port → Port) : (s.modPort g).life = s.life := rfl
@[simp] theorem modPort_station (s : State) (g : Port → Port) : (s.modPort g).station = s.station := rfl
@[simp] theorem modPort_accepted (s : State) (g : Port → Port) : (s.modPort g).accepted = s.accepted := rfl
@[simp] theorem modPort_listenEnd (s : State) (g : Port → Port) : (s.modPort g).listenEnd = s.listenEnd := rfl
@[simp] theorem modPort_time (s : State) (g : Port → Port) : (s.modPort g).time = s.time := rfl
@[simp] theorem modPort_chans (s : State) (g : Port → Port) : (s.modPort g).chans = s.chans := rfl
@[simp] theorem modPort_store (s : State) (g : Port → Port) : (s.modPort g).store = s.store := rfl
@[simp] theorem modPort_planner (s : State) (g : Port → Port) : (s.modPort g).planner = s.planner := rfl
@[simp] theorem modPort_mapPort (s : State) (g : Port → Port) : (s.modPort g).mapPort = s.mapPort := rfl
@[simp] theorem modPort_link (s : State) (g : Port → Port) : (s.modPort g).link = s.link := rfl
@[simp] theorem modPort_tracker (s : State) (g : Port → Port) : (s.modPort g).tracker = s.tracker := rfl
@[simp] theorem modPort_health (s : State) (g : Port → Port) : (s.modPort g).health = s.health := rfl
@[simp] theorem modPort_sweep (s : State) (g : Port → Port) : (s.modPort g).sweep = s.sweep := rfl
@[simp] theorem modPort_port (s : State) (g : Port → Port) : (s.modPort g).port = g s.port := rfl
@[simp] theorem modPort_out (s : State) (g : Port → Port) : (s.modPort g).out = s.out := rfl
@[simp] theorem modPort_free (s : State) (g : Port → Port) : (s.modPort g).free = s.free := rfl
@[simp] theorem modPort_pending (s : State) (g : Port → Port) : (s.modPort g).pending = s.pending := rfl

@[simp] theorem modChan_life (s : State) (c : Chan) (g : Channel → Channel) : (s.modChan c g).life = s.life := rfl
@[simp] theorem modChan_station (s : State) (c : Chan) (g : Channel → Channel) : (s.modChan c g).station = s.station := rfl
@[simp] theorem modChan_accepted (s : State) (c : Chan) (g : Channel → Channel) : (s.modChan c g).accepted = s.accepted := rfl
@[simp] theorem modChan_listenEnd (s : State) (c : Chan) (g : Channel → Channel) : (s.modChan c g).listenEnd = s.listenEnd := rfl
@[simp] theorem modChan_time (s : State) (c : Chan) (g : Channel → Channel) : (s.modChan c g).time = s.time := rfl
@[simp] theorem modChan_chans (s : State) (c : Chan) (g : Channel → Channel) : (s.modChan c g).chans = s.chans.set c (g (s.chans.get c)) := rfl
@[simp] theorem modChan_store (s : State) (c : Chan) (g : Channel → Channel) : (s.modChan c g).store = s.store := rfl
@[simp] theorem modChan_planner (s : State) (c : Chan) (g : Channel → Channel) : (s.modChan c g).planner = s.planner := rfl
@[simp] theorem modChan_mapPort (s : State) (c : Chan) (g : Channel → Channel) : (s.modChan c g).mapPort = s.mapPort := rfl
@[simp] theorem modChan_link (s : State) (c : Chan) (g : Channel → Channel) : (s.modChan c g).link = s.link := rfl
@[simp] theorem modChan_tracker (s : State) (c : Chan) (g : Channel → Channel) : (s.modChan c g).tracker = s.tracker := rfl
@[simp] theorem modChan_health (s : State) (c : Chan) (g : Channel → Channel) : (s.modChan c g).health = s.health := rfl
@[simp] theorem modChan_sweep (s : State) (c : Chan) (g : Channel → Channel) : (s.modChan c g).sweep = s.sweep := rfl
@[simp] theorem modChan_port (s : State) (c : Chan) (g : Channel → Channel) : (s.modChan c g).port = s.port := rfl
@[simp] theorem modChan_out (s : State) (c : Chan) (g : Channel → Channel) : (s.modChan c g).out = s.out := rfl
@[simp] theorem modChan_free (s : State) (c : Chan) (g : Channel → Channel) : (s.modChan c g).free = s.free := rfl
@[simp] theorem modChan_pending (s : State) (c : Chan) (g : Channel → Channel) : (s.modChan c g).pending = s.pending := rfl

@[simp] theorem modBids_life (s : State) (c : Chan) (g : BidCounters → BidCounters) : (s.modBids c g).life = s.life := rfl
@[simp] theorem modBids_station (s : State) (c : Chan) (g : BidCounters → BidCounters) : (s.modBids c g).station = s.station := rfl
@[simp] theorem modBids_accepted (s : State) (c : Chan) (g : BidCounters → BidCounters) : (s.modBids c g).accepted = s.accepted := rfl
@[simp] theorem modBids_listenEnd (s : State) (c : Chan) (g : BidCounters → BidCounters) : (s.modBids c g).listenEnd = s.listenEnd := rfl
@[simp] theorem modBids_time (s : State) (c : Chan) (g : BidCounters → BidCounters) : (s.modBids c g).time = s.time := rfl
@[simp] theorem modBids_chans (s : State) (c : Chan) (g : BidCounters → BidCounters) : (s.modBids c g).chans = s.chans.set c { s.chans.get c with bids := g (s.chans.get c).bids } := rfl
@[simp] theorem modBids_store (s : State) (c : Chan) (g : BidCounters → BidCounters) : (s.modBids c g).store = s.store := rfl
@[simp] theorem modBids_planner (s : State) (c : Chan) (g : BidCounters → BidCounters) : (s.modBids c g).planner = s.planner := rfl
@[simp] theorem modBids_mapPort (s : State) (c : Chan) (g : BidCounters → BidCounters) : (s.modBids c g).mapPort = s.mapPort := rfl
@[simp] theorem modBids_link (s : State) (c : Chan) (g : BidCounters → BidCounters) : (s.modBids c g).link = s.link := rfl
@[simp] theorem modBids_tracker (s : State) (c : Chan) (g : BidCounters → BidCounters) : (s.modBids c g).tracker = s.tracker := rfl
@[simp] theorem modBids_health (s : State) (c : Chan) (g : BidCounters → BidCounters) : (s.modBids c g).health = s.health := rfl
@[simp] theorem modBids_sweep (s : State) (c : Chan) (g : BidCounters → BidCounters) : (s.modBids c g).sweep = s.sweep := rfl
@[simp] theorem modBids_port (s : State) (c : Chan) (g : BidCounters → BidCounters) : (s.modBids c g).port = s.port := rfl
@[simp] theorem modBids_out (s : State) (c : Chan) (g : BidCounters → BidCounters) : (s.modBids c g).out = s.out := rfl
@[simp] theorem modBids_free (s : State) (c : Chan) (g : BidCounters → BidCounters) : (s.modBids c g).free = s.free := rfl
@[simp] theorem modBids_pending (s : State) (c : Chan) (g : BidCounters → BidCounters) : (s.modBids c g).pending = s.pending := rfl

@[simp] theorem modMaps_life (s : State) (c : Chan) (g : MapCounters → MapCounters) : (s.modMaps c g).life = s.life := rfl
@[simp] theorem modMaps_station (s : State) (c : Chan) (g : MapCounters → MapCounters) : (s.modMaps c g).station = s.station := rfl
@[simp] theorem modMaps_accepted (s : State) (c : Chan) (g : MapCounters → MapCounters) : (s.modMaps c g).accepted = s.accepted := rfl
@[simp] theorem modMaps_listenEnd (s : State) (c : Chan) (g : MapCounters → MapCounters) : (s.modMaps c g).listenEnd = s.listenEnd := rfl
@[simp] theorem modMaps_time (s : State) (c : Chan) (g : MapCounters → MapCounters) : (s.modMaps c g).time = s.time := rfl
@[simp] theorem modMaps_chans (s : State) (c : Chan) (g : MapCounters → MapCounters) : (s.modMaps c g).chans = s.chans.set c { s.chans.get c with maps := g (s.chans.get c).maps } := rfl
@[simp] theorem modMaps_store (s : State) (c : Chan) (g : MapCounters → MapCounters) : (s.modMaps c g).store = s.store := rfl
@[simp] theorem modMaps_planner (s : State) (c : Chan) (g : MapCounters → MapCounters) : (s.modMaps c g).planner = s.planner := rfl
@[simp] theorem modMaps_mapPort (s : State) (c : Chan) (g : MapCounters → MapCounters) : (s.modMaps c g).mapPort = s.mapPort := rfl
@[simp] theorem modMaps_link (s : State) (c : Chan) (g : MapCounters → MapCounters) : (s.modMaps c g).link = s.link := rfl
@[simp] theorem modMaps_tracker (s : State) (c : Chan) (g : MapCounters → MapCounters) : (s.modMaps c g).tracker = s.tracker := rfl
@[simp] theorem modMaps_health (s : State) (c : Chan) (g : MapCounters → MapCounters) : (s.modMaps c g).health = s.health := rfl
@[simp] theorem modMaps_sweep (s : State) (c : Chan) (g : MapCounters → MapCounters) : (s.modMaps c g).sweep = s.sweep := rfl
@[simp] theorem modMaps_port (s : State) (c : Chan) (g : MapCounters → MapCounters) : (s.modMaps c g).port = s.port := rfl
@[simp] theorem modMaps_out (s : State) (c : Chan) (g : MapCounters → MapCounters) : (s.modMaps c g).out = s.out := rfl
@[simp] theorem modMaps_free (s : State) (c : Chan) (g : MapCounters → MapCounters) : (s.modMaps c g).free = s.free := rfl
@[simp] theorem modMaps_pending (s : State) (c : Chan) (g : MapCounters → MapCounters) : (s.modMaps c g).pending = s.pending := rfl

@[simp] theorem modCadence_life (s : State) (c : Chan) (g : CadenceCounters → CadenceCounters) : (s.modCadence c g).life = s.life := rfl
@[simp] theorem modCadence_station (s : State) (c : Chan) (g : CadenceCounters → CadenceCounters) : (s.modCadence c g).station = s.station := rfl
@[simp] theorem modCadence_accepted (s : State) (c : Chan) (g : CadenceCounters → CadenceCounters) : (s.modCadence c g).accepted = s.accepted := rfl
@[simp] theorem modCadence_listenEnd (s : State) (c : Chan) (g : CadenceCounters → CadenceCounters) : (s.modCadence c g).listenEnd = s.listenEnd := rfl
@[simp] theorem modCadence_time (s : State) (c : Chan) (g : CadenceCounters → CadenceCounters) : (s.modCadence c g).time = s.time := rfl
@[simp] theorem modCadence_chans (s : State) (c : Chan) (g : CadenceCounters → CadenceCounters) : (s.modCadence c g).chans = s.chans.set c { s.chans.get c with cadence := g (s.chans.get c).cadence } := rfl
@[simp] theorem modCadence_store (s : State) (c : Chan) (g : CadenceCounters → CadenceCounters) : (s.modCadence c g).store = s.store := rfl
@[simp] theorem modCadence_planner (s : State) (c : Chan) (g : CadenceCounters → CadenceCounters) : (s.modCadence c g).planner = s.planner := rfl
@[simp] theorem modCadence_mapPort (s : State) (c : Chan) (g : CadenceCounters → CadenceCounters) : (s.modCadence c g).mapPort = s.mapPort := rfl
@[simp] theorem modCadence_link (s : State) (c : Chan) (g : CadenceCounters → CadenceCounters) : (s.modCadence c g).link = s.link := rfl
@[simp] theorem modCadence_tracker (s : State) (c : Chan) (g : CadenceCounters → CadenceCounters) : (s.modCadence c g).tracker = s.tracker := rfl
@[simp] theorem modCadence_health (s : State) (c : Chan) (g : CadenceCounters → CadenceCounters) : (s.modCadence c g).health = s.health := rfl
@[simp] theorem modCadence_sweep (s : State) (c : Chan) (g : CadenceCounters → CadenceCounters) : (s.modCadence c g).sweep = s.sweep := rfl
@[simp] theorem modCadence_port (s : State) (c : Chan) (g : CadenceCounters → CadenceCounters) : (s.modCadence c g).port = s.port := rfl
@[simp] theorem modCadence_out (s : State) (c : Chan) (g : CadenceCounters → CadenceCounters) : (s.modCadence c g).out = s.out := rfl
@[simp] theorem modCadence_free (s : State) (c : Chan) (g : CadenceCounters → CadenceCounters) : (s.modCadence c g).free = s.free := rfl
@[simp] theorem modCadence_pending (s : State) (c : Chan) (g : CadenceCounters → CadenceCounters) : (s.modCadence c g).pending = s.pending := rfl

@[simp] theorem modOutcomes_life (s : State) (c : Chan) (g : OutcomeCounters → OutcomeCounters) : (s.modOutcomes c g).life = s.life := rfl
@[simp] theorem modOutcomes_station (s : State) (c : Chan) (g : OutcomeCounters → OutcomeCounters) : (s.modOutcomes c g).station = s.station := rfl
@[simp] theorem modOutcomes_accepted (s : State) (c : Chan) (g : OutcomeCounters → OutcomeCounters) : (s.modOutcomes c g).accepted = s.accepted := rfl
@[simp] theorem modOutcomes_listenEnd (s : State) (c : Chan) (g : OutcomeCounters → OutcomeCounters) : (s.modOutcomes c g).listenEnd = s.listenEnd := rfl
@[simp] theorem modOutcomes_time (s : State) (c : Chan) (g : OutcomeCounters → OutcomeCounters) : (s.modOutcomes c g).time = s.time := rfl
@[simp] theorem modOutcomes_chans (s : State) (c : Chan) (g : OutcomeCounters → OutcomeCounters) : (s.modOutcomes c g).chans = s.chans.set c { s.chans.get c with outcomes := g (s.chans.get c).outcomes } := rfl
@[simp] theorem modOutcomes_store (s : State) (c : Chan) (g : OutcomeCounters → OutcomeCounters) : (s.modOutcomes c g).store = s.store := rfl
@[simp] theorem modOutcomes_planner (s : State) (c : Chan) (g : OutcomeCounters → OutcomeCounters) : (s.modOutcomes c g).planner = s.planner := rfl
@[simp] theorem modOutcomes_mapPort (s : State) (c : Chan) (g : OutcomeCounters → OutcomeCounters) : (s.modOutcomes c g).mapPort = s.mapPort := rfl
@[simp] theorem modOutcomes_link (s : State) (c : Chan) (g : OutcomeCounters → OutcomeCounters) : (s.modOutcomes c g).link = s.link := rfl
@[simp] theorem modOutcomes_tracker (s : State) (c : Chan) (g : OutcomeCounters → OutcomeCounters) : (s.modOutcomes c g).tracker = s.tracker := rfl
@[simp] theorem modOutcomes_health (s : State) (c : Chan) (g : OutcomeCounters → OutcomeCounters) : (s.modOutcomes c g).health = s.health := rfl
@[simp] theorem modOutcomes_sweep (s : State) (c : Chan) (g : OutcomeCounters → OutcomeCounters) : (s.modOutcomes c g).sweep = s.sweep := rfl
@[simp] theorem modOutcomes_port (s : State) (c : Chan) (g : OutcomeCounters → OutcomeCounters) : (s.modOutcomes c g).port = s.port := rfl
@[simp] theorem modOutcomes_out (s : State) (c : Chan) (g : OutcomeCounters → OutcomeCounters) : (s.modOutcomes c g).out = s.out := rfl
@[simp] theorem modOutcomes_free (s : State) (c : Chan) (g : OutcomeCounters → OutcomeCounters) : (s.modOutcomes c g).free = s.free := rfl
@[simp] theorem modOutcomes_pending (s : State) (c : Chan) (g : OutcomeCounters → OutcomeCounters) : (s.modOutcomes c g).pending = s.pending := rfl

@[simp] theorem raise_life (s : State) (c : Cause) : (s.raise c).life = s.life := rfl
@[simp] theorem raise_station (s : State) (c : Cause) : (s.raise c).station = s.station := rfl
@[simp] theorem raise_accepted (s : State) (c : Cause) : (s.raise c).accepted = s.accepted := rfl
@[simp] theorem raise_listenEnd (s : State) (c : Cause) : (s.raise c).listenEnd = s.listenEnd := rfl
@[simp] theorem raise_time (s : State) (c : Cause) : (s.raise c).time = s.time := rfl
@[simp] theorem raise_chans (s : State) (c : Cause) : (s.raise c).chans = s.chans := rfl
@[simp] theorem raise_store (s : State) (c : Cause) : (s.raise c).store = s.store := rfl
@[simp] theorem raise_planner (s : State) (c : Cause) : (s.raise c).planner = s.planner := rfl
@[simp] theorem raise_mapPort (s : State) (c : Cause) : (s.raise c).mapPort = s.mapPort := rfl
@[simp] theorem raise_link (s : State) (c : Cause) : (s.raise c).link = s.link := rfl
@[simp] theorem raise_tracker (s : State) (c : Cause) : (s.raise c).tracker = s.tracker := rfl
@[simp] theorem raise_health (s : State) (c : Cause) : (s.raise c).health = s.health := rfl
@[simp] theorem raise_sweep (s : State) (c : Cause) : (s.raise c).sweep = s.sweep := rfl
@[simp] theorem raise_port (s : State) (c : Cause) : (s.raise c).port = { s.port with latched := s.port.latched ||| (causeBit c &&& s.port.mask) } := rfl
@[simp] theorem raise_out (s : State) (c : Cause) : (s.raise c).out = s.out := rfl
@[simp] theorem raise_free (s : State) (c : Cause) : (s.raise c).free = s.free := rfl
@[simp] theorem raise_pending (s : State) (c : Cause) : (s.raise c).pending = s.pending := rfl

@[simp] theorem setNow_life (s : State) (t : Tick) : (s.setNow t).life = s.life := rfl
@[simp] theorem setNow_station (s : State) (t : Tick) : (s.setNow t).station = s.station := rfl
@[simp] theorem setNow_accepted (s : State) (t : Tick) : (s.setNow t).accepted = s.accepted := rfl
@[simp] theorem setNow_listenEnd (s : State) (t : Tick) : (s.setNow t).listenEnd = s.listenEnd := rfl
@[simp] theorem setNow_time (s : State) (t : Tick) : (s.setNow t).time = { s.time with nodeTime := t } := rfl
@[simp] theorem setNow_chans (s : State) (t : Tick) : (s.setNow t).chans = s.chans := rfl
@[simp] theorem setNow_store (s : State) (t : Tick) : (s.setNow t).store = s.store := rfl
@[simp] theorem setNow_planner (s : State) (t : Tick) : (s.setNow t).planner = s.planner := rfl
@[simp] theorem setNow_mapPort (s : State) (t : Tick) : (s.setNow t).mapPort = s.mapPort := rfl
@[simp] theorem setNow_link (s : State) (t : Tick) : (s.setNow t).link = s.link := rfl
@[simp] theorem setNow_tracker (s : State) (t : Tick) :
    (s.setNow t).tracker = s.tracker.passing s.time.nodeTime (ahead s.time.nodeTime t) := rfl
@[simp] theorem setNow_health (s : State) (t : Tick) : (s.setNow t).health = s.health := rfl
@[simp] theorem setNow_sweep (s : State) (t : Tick) : (s.setNow t).sweep = s.sweep := rfl
@[simp] theorem setNow_port (s : State) (t : Tick) : (s.setNow t).port = s.port := rfl
@[simp] theorem setNow_out (s : State) (t : Tick) : (s.setNow t).out = s.out := rfl
@[simp] theorem setNow_free (s : State) (t : Tick) : (s.setNow t).free = s.free := rfl
@[simp] theorem setNow_pending (s : State) (t : Tick) : (s.setNow t).pending = s.pending := rfl

/-! ### Pending entries as node time moves: only `ended` changes, and it never becomes false again -/

@[simp] theorem endedBy_ended (e : PendingEntry) (base : Tick) (span : Nat) :
    (e.endedBy base span).ended = (e.ended || reaches base span e.endTick) := rfl
@[simp] theorem endedBy_tag (e : PendingEntry) (base : Tick) (span : Nat) :
    (e.endedBy base span).tag = e.tag := rfl
@[simp] theorem endedBy_orphan (e : PendingEntry) (base : Tick) (span : Nat) :
    (e.endedBy base span).orphan = e.orphan := rfl
@[simp] theorem endedBy_expiry (e : PendingEntry) (base : Tick) (span : Nat) :
    (e.endedBy base span).expiry = e.expiry := rfl
@[simp] theorem endedBy_isTurn (e : PendingEntry) (base : Tick) (span : Nat) (t : TurnKey) :
    (e.endedBy base span).isTurn t = e.isTurn t := rfl
@[simp] theorem endedBy_hasKey (e : PendingEntry) (base : Tick) (span : Nat) (r : OutcomeReport) :
    (e.endedBy base span).hasKey r = e.hasKey r := rfl
@[simp] theorem passing_list (tr : Tracker) (base : Tick) (span : Nat) :
    (tr.passing base span).list = tr.list.map (·.endedBy base span) := rfl
@[simp] theorem passing_arrivalsDropped (tr : Tracker) (base : Tick) (span : Nat) :
    (tr.passing base span).arrivalsDropped = tr.arrivalsDropped := rfl

/-! ### The four of one kind -/

@[simp] theorem quad_get_set_same {α : Type} (q : Quad α) (i : Fin 4) (a : α) :
    (q.set i a).get i = a := by
  match i with
  | 0 => rfl
  | 1 => rfl
  | 2 => rfl
  | 3 => rfl

theorem quad_get_set_other {α : Type} (q : Quad α) (i j : Fin 4) (a : α) (h : i ≠ j) :
    (q.set i a).get j = q.get j := by
  match i, j with
  | 0, 0 => exact absurd rfl h
  | 0, 1 => rfl
  | 0, 2 => rfl
  | 0, 3 => rfl
  | 1, 0 => rfl
  | 1, 1 => exact absurd rfl h
  | 1, 2 => rfl
  | 1, 3 => rfl
  | 2, 0 => rfl
  | 2, 1 => rfl
  | 2, 2 => exact absurd rfl h
  | 2, 3 => rfl
  | 3, 0 => rfl
  | 3, 1 => rfl
  | 3, 2 => rfl
  | 3, 3 => exact absurd rfl h

end Sys2Proof.Machine
end

