-- ==== Sys2Proof/Laws/Deadlines.lean ====
section
/-! SUPPORT. What the command of a deadline does when counting meets none before it. -/

namespace Sys2Proof.Machine

/-- Counting to the tick of a deadline that is due meets nothing before it. -/
theorem nearest_due {s : State} {d : Deadline} (h : s.due d) :
    s.nearest (ahead s.time.nodeTime (s.tickOf d)) = [] := by
  have hw : s.within (ahead s.time.nodeTime (s.tickOf d)) = [] := by
    unfold State.within
    rw [List.filter_eq_nil_iff]
    intro e he
    have hle : ¬ s.distance e < s.distance d := Nat.not_lt.2 (h.2 e he)
    intro hlt
    exact hle (of_decide_eq_true hlt)
  simp [State.nearest, hw]

theorem countTo_due {s : State} {d : Deadline} (h : s.due d) :
    s.countTo (s.tickOf d) = s.setNow (s.tickOf d) := by
  unfold State.countTo State.countFuel
  have : 32 * (ahead s.time.nodeTime (s.tickOf d) + 1)
      = (32 * (ahead s.time.nodeTime (s.tickOf d) + 1) - 1) + 1 := by omega
  rw [this]
  simp [State.countLoop, nearest_due h, State.draw]

/-- Passing end ticks moves no expiry tick. -/
theorem passing_expiries (tr : Tracker) (a : Tick) (n : Nat) :
    (tr.passing a n).list.map (Deadline.expiry ·.expiry) = tr.list.map (.expiry ·.expiry) := by
  simp [Tracker.passing, PendingEntry.endedBy]

/-- The deadlines that stand do not depend on node time. -/
@[simp] theorem setNow_deadlines (s : State) (t : Tick) : (s.setNow t).deadlines = s.deadlines := by
  unfold State.deadlines
  rw [setNow_tracker, passing_expiries]
  rfl

/-- The command of a deadline that is due: node time goes to its tick and it falls (R6). -/
theorem atDeadline_due {s : State} {d : Deadline} (h : s.due d) :
    s.atDeadline d = (s.setNow (s.tickOf d)).fall d := by
  unfold State.atDeadline
  rw [if_pos h.1]
  simp [countTo_due h, h.1]

end Sys2Proof.Machine
end

