-- ==== Sys2Proof/Laws/Frames.lean ====
section
/-! SUPPORT. What each shared operation leaves unchanged: one lemma per operation, which simp uses for
every field it names; and what taking an outcome reads. -/

namespace Sys2Proof.Machine

theorem draw_frame {α : Type} {s t : State} {l : List α} {a : α} (h : s.draw l = some (a, t)) :
    t.life = s.life ∧
      t.station = s.station ∧
      t.accepted = s.accepted ∧
      t.listenEnd = s.listenEnd ∧
      t.time = s.time ∧
      t.chans = s.chans ∧
      t.store = s.store ∧
      t.planner = s.planner ∧
      t.mapPort = s.mapPort ∧
      t.link = s.link ∧
      t.tracker = s.tracker ∧
      t.health = s.health ∧
      t.sweep = s.sweep ∧
      t.port = s.port ∧
      t.out = s.out ∧
      t.pending = s.pending := by
  unfold State.draw at h
  split at h <;> simp at h <;> obtain ⟨_, rfl⟩ := h <;> simp

@[simp] theorem order_frame {α : Type} (n : Nat) (l : List α) (s : State) :
    ((State.order n l s).2).life = s.life ∧
      ((State.order n l s).2).station = s.station ∧
      ((State.order n l s).2).accepted = s.accepted ∧
      ((State.order n l s).2).listenEnd = s.listenEnd ∧
      ((State.order n l s).2).time = s.time ∧
      ((State.order n l s).2).chans = s.chans ∧
      ((State.order n l s).2).store = s.store ∧
      ((State.order n l s).2).planner = s.planner ∧
      ((State.order n l s).2).mapPort = s.mapPort ∧
      ((State.order n l s).2).link = s.link ∧
      ((State.order n l s).2).tracker = s.tracker ∧
      ((State.order n l s).2).health = s.health ∧
      ((State.order n l s).2).sweep = s.sweep ∧
      ((State.order n l s).2).port = s.port ∧
      ((State.order n l s).2).out = s.out ∧
      ((State.order n l s).2).pending = s.pending := by
  induction n generalizing l s with
  | zero => simp [State.order]
  | succ n ih =>
    match l with
    | [] => simp [State.order]
    | [_] => simp [State.order]
    | a :: b :: r => simp [State.order, ih]

@[simp] theorem leaveReady_frame (s : State) (f : Flow) :
    (s.leaveReady f).life = s.life ∧
      (s.leaveReady f).station = s.station ∧
      (s.leaveReady f).accepted = s.accepted ∧
      (s.leaveReady f).listenEnd = s.listenEnd ∧
      (s.leaveReady f).time = s.time ∧
      (s.leaveReady f).chans = s.chans ∧
      (s.leaveReady f).store = s.store ∧
      (s.leaveReady f).mapPort = s.mapPort ∧
      (s.leaveReady f).link = s.link ∧
      (s.leaveReady f).tracker = s.tracker ∧
      (s.leaveReady f).health = s.health ∧
      (s.leaveReady f).sweep = s.sweep ∧
      (s.leaveReady f).port = s.port ∧
      (s.leaveReady f).out = s.out ∧
      (s.leaveReady f).free = s.free ∧
      (s.leaveReady f).pending = s.pending := by
  unfold State.leaveReady
  try dsimp only
  all_goals simp

@[simp] theorem joinReady_frame (s : State) (f : Flow) :
    (s.joinReady f).life = s.life ∧
      (s.joinReady f).station = s.station ∧
      (s.joinReady f).accepted = s.accepted ∧
      (s.joinReady f).listenEnd = s.listenEnd ∧
      (s.joinReady f).time = s.time ∧
      (s.joinReady f).chans = s.chans ∧
      (s.joinReady f).store = s.store ∧
      (s.joinReady f).mapPort = s.mapPort ∧
      (s.joinReady f).link = s.link ∧
      (s.joinReady f).tracker = s.tracker ∧
      (s.joinReady f).health = s.health ∧
      (s.joinReady f).sweep = s.sweep ∧
      (s.joinReady f).port = s.port ∧
      (s.joinReady f).out = s.out ∧
      (s.joinReady f).free = s.free ∧
      (s.joinReady f).pending = s.pending := by
  unfold State.joinReady
  try dsimp only
  all_goals simp

@[simp] theorem toTail_frame (s : State) (f : Flow) :
    (s.toTail f).life = s.life ∧
      (s.toTail f).station = s.station ∧
      (s.toTail f).accepted = s.accepted ∧
      (s.toTail f).listenEnd = s.listenEnd ∧
      (s.toTail f).time = s.time ∧
      (s.toTail f).chans = s.chans ∧
      (s.toTail f).store = s.store ∧
      (s.toTail f).mapPort = s.mapPort ∧
      (s.toTail f).link = s.link ∧
      (s.toTail f).tracker = s.tracker ∧
      (s.toTail f).health = s.health ∧
      (s.toTail f).sweep = s.sweep ∧
      (s.toTail f).port = s.port ∧
      (s.toTail f).out = s.out ∧
      (s.toTail f).free = s.free ∧
      (s.toTail f).pending = s.pending := by
  unfold State.toTail
  try dsimp only
  all_goals simp

@[simp] theorem settle_frame (s : State) (f : Flow) :
    (s.settle f).life = s.life ∧
      (s.settle f).station = s.station ∧
      (s.settle f).accepted = s.accepted ∧
      (s.settle f).listenEnd = s.listenEnd ∧
      (s.settle f).time = s.time ∧
      (s.settle f).chans = s.chans ∧
      (s.settle f).store = s.store ∧
      (s.settle f).mapPort = s.mapPort ∧
      (s.settle f).link = s.link ∧
      (s.settle f).tracker = s.tracker ∧
      (s.settle f).health = s.health ∧
      (s.settle f).sweep = s.sweep ∧
      (s.settle f).port = s.port ∧
      (s.settle f).out = s.out ∧
      (s.settle f).free = s.free ∧
      (s.settle f).pending = s.pending := by
  unfold State.settle
  try dsimp only
  repeat' split
  all_goals simp

@[simp] theorem writeFlow_frame (s : State) (tag : Tag) (f : Flow) :
    (s.writeFlow tag f).life = s.life ∧
      (s.writeFlow tag f).station = s.station ∧
      (s.writeFlow tag f).accepted = s.accepted ∧
      (s.writeFlow tag f).listenEnd = s.listenEnd ∧
      (s.writeFlow tag f).time = s.time ∧
      (s.writeFlow tag f).chans = s.chans ∧
      (s.writeFlow tag f).planner = s.planner ∧
      (s.writeFlow tag f).mapPort = s.mapPort ∧
      (s.writeFlow tag f).link = s.link ∧
      (s.writeFlow tag f).tracker = s.tracker ∧
      (s.writeFlow tag f).health = s.health ∧
      (s.writeFlow tag f).sweep = s.sweep ∧
      (s.writeFlow tag f).port = s.port ∧
      (s.writeFlow tag f).out = s.out ∧
      (s.writeFlow tag f).free = s.free ∧
      (s.writeFlow tag f).pending = s.pending := by
  unfold State.writeFlow
  try dsimp only
  repeat' split
  all_goals simp

@[simp] theorem updFlow_frame (s : State) (tag : Tag) (g : Flow → Flow) :
    (s.updFlow tag g).life = s.life ∧
      (s.updFlow tag g).station = s.station ∧
      (s.updFlow tag g).accepted = s.accepted ∧
      (s.updFlow tag g).listenEnd = s.listenEnd ∧
      (s.updFlow tag g).time = s.time ∧
      (s.updFlow tag g).chans = s.chans ∧
      (s.updFlow tag g).mapPort = s.mapPort ∧
      (s.updFlow tag g).link = s.link ∧
      (s.updFlow tag g).tracker = s.tracker ∧
      (s.updFlow tag g).health = s.health ∧
      (s.updFlow tag g).sweep = s.sweep ∧
      (s.updFlow tag g).port = s.port ∧
      (s.updFlow tag g).out = s.out ∧
      (s.updFlow tag g).free = s.free ∧
      (s.updFlow tag g).pending = s.pending := by
  unfold State.updFlow
  try dsimp only
  repeat' split
  all_goals simp

@[simp] theorem writeModem_frame (s : State) (i : Nat) (m : Modem) :
    (s.writeModem i m).life = s.life ∧
      (s.writeModem i m).station = s.station ∧
      (s.writeModem i m).accepted = s.accepted ∧
      (s.writeModem i m).listenEnd = s.listenEnd ∧
      (s.writeModem i m).time = s.time ∧
      (s.writeModem i m).chans = s.chans ∧
      (s.writeModem i m).planner = s.planner ∧
      (s.writeModem i m).mapPort = s.mapPort ∧
      (s.writeModem i m).link = s.link ∧
      (s.writeModem i m).tracker = s.tracker ∧
      (s.writeModem i m).health = s.health ∧
      (s.writeModem i m).sweep = s.sweep ∧
      (s.writeModem i m).port = s.port ∧
      (s.writeModem i m).out = s.out ∧
      (s.writeModem i m).free = s.free ∧
      (s.writeModem i m).pending = s.pending := by
  unfold State.writeModem
  try dsimp only
  all_goals simp

@[simp] theorem setRoster_frame (s : State) (k : StationNo) (e : RosterEntry) :
    (s.setRoster k e).life = s.life ∧
      (s.setRoster k e).station = s.station ∧
      (s.setRoster k e).accepted = s.accepted ∧
      (s.setRoster k e).listenEnd = s.listenEnd ∧
      (s.setRoster k e).time = s.time ∧
      (s.setRoster k e).chans = s.chans ∧
      (s.setRoster k e).store = s.store ∧
      (s.setRoster k e).planner = s.planner ∧
      (s.setRoster k e).mapPort = s.mapPort ∧
      (s.setRoster k e).tracker = s.tracker ∧
      (s.setRoster k e).health = s.health ∧
      (s.setRoster k e).sweep = s.sweep ∧
      (s.setRoster k e).port = s.port ∧
      (s.setRoster k e).out = s.out ∧
      (s.setRoster k e).free = s.free ∧
      (s.setRoster k e).pending = s.pending := by
  unfold State.setRoster
  try dsimp only
  all_goals simp

@[simp] theorem dropLocalHold_frame (s : State) (t : TurnKey) :
    (s.dropLocalHold t).life = s.life ∧
      (s.dropLocalHold t).station = s.station ∧
      (s.dropLocalHold t).accepted = s.accepted ∧
      (s.dropLocalHold t).listenEnd = s.listenEnd ∧
      (s.dropLocalHold t).time = s.time ∧
      (s.dropLocalHold t).chans = s.chans ∧
      (s.dropLocalHold t).store = s.store ∧
      (s.dropLocalHold t).mapPort = s.mapPort ∧
      (s.dropLocalHold t).link = s.link ∧
      (s.dropLocalHold t).tracker = s.tracker ∧
      (s.dropLocalHold t).health = s.health ∧
      (s.dropLocalHold t).sweep = s.sweep ∧
      (s.dropLocalHold t).port = s.port ∧
      (s.dropLocalHold t).out = s.out ∧
      (s.dropLocalHold t).free = s.free ∧
      (s.dropLocalHold t).pending = s.pending := by
  unfold State.dropLocalHold
  try dsimp only
  all_goals simp

@[simp] theorem dropPending_frame (s : State) (t : TurnKey) :
    (s.dropPending t).life = s.life ∧
      (s.dropPending t).station = s.station ∧
      (s.dropPending t).accepted = s.accepted ∧
      (s.dropPending t).listenEnd = s.listenEnd ∧
      (s.dropPending t).time = s.time ∧
      (s.dropPending t).chans = s.chans ∧
      (s.dropPending t).store = s.store ∧
      (s.dropPending t).planner = s.planner ∧
      (s.dropPending t).mapPort = s.mapPort ∧
      (s.dropPending t).link = s.link ∧
      (s.dropPending t).health = s.health ∧
      (s.dropPending t).sweep = s.sweep ∧
      (s.dropPending t).port = s.port ∧
      (s.dropPending t).out = s.out ∧
      (s.dropPending t).free = s.free ∧
      (s.dropPending t).pending = s.pending := by
  unfold State.dropPending
  try dsimp only
  all_goals simp

@[simp] theorem orphanGone_frame (s : State) (tag : Tag) :
    (s.orphanGone tag).life = s.life ∧
      (s.orphanGone tag).station = s.station ∧
      (s.orphanGone tag).accepted = s.accepted ∧
      (s.orphanGone tag).listenEnd = s.listenEnd ∧
      (s.orphanGone tag).time = s.time ∧
      (s.orphanGone tag).chans = s.chans ∧
      (s.orphanGone tag).planner = s.planner ∧
      (s.orphanGone tag).mapPort = s.mapPort ∧
      (s.orphanGone tag).link = s.link ∧
      (s.orphanGone tag).tracker = s.tracker ∧
      (s.orphanGone tag).health = s.health ∧
      (s.orphanGone tag).sweep = s.sweep ∧
      (s.orphanGone tag).port = s.port ∧
      (s.orphanGone tag).out = s.out ∧
      (s.orphanGone tag).free = s.free ∧
      (s.orphanGone tag).pending = s.pending := by
  unfold State.orphanGone
  try dsimp only
  repeat' split
  all_goals simp

@[simp] theorem offerAttention_frame (s : State) (tag : Tag) (r : AttentionReason) :
    (s.offerAttention tag r).life = s.life ∧
      (s.offerAttention tag r).station = s.station ∧
      (s.offerAttention tag r).accepted = s.accepted ∧
      (s.offerAttention tag r).listenEnd = s.listenEnd ∧
      (s.offerAttention tag r).time = s.time ∧
      (s.offerAttention tag r).chans = s.chans ∧
      (s.offerAttention tag r).store = s.store ∧
      (s.offerAttention tag r).planner = s.planner ∧
      (s.offerAttention tag r).mapPort = s.mapPort ∧
      (s.offerAttention tag r).link = s.link ∧
      (s.offerAttention tag r).tracker = s.tracker ∧
      (s.offerAttention tag r).health = s.health ∧
      (s.offerAttention tag r).sweep = s.sweep ∧
      (s.offerAttention tag r).out = s.out ∧
      (s.offerAttention tag r).free = s.free ∧
      (s.offerAttention tag r).pending = s.pending := by
  unfold State.offerAttention
  try dsimp only
  repeat' split
  all_goals simp

@[simp] theorem appendFault_frame (s : State) (k : FaultKind) (key : Key) (tag : Tag) :
    (s.appendFault k key tag).life = s.life ∧
      (s.appendFault k key tag).station = s.station ∧
      (s.appendFault k key tag).accepted = s.accepted ∧
      (s.appendFault k key tag).listenEnd = s.listenEnd ∧
      (s.appendFault k key tag).time = s.time ∧
      (s.appendFault k key tag).chans = s.chans ∧
      (s.appendFault k key tag).planner = s.planner ∧
      (s.appendFault k key tag).mapPort = s.mapPort ∧
      (s.appendFault k key tag).link = s.link ∧
      (s.appendFault k key tag).tracker = s.tracker ∧
      (s.appendFault k key tag).sweep = s.sweep ∧
      (s.appendFault k key tag).port = s.port ∧
      (s.appendFault k key tag).out = s.out ∧
      (s.appendFault k key tag).free = s.free ∧
      (s.appendFault k key tag).pending = s.pending := by
  unfold State.appendFault
  try dsimp only
  repeat' split
  all_goals simp

@[simp] theorem transition_frame (s : State) (i : Nat) (m : Modem) (o : TurnOutcome) :
    (s.transition i m o).life = s.life ∧
      (s.transition i m o).station = s.station ∧
      (s.transition i m o).accepted = s.accepted ∧
      (s.transition i m o).listenEnd = s.listenEnd ∧
      (s.transition i m o).time = s.time ∧
      (s.transition i m o).chans = s.chans ∧
      (s.transition i m o).planner = s.planner ∧
      (s.transition i m o).mapPort = s.mapPort ∧
      (s.transition i m o).link = s.link ∧
      (s.transition i m o).tracker = s.tracker ∧
      (s.transition i m o).sweep = s.sweep ∧
      (s.transition i m o).out = s.out ∧
      (s.transition i m o).free = s.free ∧
      (s.transition i m o).pending = s.pending := by
  unfold State.transition
  try dsimp only
  repeat' split
  all_goals simp

@[simp] theorem takeOutcome_frame (s : State) (i : Nat) (key : Key) (o : TurnOutcome) :
    (s.takeOutcome i key o).life = s.life ∧
      (s.takeOutcome i key o).station = s.station ∧
      (s.takeOutcome i key o).accepted = s.accepted ∧
      (s.takeOutcome i key o).listenEnd = s.listenEnd ∧
      (s.takeOutcome i key o).time = s.time ∧
      (s.takeOutcome i key o).chans = s.chans ∧
      (s.takeOutcome i key o).planner = s.planner ∧
      (s.takeOutcome i key o).mapPort = s.mapPort ∧
      (s.takeOutcome i key o).link = s.link ∧
      (s.takeOutcome i key o).tracker = s.tracker ∧
      (s.takeOutcome i key o).sweep = s.sweep ∧
      (s.takeOutcome i key o).out = s.out ∧
      (s.takeOutcome i key o).free = s.free ∧
      (s.takeOutcome i key o).pending = s.pending := by
  unfold State.takeOutcome
  try dsimp only
  repeat' split
  all_goals simp

theorem appendFault_agrees {s u : State} (kind : FaultKind) (key : Key) (tag : Tag)
    (hm : u.store.modems = s.store.modems) (hh : u.health = s.health) (ht : u.time = s.time) :
    (u.appendFault kind key tag).store.modems = (s.appendFault kind key tag).store.modems ∧
      (u.appendFault kind key tag).health = (s.appendFault kind key tag).health := by
  simp only [State.appendFault, State.modemIx, State.modemAt, State.faultRecord, hm, hh, ht]
  repeat' split
  all_goals simp [State.writeModem, State.modStore, State.modHealth, hm, hh]

/-- Taking an outcome reads the modem table, the Health Monitor, node time and the start record in force,
and no more: states that agree on these take it alike. -/
theorem takeOutcome_agrees {s u : State} (i : Nat) (key : Key) (o : TurnOutcome)
    (hm : u.store.modems = s.store.modems) (hh : u.health = s.health) (ht : u.time = s.time)
    (hl : u.life = s.life) (ha : u.accepted = s.accepted) :
    (u.takeOutcome i key o).store.modems = (s.takeOutcome i key o).store.modems ∧
      (u.takeOutcome i key o).health = (s.takeOutcome i key o).health ∧
      (u.port = s.port → (u.takeOutcome i key o).port = (s.takeOutcome i key o).port) := by
  have hr : u.inForce = s.inForce := by simp [State.inForce, hl, ha]
  simp only [State.takeOutcome, State.modemAt, hm, hr]
  split
  · exact ⟨hm, hh, id⟩
  · split
    · exact ⟨hm, hh, id⟩
    · split
      · simp [State.writeModem, State.modStore, State.modHealth, hm, hh]
      · have hr' : ∀ (w : State) m f, (State.modHealth (w.writeModem i m) f).inForce = w.inForce :=
          fun _ _ _ => rfl
        simp only [State.transition, hr', hr]
        repeat' split
        all_goals first
          | exact ⟨by simp [State.writeModem, State.modStore, State.modHealth, hm],
              by simp [State.writeModem, State.modStore, State.modHealth, hh],
              fun h => by simpa [State.writeModem, State.modStore, State.modHealth] using h⟩
          | refine ⟨(appendFault_agrees _ _ _ ?_ ?_ ?_).1, (appendFault_agrees _ _ _ ?_ ?_ ?_).2,
              fun h => ?_⟩ <;>
            simp [State.writeModem, State.modStore, State.modHealth, State.raise, *]

@[simp] theorem enqueue_frame (s : State) (q : Queued) :
    (s.enqueue q).life = s.life ∧
      (s.enqueue q).station = s.station ∧
      (s.enqueue q).accepted = s.accepted ∧
      (s.enqueue q).listenEnd = s.listenEnd ∧
      (s.enqueue q).time = s.time ∧
      (s.enqueue q).chans = s.chans ∧
      (s.enqueue q).store = s.store ∧
      (s.enqueue q).planner = s.planner ∧
      (s.enqueue q).mapPort = s.mapPort ∧
      (s.enqueue q).tracker = s.tracker ∧
      (s.enqueue q).health = s.health ∧
      (s.enqueue q).sweep = s.sweep ∧
      (s.enqueue q).port = s.port ∧
      (s.enqueue q).out = s.out ∧
      (s.enqueue q).free = s.free ∧
      (s.enqueue q).pending = s.pending := by
  unfold State.enqueue
  try dsimp only
  repeat' split
  all_goals simp

@[simp] theorem removeQueued_frame (s : State) (g : Queued → Bool) :
    (s.removeQueued g).life = s.life ∧
      (s.removeQueued g).station = s.station ∧
      (s.removeQueued g).accepted = s.accepted ∧
      (s.removeQueued g).listenEnd = s.listenEnd ∧
      (s.removeQueued g).time = s.time ∧
      (s.removeQueued g).chans = s.chans ∧
      (s.removeQueued g).store = s.store ∧
      (s.removeQueued g).planner = s.planner ∧
      (s.removeQueued g).mapPort = s.mapPort ∧
      (s.removeQueued g).tracker = s.tracker ∧
      (s.removeQueued g).health = s.health ∧
      (s.removeQueued g).sweep = s.sweep ∧
      (s.removeQueued g).port = s.port ∧
      (s.removeQueued g).out = s.out ∧
      (s.removeQueued g).free = s.free ∧
      (s.removeQueued g).pending = s.pending := by
  unfold State.removeQueued
  try dsimp only
  all_goals simp

@[simp] theorem markWithdrawn_frame (s : State) (t : TurnKey) :
    (s.markWithdrawn t).life = s.life ∧
      (s.markWithdrawn t).station = s.station ∧
      (s.markWithdrawn t).accepted = s.accepted ∧
      (s.markWithdrawn t).listenEnd = s.listenEnd ∧
      (s.markWithdrawn t).time = s.time ∧
      (s.markWithdrawn t).chans = s.chans ∧
      (s.markWithdrawn t).store = s.store ∧
      (s.markWithdrawn t).planner = s.planner ∧
      (s.markWithdrawn t).mapPort = s.mapPort ∧
      (s.markWithdrawn t).tracker = s.tracker ∧
      (s.markWithdrawn t).health = s.health ∧
      (s.markWithdrawn t).sweep = s.sweep ∧
      (s.markWithdrawn t).port = s.port ∧
      (s.markWithdrawn t).out = s.out ∧
      (s.markWithdrawn t).free = s.free ∧
      (s.markWithdrawn t).pending = s.pending := by
  unfold State.markWithdrawn
  try dsimp only
  all_goals simp

@[simp] theorem queueBid_frame (s : State) (tag : Tag) (b : Nat) (c : Chan) :
    (s.queueBid tag b c).life = s.life ∧
      (s.queueBid tag b c).station = s.station ∧
      (s.queueBid tag b c).accepted = s.accepted ∧
      (s.queueBid tag b c).listenEnd = s.listenEnd ∧
      (s.queueBid tag b c).time = s.time ∧
      (s.queueBid tag b c).store = s.store ∧
      (s.queueBid tag b c).planner = s.planner ∧
      (s.queueBid tag b c).mapPort = s.mapPort ∧
      (s.queueBid tag b c).tracker = s.tracker ∧
      (s.queueBid tag b c).health = s.health ∧
      (s.queueBid tag b c).sweep = s.sweep ∧
      (s.queueBid tag b c).port = s.port ∧
      (s.queueBid tag b c).out = s.out ∧
      (s.queueBid tag b c).free = s.free ∧
      (s.queueBid tag b c).pending = s.pending := by
  unfold State.queueBid
  try dsimp only
  repeat' split
  all_goals simp

@[simp] theorem queueGive_frame (s : State) (tag : Tag) (b : Nat) :
    (s.queueGive tag b).life = s.life ∧
      (s.queueGive tag b).station = s.station ∧
      (s.queueGive tag b).accepted = s.accepted ∧
      (s.queueGive tag b).listenEnd = s.listenEnd ∧
      (s.queueGive tag b).time = s.time ∧
      (s.queueGive tag b).chans = s.chans ∧
      (s.queueGive tag b).store = s.store ∧
      (s.queueGive tag b).planner = s.planner ∧
      (s.queueGive tag b).mapPort = s.mapPort ∧
      (s.queueGive tag b).tracker = s.tracker ∧
      (s.queueGive tag b).health = s.health ∧
      (s.queueGive tag b).sweep = s.sweep ∧
      (s.queueGive tag b).port = s.port ∧
      (s.queueGive tag b).out = s.out ∧
      (s.queueGive tag b).free = s.free ∧
      (s.queueGive tag b).pending = s.pending := by
  unfold State.queueGive
  try dsimp only
  repeat' split
  all_goals simp

@[simp] theorem queuePresence_frame (s : State)  :
    (s.queuePresence).life = s.life ∧
      (s.queuePresence).station = s.station ∧
      (s.queuePresence).accepted = s.accepted ∧
      (s.queuePresence).listenEnd = s.listenEnd ∧
      (s.queuePresence).time = s.time ∧
      (s.queuePresence).chans = s.chans ∧
      (s.queuePresence).store = s.store ∧
      (s.queuePresence).planner = s.planner ∧
      (s.queuePresence).mapPort = s.mapPort ∧
      (s.queuePresence).tracker = s.tracker ∧
      (s.queuePresence).health = s.health ∧
      (s.queuePresence).sweep = s.sweep ∧
      (s.queuePresence).port = s.port ∧
      (s.queuePresence).out = s.out ∧
      (s.queuePresence).free = s.free ∧
      (s.queuePresence).pending = s.pending := by
  unfold State.queuePresence
  try dsimp only
  repeat' split
  all_goals simp

@[simp] theorem addHeard_frame (s : State) (tag : Tag) (b : Nat) :
    (s.addHeard tag b).life = s.life ∧
      (s.addHeard tag b).station = s.station ∧
      (s.addHeard tag b).accepted = s.accepted ∧
      (s.addHeard tag b).listenEnd = s.listenEnd ∧
      (s.addHeard tag b).time = s.time ∧
      (s.addHeard tag b).chans = s.chans ∧
      (s.addHeard tag b).mapPort = s.mapPort ∧
      (s.addHeard tag b).tracker = s.tracker ∧
      (s.addHeard tag b).health = s.health ∧
      (s.addHeard tag b).sweep = s.sweep ∧
      (s.addHeard tag b).port = s.port ∧
      (s.addHeard tag b).out = s.out ∧
      (s.addHeard tag b).free = s.free ∧
      (s.addHeard tag b).pending = s.pending := by
  unfold State.addHeard
  try dsimp only
  repeat' split
  all_goals simp

@[simp] theorem addIdleBytes_frame (s : State) (b : Nat) :
    (s.addIdleBytes b).life = s.life ∧
      (s.addIdleBytes b).station = s.station ∧
      (s.addIdleBytes b).accepted = s.accepted ∧
      (s.addIdleBytes b).listenEnd = s.listenEnd ∧
      (s.addIdleBytes b).time = s.time ∧
      (s.addIdleBytes b).chans = s.chans ∧
      (s.addIdleBytes b).store = s.store ∧
      (s.addIdleBytes b).planner = s.planner ∧
      (s.addIdleBytes b).mapPort = s.mapPort ∧
      (s.addIdleBytes b).link = s.link ∧
      (s.addIdleBytes b).tracker = s.tracker ∧
      (s.addIdleBytes b).health = s.health ∧
      (s.addIdleBytes b).port = s.port ∧
      (s.addIdleBytes b).out = s.out ∧
      (s.addIdleBytes b).free = s.free ∧
      (s.addIdleBytes b).pending = s.pending := by
  unfold State.addIdleBytes
  try dsimp only
  all_goals simp

@[simp] theorem giveBack_frame (s : State) (tag : Tag) (b : Nat) :
    (s.giveBack tag b).life = s.life ∧
      (s.giveBack tag b).station = s.station ∧
      (s.giveBack tag b).accepted = s.accepted ∧
      (s.giveBack tag b).listenEnd = s.listenEnd ∧
      (s.giveBack tag b).time = s.time ∧
      (s.giveBack tag b).chans = s.chans ∧
      (s.giveBack tag b).mapPort = s.mapPort ∧
      (s.giveBack tag b).tracker = s.tracker ∧
      (s.giveBack tag b).health = s.health ∧
      (s.giveBack tag b).port = s.port ∧
      (s.giveBack tag b).out = s.out ∧
      (s.giveBack tag b).free = s.free ∧
      (s.giveBack tag b).pending = s.pending := by
  unfold State.giveBack
  try dsimp only
  repeat' split
  all_goals simp

@[simp] theorem setFate_frame (s : State) (t : TurnKey) (f : Fate) :
    (s.setFate t f).life = s.life ∧
      (s.setFate t f).station = s.station ∧
      (s.setFate t f).accepted = s.accepted ∧
      (s.setFate t f).listenEnd = s.listenEnd ∧
      (s.setFate t f).time = s.time ∧
      (s.setFate t f).chans = s.chans ∧
      (s.setFate t f).store = s.store ∧
      (s.setFate t f).link = s.link ∧
      (s.setFate t f).tracker = s.tracker ∧
      (s.setFate t f).health = s.health ∧
      (s.setFate t f).sweep = s.sweep ∧
      (s.setFate t f).port = s.port ∧
      (s.setFate t f).out = s.out ∧
      (s.setFate t f).free = s.free ∧
      (s.setFate t f).pending = s.pending := by
  unfold State.setFate
  try dsimp only
  all_goals simp

@[simp] theorem setLinkedFate_frame (s : State) (t : Option TurnKey) (f : Fate) :
    (s.setLinkedFate t f).life = s.life ∧
      (s.setLinkedFate t f).station = s.station ∧
      (s.setLinkedFate t f).accepted = s.accepted ∧
      (s.setLinkedFate t f).listenEnd = s.listenEnd ∧
      (s.setLinkedFate t f).time = s.time ∧
      (s.setLinkedFate t f).chans = s.chans ∧
      (s.setLinkedFate t f).store = s.store ∧
      (s.setLinkedFate t f).link = s.link ∧
      (s.setLinkedFate t f).tracker = s.tracker ∧
      (s.setLinkedFate t f).health = s.health ∧
      (s.setLinkedFate t f).sweep = s.sweep ∧
      (s.setLinkedFate t f).port = s.port ∧
      (s.setLinkedFate t f).out = s.out ∧
      (s.setLinkedFate t f).free = s.free ∧
      (s.setLinkedFate t f).pending = s.pending := by
  unfold State.setLinkedFate
  try dsimp only
  repeat' split
  all_goals simp

@[simp] theorem applyVerdict_frame (s : State) (v : Verdict) (h : SharedHold) :
    (s.applyVerdict v h).life = s.life ∧
      (s.applyVerdict v h).station = s.station ∧
      (s.applyVerdict v h).accepted = s.accepted ∧
      (s.applyVerdict v h).listenEnd = s.listenEnd ∧
      (s.applyVerdict v h).time = s.time ∧
      (s.applyVerdict v h).chans = s.chans ∧
      (s.applyVerdict v h).store = s.store ∧
      (s.applyVerdict v h).planner = s.planner ∧
      (s.applyVerdict v h).mapPort = s.mapPort ∧
      (s.applyVerdict v h).tracker = s.tracker ∧
      (s.applyVerdict v h).health = s.health ∧
      (s.applyVerdict v h).sweep = s.sweep ∧
      (s.applyVerdict v h).port = s.port ∧
      (s.applyVerdict v h).out = s.out ∧
      (s.applyVerdict v h).free = s.free ∧
      (s.applyVerdict v h).pending = s.pending := by
  unfold State.applyVerdict
  try dsimp only
  repeat' split
  all_goals simp

@[simp] theorem refreshRoster_frame (s : State) (k : StationNo) (n : Notice) :
    (s.refreshRoster k n).life = s.life ∧
      (s.refreshRoster k n).station = s.station ∧
      (s.refreshRoster k n).accepted = s.accepted ∧
      (s.refreshRoster k n).listenEnd = s.listenEnd ∧
      (s.refreshRoster k n).time = s.time ∧
      (s.refreshRoster k n).chans = s.chans ∧
      (s.refreshRoster k n).store = s.store ∧
      (s.refreshRoster k n).planner = s.planner ∧
      (s.refreshRoster k n).mapPort = s.mapPort ∧
      (s.refreshRoster k n).tracker = s.tracker ∧
      (s.refreshRoster k n).health = s.health ∧
      (s.refreshRoster k n).sweep = s.sweep ∧
      (s.refreshRoster k n).out = s.out ∧
      (s.refreshRoster k n).free = s.free ∧
      (s.refreshRoster k n).pending = s.pending := by
  unfold State.refreshRoster
  try dsimp only
  repeat' split
  all_goals simp

@[simp] theorem markAbsent_frame (s : State) (k : StationNo) :
    (s.markAbsent k).life = s.life ∧
      (s.markAbsent k).station = s.station ∧
      (s.markAbsent k).accepted = s.accepted ∧
      (s.markAbsent k).listenEnd = s.listenEnd ∧
      (s.markAbsent k).time = s.time ∧
      (s.markAbsent k).chans = s.chans ∧
      (s.markAbsent k).store = s.store ∧
      (s.markAbsent k).planner = s.planner ∧
      (s.markAbsent k).mapPort = s.mapPort ∧
      (s.markAbsent k).tracker = s.tracker ∧
      (s.markAbsent k).health = s.health ∧
      (s.markAbsent k).sweep = s.sweep ∧
      (s.markAbsent k).out = s.out ∧
      (s.markAbsent k).free = s.free ∧
      (s.markAbsent k).pending = s.pending := by
  unfold State.markAbsent
  try dsimp only
  all_goals simp

@[simp] theorem addBid_frame (s : State) (tag : Tag) (b : Nat) (c : Chan) :
    (s.addBid tag b c).life = s.life ∧
      (s.addBid tag b c).station = s.station ∧
      (s.addBid tag b c).accepted = s.accepted ∧
      (s.addBid tag b c).listenEnd = s.listenEnd ∧
      (s.addBid tag b c).time = s.time ∧
      (s.addBid tag b c).mapPort = s.mapPort ∧
      (s.addBid tag b c).tracker = s.tracker ∧
      (s.addBid tag b c).health = s.health ∧
      (s.addBid tag b c).sweep = s.sweep ∧
      (s.addBid tag b c).port = s.port ∧
      (s.addBid tag b c).out = s.out ∧
      (s.addBid tag b c).free = s.free ∧
      (s.addBid tag b c).pending = s.pending := by
  unfold State.addBid
  try dsimp only
  repeat' split
  all_goals simp

@[simp] theorem applyDeferred_frame (s : State) (tag : Tag) :
    (s.applyDeferred tag).life = s.life ∧
      (s.applyDeferred tag).station = s.station ∧
      (s.applyDeferred tag).accepted = s.accepted ∧
      (s.applyDeferred tag).listenEnd = s.listenEnd ∧
      (s.applyDeferred tag).time = s.time ∧
      (s.applyDeferred tag).mapPort = s.mapPort ∧
      (s.applyDeferred tag).tracker = s.tracker ∧
      (s.applyDeferred tag).health = s.health ∧
      (s.applyDeferred tag).sweep = s.sweep ∧
      (s.applyDeferred tag).port = s.port ∧
      (s.applyDeferred tag).out = s.out ∧
      (s.applyDeferred tag).free = s.free ∧
      (s.applyDeferred tag).pending = s.pending := by
  unfold State.applyDeferred
  try dsimp only
  repeat' split
  all_goals simp

@[simp] theorem deferredAtZero_frame (s : State) (tag : Tag) :
    (s.deferredAtZero tag).life = s.life ∧
      (s.deferredAtZero tag).station = s.station ∧
      (s.deferredAtZero tag).accepted = s.accepted ∧
      (s.deferredAtZero tag).listenEnd = s.listenEnd ∧
      (s.deferredAtZero tag).time = s.time ∧
      (s.deferredAtZero tag).mapPort = s.mapPort ∧
      (s.deferredAtZero tag).tracker = s.tracker ∧
      (s.deferredAtZero tag).health = s.health ∧
      (s.deferredAtZero tag).sweep = s.sweep ∧
      (s.deferredAtZero tag).port = s.port ∧
      (s.deferredAtZero tag).out = s.out ∧
      (s.deferredAtZero tag).free = s.free ∧
      (s.deferredAtZero tag).pending = s.pending := by
  unfold State.deferredAtZero
  try dsimp only
  repeat' split
  all_goals simp

@[simp] theorem lowerPending_frame (s : State) (tag : Tag) :
    (s.lowerPending tag).life = s.life ∧
      (s.lowerPending tag).station = s.station ∧
      (s.lowerPending tag).accepted = s.accepted ∧
      (s.lowerPending tag).listenEnd = s.listenEnd ∧
      (s.lowerPending tag).time = s.time ∧
      (s.lowerPending tag).chans = s.chans ∧
      (s.lowerPending tag).mapPort = s.mapPort ∧
      (s.lowerPending tag).link = s.link ∧
      (s.lowerPending tag).tracker = s.tracker ∧
      (s.lowerPending tag).health = s.health ∧
      (s.lowerPending tag).sweep = s.sweep ∧
      (s.lowerPending tag).port = s.port ∧
      (s.lowerPending tag).out = s.out ∧
      (s.lowerPending tag).free = s.free ∧
      (s.lowerPending tag).pending = s.pending := by
  unfold State.lowerPending
  try dsimp only
  all_goals simp

@[simp] theorem bidApplied_frame (s : State) (tag : Tag) (b : Nat) (c : Chan) :
    (s.bidApplied tag b c).life = s.life ∧
      (s.bidApplied tag b c).station = s.station ∧
      (s.bidApplied tag b c).accepted = s.accepted ∧
      (s.bidApplied tag b c).listenEnd = s.listenEnd ∧
      (s.bidApplied tag b c).time = s.time ∧
      (s.bidApplied tag b c).mapPort = s.mapPort ∧
      (s.bidApplied tag b c).tracker = s.tracker ∧
      (s.bidApplied tag b c).health = s.health ∧
      (s.bidApplied tag b c).sweep = s.sweep ∧
      (s.bidApplied tag b c).port = s.port ∧
      (s.bidApplied tag b c).out = s.out ∧
      (s.bidApplied tag b c).free = s.free ∧
      (s.bidApplied tag b c).pending = s.pending := by
  unfold State.bidApplied
  try dsimp only
  all_goals simp

@[simp] theorem bidDeferred_frame (s : State) (tag : Tag) (b : Nat) (c : Chan) (held : Bool) :
    (s.bidDeferred tag b c held).life = s.life ∧
      (s.bidDeferred tag b c held).station = s.station ∧
      (s.bidDeferred tag b c held).accepted = s.accepted ∧
      (s.bidDeferred tag b c held).listenEnd = s.listenEnd ∧
      (s.bidDeferred tag b c held).time = s.time ∧
      (s.bidDeferred tag b c held).mapPort = s.mapPort ∧
      (s.bidDeferred tag b c held).link = s.link ∧
      (s.bidDeferred tag b c held).tracker = s.tracker ∧
      (s.bidDeferred tag b c held).health = s.health ∧
      (s.bidDeferred tag b c held).sweep = s.sweep ∧
      (s.bidDeferred tag b c held).port = s.port ∧
      (s.bidDeferred tag b c held).out = s.out ∧
      (s.bidDeferred tag b c held).free = s.free ∧
      (s.bidDeferred tag b c held).pending = s.pending := by
  unfold State.bidDeferred
  try dsimp only
  repeat' split
  all_goals simp

@[simp] theorem bidDormant_frame (s : State) (tag : Tag) (c : Chan) :
    (s.bidDormant tag c).life = s.life ∧
      (s.bidDormant tag c).station = s.station ∧
      (s.bidDormant tag c).accepted = s.accepted ∧
      (s.bidDormant tag c).listenEnd = s.listenEnd ∧
      (s.bidDormant tag c).time = s.time ∧
      (s.bidDormant tag c).store = s.store ∧
      (s.bidDormant tag c).planner = s.planner ∧
      (s.bidDormant tag c).mapPort = s.mapPort ∧
      (s.bidDormant tag c).link = s.link ∧
      (s.bidDormant tag c).tracker = s.tracker ∧
      (s.bidDormant tag c).health = s.health ∧
      (s.bidDormant tag c).sweep = s.sweep ∧
      (s.bidDormant tag c).out = s.out ∧
      (s.bidDormant tag c).free = s.free ∧
      (s.bidDormant tag c).pending = s.pending := by
  unfold State.bidDormant
  try dsimp only
  all_goals simp

@[simp] theorem bidWakes_frame (s : State) (tag : Tag) (cad : Cadence) (c : Chan) :
    (s.bidWakes tag cad c).life = s.life ∧
      (s.bidWakes tag cad c).station = s.station ∧
      (s.bidWakes tag cad c).accepted = s.accepted ∧
      (s.bidWakes tag cad c).listenEnd = s.listenEnd ∧
      (s.bidWakes tag cad c).time = s.time ∧
      (s.bidWakes tag cad c).mapPort = s.mapPort ∧
      (s.bidWakes tag cad c).link = s.link ∧
      (s.bidWakes tag cad c).tracker = s.tracker ∧
      (s.bidWakes tag cad c).health = s.health ∧
      (s.bidWakes tag cad c).sweep = s.sweep ∧
      (s.bidWakes tag cad c).port = s.port ∧
      (s.bidWakes tag cad c).out = s.out ∧
      (s.bidWakes tag cad c).free = s.free ∧
      (s.bidWakes tag cad c).pending = s.pending := by
  unfold State.bidWakes
  try dsimp only
  all_goals simp

@[simp] theorem bidForFlow_frame (s : State) (f : Flow) (b : Nat) (c : Chan) :
    (s.bidForFlow f b c).life = s.life ∧
      (s.bidForFlow f b c).station = s.station ∧
      (s.bidForFlow f b c).accepted = s.accepted ∧
      (s.bidForFlow f b c).listenEnd = s.listenEnd ∧
      (s.bidForFlow f b c).time = s.time ∧
      (s.bidForFlow f b c).mapPort = s.mapPort ∧
      (s.bidForFlow f b c).tracker = s.tracker ∧
      (s.bidForFlow f b c).health = s.health ∧
      (s.bidForFlow f b c).sweep = s.sweep ∧
      (s.bidForFlow f b c).out = s.out ∧
      (s.bidForFlow f b c).free = s.free ∧
      (s.bidForFlow f b c).pending = s.pending := by
  unfold State.bidForFlow
  try dsimp only
  repeat' split
  all_goals simp

@[simp] theorem discardRecord_frame (s : State)  :
    (s.discardRecord).life = s.life ∧
      (s.discardRecord).station = s.station ∧
      (s.discardRecord).accepted = s.accepted ∧
      (s.discardRecord).listenEnd = s.listenEnd ∧
      (s.discardRecord).time = s.time ∧
      (s.discardRecord).chans = s.chans ∧
      (s.discardRecord).store = s.store ∧
      (s.discardRecord).planner = s.planner ∧
      (s.discardRecord).mapPort = s.mapPort ∧
      (s.discardRecord).link = s.link ∧
      (s.discardRecord).tracker = s.tracker ∧
      (s.discardRecord).health = s.health ∧
      (s.discardRecord).sweep = s.sweep ∧
      (s.discardRecord).out = s.out ∧
      (s.discardRecord).free = s.free ∧
      (s.discardRecord).pending = s.pending := by
  unfold State.discardRecord
  try dsimp only
  all_goals simp

@[simp] theorem takeBid_frame (s : State) (r : BidRecord) :
    (s.takeBid r).life = s.life ∧
      (s.takeBid r).station = s.station ∧
      (s.takeBid r).accepted = s.accepted ∧
      (s.takeBid r).listenEnd = s.listenEnd ∧
      (s.takeBid r).time = s.time ∧
      (s.takeBid r).mapPort = s.mapPort ∧
      (s.takeBid r).tracker = s.tracker ∧
      (s.takeBid r).health = s.health ∧
      (s.takeBid r).sweep = s.sweep ∧
      (s.takeBid r).out = s.out ∧
      (s.takeBid r).free = s.free ∧
      (s.takeBid r).pending = s.pending := by
  unfold State.takeBid
  try dsimp only
  repeat' split
  all_goals simp

@[simp] theorem tailDropped_frame (s : State) (c : Chan) :
    (s.tailDropped c).life = s.life ∧
      (s.tailDropped c).station = s.station ∧
      (s.tailDropped c).accepted = s.accepted ∧
      (s.tailDropped c).listenEnd = s.listenEnd ∧
      (s.tailDropped c).time = s.time ∧
      (s.tailDropped c).store = s.store ∧
      (s.tailDropped c).planner = s.planner ∧
      (s.tailDropped c).mapPort = s.mapPort ∧
      (s.tailDropped c).link = s.link ∧
      (s.tailDropped c).tracker = s.tracker ∧
      (s.tailDropped c).health = s.health ∧
      (s.tailDropped c).sweep = s.sweep ∧
      (s.tailDropped c).port = s.port ∧
      (s.tailDropped c).out = s.out ∧
      (s.tailDropped c).free = s.free ∧
      (s.tailDropped c).pending = s.pending := by
  unfold State.tailDropped
  try dsimp only
  all_goals simp

@[simp] theorem tailForFlow_frame (s : State) (f : Flow) (b : Nat) (c : Chan) :
    (s.tailForFlow f b c).life = s.life ∧
      (s.tailForFlow f b c).station = s.station ∧
      (s.tailForFlow f b c).accepted = s.accepted ∧
      (s.tailForFlow f b c).listenEnd = s.listenEnd ∧
      (s.tailForFlow f b c).time = s.time ∧
      (s.tailForFlow f b c).mapPort = s.mapPort ∧
      (s.tailForFlow f b c).tracker = s.tracker ∧
      (s.tailForFlow f b c).health = s.health ∧
      (s.tailForFlow f b c).sweep = s.sweep ∧
      (s.tailForFlow f b c).out = s.out ∧
      (s.tailForFlow f b c).free = s.free ∧
      (s.tailForFlow f b c).pending = s.pending := by
  unfold State.tailForFlow
  try dsimp only
  repeat' split
  all_goals simp

@[simp] theorem withdrawTake_frame (s : State) (t : TurnKey) (f : Fate) :
    (s.withdrawTake t f).life = s.life ∧
      (s.withdrawTake t f).station = s.station ∧
      (s.withdrawTake t f).accepted = s.accepted ∧
      (s.withdrawTake t f).listenEnd = s.listenEnd ∧
      (s.withdrawTake t f).time = s.time ∧
      (s.withdrawTake t f).chans = s.chans ∧
      (s.withdrawTake t f).store = s.store ∧
      (s.withdrawTake t f).planner = s.planner ∧
      (s.withdrawTake t f).mapPort = s.mapPort ∧
      (s.withdrawTake t f).tracker = s.tracker ∧
      (s.withdrawTake t f).health = s.health ∧
      (s.withdrawTake t f).sweep = s.sweep ∧
      (s.withdrawTake t f).port = s.port ∧
      (s.withdrawTake t f).out = s.out ∧
      (s.withdrawTake t f).free = s.free ∧
      (s.withdrawTake t f).pending = s.pending := by
  unfold State.withdrawTake
  try dsimp only
  repeat' split
  all_goals simp

@[simp] theorem returnBytes_frame (s : State) (t : TurnKey) (f : Flow) (e : Entry) :
    (s.returnBytes t f e).life = s.life ∧
      (s.returnBytes t f e).station = s.station ∧
      (s.returnBytes t f e).accepted = s.accepted ∧
      (s.returnBytes t f e).listenEnd = s.listenEnd ∧
      (s.returnBytes t f e).time = s.time ∧
      (s.returnBytes t f e).mapPort = s.mapPort ∧
      (s.returnBytes t f e).tracker = s.tracker ∧
      (s.returnBytes t f e).health = s.health ∧
      (s.returnBytes t f e).port = s.port ∧
      (s.returnBytes t f e).out = s.out ∧
      (s.returnBytes t f e).free = s.free ∧
      (s.returnBytes t f e).pending = s.pending := by
  unfold State.returnBytes
  try dsimp only
  repeat' split
  all_goals simp

@[simp] theorem unpend_frame (s : State) (t : TurnKey) (tag : Tag) :
    (s.unpend t tag).life = s.life ∧
      (s.unpend t tag).station = s.station ∧
      (s.unpend t tag).accepted = s.accepted ∧
      (s.unpend t tag).listenEnd = s.listenEnd ∧
      (s.unpend t tag).time = s.time ∧
      (s.unpend t tag).mapPort = s.mapPort ∧
      (s.unpend t tag).health = s.health ∧
      (s.unpend t tag).sweep = s.sweep ∧
      (s.unpend t tag).port = s.port ∧
      (s.unpend t tag).out = s.out ∧
      (s.unpend t tag).free = s.free ∧
      (s.unpend t tag).pending = s.pending := by
  unfold State.unpend
  try dsimp only
  repeat' split
  all_goals simp

@[simp] theorem withdrawData_frame (s : State) (t : TurnKey) (e : Entry) :
    (s.withdrawData t e).life = s.life ∧
      (s.withdrawData t e).station = s.station ∧
      (s.withdrawData t e).accepted = s.accepted ∧
      (s.withdrawData t e).listenEnd = s.listenEnd ∧
      (s.withdrawData t e).time = s.time ∧
      (s.withdrawData t e).mapPort = s.mapPort ∧
      (s.withdrawData t e).health = s.health ∧
      (s.withdrawData t e).port = s.port ∧
      (s.withdrawData t e).out = s.out ∧
      (s.withdrawData t e).free = s.free ∧
      (s.withdrawData t e).pending = s.pending := by
  unfold State.withdrawData
  try dsimp only
  repeat' split
  all_goals simp

@[simp] theorem withdrawCadence_frame (s : State) (t : TurnKey) (e : Entry) (late : Bool) :
    (s.withdrawCadence t e late).life = s.life ∧
      (s.withdrawCadence t e late).station = s.station ∧
      (s.withdrawCadence t e late).accepted = s.accepted ∧
      (s.withdrawCadence t e late).listenEnd = s.listenEnd ∧
      (s.withdrawCadence t e late).time = s.time ∧
      (s.withdrawCadence t e late).mapPort = s.mapPort ∧
      (s.withdrawCadence t e late).health = s.health ∧
      (s.withdrawCadence t e late).sweep = s.sweep ∧
      (s.withdrawCadence t e late).port = s.port ∧
      (s.withdrawCadence t e late).out = s.out ∧
      (s.withdrawCadence t e late).free = s.free ∧
      (s.withdrawCadence t e late).pending = s.pending := by
  unfold State.withdrawCadence
  try dsimp only
  repeat' split
  all_goals simp

@[simp] theorem withdrawOrphan_frame (s : State) (t : TurnKey) (e : Entry) :
    (s.withdrawOrphan t e).life = s.life ∧
      (s.withdrawOrphan t e).station = s.station ∧
      (s.withdrawOrphan t e).accepted = s.accepted ∧
      (s.withdrawOrphan t e).listenEnd = s.listenEnd ∧
      (s.withdrawOrphan t e).time = s.time ∧
      (s.withdrawOrphan t e).chans = s.chans ∧
      (s.withdrawOrphan t e).mapPort = s.mapPort ∧
      (s.withdrawOrphan t e).health = s.health ∧
      (s.withdrawOrphan t e).sweep = s.sweep ∧
      (s.withdrawOrphan t e).port = s.port ∧
      (s.withdrawOrphan t e).out = s.out ∧
      (s.withdrawOrphan t e).free = s.free ∧
      (s.withdrawOrphan t e).pending = s.pending := by
  unfold State.withdrawOrphan
  try dsimp only
  repeat' split
  all_goals simp

@[simp] theorem withdrawTurn_frame (s : State) (m : MapName) (e : Entry) (late : Bool) :
    (s.withdrawTurn m e late).life = s.life ∧
      (s.withdrawTurn m e late).station = s.station ∧
      (s.withdrawTurn m e late).accepted = s.accepted ∧
      (s.withdrawTurn m e late).listenEnd = s.listenEnd ∧
      (s.withdrawTurn m e late).time = s.time ∧
      (s.withdrawTurn m e late).mapPort = s.mapPort ∧
      (s.withdrawTurn m e late).health = s.health ∧
      (s.withdrawTurn m e late).port = s.port ∧
      (s.withdrawTurn m e late).out = s.out ∧
      (s.withdrawTurn m e late).free = s.free ∧
      (s.withdrawTurn m e late).pending = s.pending := by
  unfold State.withdrawTurn
  try dsimp only
  repeat' split
  all_goals simp

@[simp] theorem withdrawAll_frame (s : State) (m : MapName) (late : Bool) (es : List Entry) :
    (s.withdrawAll m late es).life = s.life ∧
      (s.withdrawAll m late es).station = s.station ∧
      (s.withdrawAll m late es).accepted = s.accepted ∧
      (s.withdrawAll m late es).listenEnd = s.listenEnd ∧
      (s.withdrawAll m late es).time = s.time ∧
      (s.withdrawAll m late es).mapPort = s.mapPort ∧
      (s.withdrawAll m late es).health = s.health ∧
      (s.withdrawAll m late es).port = s.port ∧
      (s.withdrawAll m late es).out = s.out ∧
      (s.withdrawAll m late es).free = s.free ∧
      (s.withdrawAll m late es).pending = s.pending := by
  unfold State.withdrawAll
  induction es generalizing s with
  | nil => simp
  | cons e r ih => simpa using ih (s.withdrawTurn m e late)

@[simp] theorem discardLate_frame (s : State) (m : TurnMap) :
    (s.discardLate m).life = s.life ∧
      (s.discardLate m).station = s.station ∧
      (s.discardLate m).accepted = s.accepted ∧
      (s.discardLate m).listenEnd = s.listenEnd ∧
      (s.discardLate m).time = s.time ∧
      (s.discardLate m).mapPort = s.mapPort ∧
      (s.discardLate m).health = s.health ∧
      (s.discardLate m).out = s.out ∧
      (s.discardLate m).free = s.free ∧
      (s.discardLate m).pending = s.pending := by
  unfold State.discardLate
  try dsimp only
  all_goals simp

@[simp] theorem handOver_frame (s : State) (m : TurnMap) :
    (s.handOver m).life = s.life ∧
      (s.handOver m).station = s.station ∧
      (s.handOver m).accepted = s.accepted ∧
      (s.handOver m).listenEnd = s.listenEnd ∧
      (s.handOver m).time = s.time ∧
      (s.handOver m).health = s.health ∧
      (s.handOver m).out = s.out ∧
      (s.handOver m).free = s.free ∧
      (s.handOver m).pending = s.pending := by
  unfold State.handOver
  try dsimp only
  repeat' split
  all_goals simp

@[simp] theorem sealAtDeadline_frame (s : State) (m : TurnMap) :
    (s.sealAtDeadline m).life = s.life ∧
      (s.sealAtDeadline m).station = s.station ∧
      (s.sealAtDeadline m).accepted = s.accepted ∧
      (s.sealAtDeadline m).listenEnd = s.listenEnd ∧
      (s.sealAtDeadline m).time = s.time ∧
      (s.sealAtDeadline m).health = s.health ∧
      (s.sealAtDeadline m).out = s.out ∧
      (s.sealAtDeadline m).pending = s.pending := by
  unfold State.sealAtDeadline
  try dsimp only
  all_goals simp

@[simp] theorem handIfSettled_frame (s : State) (n : MapName) :
    (s.handIfSettled n).life = s.life ∧
      (s.handIfSettled n).station = s.station ∧
      (s.handIfSettled n).accepted = s.accepted ∧
      (s.handIfSettled n).listenEnd = s.listenEnd ∧
      (s.handIfSettled n).time = s.time ∧
      (s.handIfSettled n).health = s.health ∧
      (s.handIfSettled n).out = s.out ∧
      (s.handIfSettled n).free = s.free ∧
      (s.handIfSettled n).pending = s.pending := by
  unfold State.handIfSettled
  try dsimp only
  repeat' split
  all_goals simp

@[simp] theorem dropEntry_frame (s : State) (t : TurnKey) :
    (s.dropEntry t).life = s.life ∧
      (s.dropEntry t).station = s.station ∧
      (s.dropEntry t).accepted = s.accepted ∧
      (s.dropEntry t).listenEnd = s.listenEnd ∧
      (s.dropEntry t).time = s.time ∧
      (s.dropEntry t).chans = s.chans ∧
      (s.dropEntry t).store = s.store ∧
      (s.dropEntry t).mapPort = s.mapPort ∧
      (s.dropEntry t).link = s.link ∧
      (s.dropEntry t).tracker = s.tracker ∧
      (s.dropEntry t).health = s.health ∧
      (s.dropEntry t).sweep = s.sweep ∧
      (s.dropEntry t).port = s.port ∧
      (s.dropEntry t).out = s.out ∧
      (s.dropEntry t).free = s.free ∧
      (s.dropEntry t).pending = s.pending := by
  unfold State.dropEntry
  try dsimp only
  all_goals simp

@[simp] theorem orphanTurns_frame (s : State) (tag : Tag) :
    (s.orphanTurns tag).life = s.life ∧
      (s.orphanTurns tag).station = s.station ∧
      (s.orphanTurns tag).accepted = s.accepted ∧
      (s.orphanTurns tag).listenEnd = s.listenEnd ∧
      (s.orphanTurns tag).time = s.time ∧
      (s.orphanTurns tag).chans = s.chans ∧
      (s.orphanTurns tag).store = s.store ∧
      (s.orphanTurns tag).link = s.link ∧
      (s.orphanTurns tag).health = s.health ∧
      (s.orphanTurns tag).sweep = s.sweep ∧
      (s.orphanTurns tag).port = s.port ∧
      (s.orphanTurns tag).out = s.out ∧
      (s.orphanTurns tag).free = s.free ∧
      (s.orphanTurns tag).pending = s.pending := by
  unfold State.orphanTurns
  try dsimp only
  all_goals simp

@[simp] theorem withdrawStranded_frame (s : State) (t : TurnKey) :
    (s.withdrawStranded t).life = s.life ∧
      (s.withdrawStranded t).station = s.station ∧
      (s.withdrawStranded t).accepted = s.accepted ∧
      (s.withdrawStranded t).listenEnd = s.listenEnd ∧
      (s.withdrawStranded t).time = s.time ∧
      (s.withdrawStranded t).chans = s.chans ∧
      (s.withdrawStranded t).store = s.store ∧
      (s.withdrawStranded t).mapPort = s.mapPort ∧
      (s.withdrawStranded t).link = s.link ∧
      (s.withdrawStranded t).health = s.health ∧
      (s.withdrawStranded t).sweep = s.sweep ∧
      (s.withdrawStranded t).port = s.port ∧
      (s.withdrawStranded t).out = s.out ∧
      (s.withdrawStranded t).free = s.free ∧
      (s.withdrawStranded t).pending = s.pending := by
  unfold State.withdrawStranded
  try dsimp only
  all_goals simp

@[simp] theorem beginStep_frame (s : State)  :
    (s.beginStep).life = s.life ∧
      (s.beginStep).station = s.station ∧
      (s.beginStep).accepted = s.accepted ∧
      (s.beginStep).listenEnd = s.listenEnd ∧
      (s.beginStep).time = s.time ∧
      (s.beginStep).chans = s.chans ∧
      (s.beginStep).store = s.store ∧
      (s.beginStep).planner = s.planner ∧
      (s.beginStep).mapPort = s.mapPort ∧
      (s.beginStep).link = s.link ∧
      (s.beginStep).tracker = s.tracker ∧
      (s.beginStep).health = s.health ∧
      (s.beginStep).port = s.port ∧
      (s.beginStep).out = s.out ∧
      (s.beginStep).free = s.free ∧
      (s.beginStep).pending = s.pending := by
  unfold State.beginStep
  try dsimp only
  repeat' split
  all_goals simp

/-- All that `beginStep` can do. -/
theorem beginStep_sweep (s : State) :
    s.beginStep.sweep =
      if s.sweep.state = .running ∧ s.sweep.step = none ∧ s.planner.building = none then
        { s.sweep with step := some ⟨s.cursorFlow.map (·.tag)⟩ }
      else s.sweep := by
  unfold State.beginStep
  split <;> rfl

@[simp] theorem abandonStep_frame (s : State) (tag : Tag) :
    (s.abandonStep tag).life = s.life ∧
      (s.abandonStep tag).station = s.station ∧
      (s.abandonStep tag).accepted = s.accepted ∧
      (s.abandonStep tag).listenEnd = s.listenEnd ∧
      (s.abandonStep tag).time = s.time ∧
      (s.abandonStep tag).chans = s.chans ∧
      (s.abandonStep tag).store = s.store ∧
      (s.abandonStep tag).planner = s.planner ∧
      (s.abandonStep tag).mapPort = s.mapPort ∧
      (s.abandonStep tag).link = s.link ∧
      (s.abandonStep tag).tracker = s.tracker ∧
      (s.abandonStep tag).health = s.health ∧
      (s.abandonStep tag).port = s.port ∧
      (s.abandonStep tag).out = s.out ∧
      (s.abandonStep tag).free = s.free ∧
      (s.abandonStep tag).pending = s.pending := by
  unfold State.abandonStep
  try dsimp only
  repeat' split
  all_goals simp

theorem foldl_hand_frame (s : State) (ns : List MapName) :
    (ns.foldl (fun s n => s.handIfSettled n) s).life = s.life ∧
      (ns.foldl (fun s n => s.handIfSettled n) s).station = s.station ∧
      (ns.foldl (fun s n => s.handIfSettled n) s).accepted = s.accepted ∧
      (ns.foldl (fun s n => s.handIfSettled n) s).listenEnd = s.listenEnd ∧
      (ns.foldl (fun s n => s.handIfSettled n) s).time = s.time ∧
      (ns.foldl (fun s n => s.handIfSettled n) s).health = s.health ∧
      (ns.foldl (fun s n => s.handIfSettled n) s).out = s.out ∧
      (ns.foldl (fun s n => s.handIfSettled n) s).free = s.free ∧
      (ns.foldl (fun s n => s.handIfSettled n) s).pending = s.pending := by
  induction ns generalizing s with
  | nil => simp
  | cons a r ih => simp [ih]

@[simp] theorem handAll_frame (s : State) (ns : List MapName) :
    (s.handAll ns).life = s.life ∧
      (s.handAll ns).station = s.station ∧
      (s.handAll ns).accepted = s.accepted ∧
      (s.handAll ns).listenEnd = s.listenEnd ∧
      (s.handAll ns).time = s.time ∧
      (s.handAll ns).health = s.health ∧
      (s.handAll ns).out = s.out ∧
      (s.handAll ns).pending = s.pending := by
  unfold State.handAll
  simp [foldl_hand_frame]


@[simp] theorem lowerFlowCount_frame (s : State) (i : Nat) :
    (s.lowerFlowCount i).life = s.life ∧
      (s.lowerFlowCount i).station = s.station ∧
      (s.lowerFlowCount i).accepted = s.accepted ∧
      (s.lowerFlowCount i).listenEnd = s.listenEnd ∧
      (s.lowerFlowCount i).time = s.time ∧
      (s.lowerFlowCount i).chans = s.chans ∧
      (s.lowerFlowCount i).planner = s.planner ∧
      (s.lowerFlowCount i).mapPort = s.mapPort ∧
      (s.lowerFlowCount i).link = s.link ∧
      (s.lowerFlowCount i).tracker = s.tracker ∧
      (s.lowerFlowCount i).health = s.health ∧
      (s.lowerFlowCount i).sweep = s.sweep ∧
      (s.lowerFlowCount i).port = s.port ∧
      (s.lowerFlowCount i).out = s.out ∧
      (s.lowerFlowCount i).free = s.free ∧
      (s.lowerFlowCount i).pending = s.pending := by
  unfold State.lowerFlowCount
  try dsimp only
  repeat' split
  all_goals simp

@[simp] theorem unbind_frame (s : State) (tag : Tag) (ix : Nat) :
    (s.unbind tag ix).life = s.life ∧
      (s.unbind tag ix).station = s.station ∧
      (s.unbind tag ix).accepted = s.accepted ∧
      (s.unbind tag ix).listenEnd = s.listenEnd ∧
      (s.unbind tag ix).time = s.time ∧
      (s.unbind tag ix).chans = s.chans ∧
      (s.unbind tag ix).planner = s.planner ∧
      (s.unbind tag ix).mapPort = s.mapPort ∧
      (s.unbind tag ix).link = s.link ∧
      (s.unbind tag ix).tracker = s.tracker ∧
      (s.unbind tag ix).health = s.health ∧
      (s.unbind tag ix).sweep = s.sweep ∧
      (s.unbind tag ix).port = s.port ∧
      (s.unbind tag ix).out = s.out ∧
      (s.unbind tag ix).free = s.free ∧
      (s.unbind tag ix).pending = s.pending := by
  unfold State.unbind
  try dsimp only
  repeat' split
  all_goals simp

theorem foldl_stranded_frame (s : State) (ts : List TurnKey) :
    (ts.foldl State.withdrawStranded s).life = s.life ∧
      (ts.foldl State.withdrawStranded s).station = s.station ∧
      (ts.foldl State.withdrawStranded s).accepted = s.accepted ∧
      (ts.foldl State.withdrawStranded s).listenEnd = s.listenEnd ∧
      (ts.foldl State.withdrawStranded s).time = s.time ∧
      (ts.foldl State.withdrawStranded s).chans = s.chans ∧
      (ts.foldl State.withdrawStranded s).store = s.store ∧
      (ts.foldl State.withdrawStranded s).mapPort = s.mapPort ∧
      (ts.foldl State.withdrawStranded s).link = s.link ∧
      (ts.foldl State.withdrawStranded s).health = s.health ∧
      (ts.foldl State.withdrawStranded s).sweep = s.sweep ∧
      (ts.foldl State.withdrawStranded s).port = s.port ∧
      (ts.foldl State.withdrawStranded s).out = s.out ∧
      (ts.foldl State.withdrawStranded s).free = s.free ∧
      (ts.foldl State.withdrawStranded s).pending = s.pending := by
  induction ts generalizing s with
  | nil => simp
  | cons a r ih => simp [ih]

@[simp] theorem removeFlow_frame (s : State) (tag : Tag) (ix : Nat) (f : Flow) :
    (s.removeFlow tag ix f).life = s.life ∧
      (s.removeFlow tag ix f).station = s.station ∧
      (s.removeFlow tag ix f).accepted = s.accepted ∧
      (s.removeFlow tag ix f).listenEnd = s.listenEnd ∧
      (s.removeFlow tag ix f).time = s.time ∧
      (s.removeFlow tag ix f).health = s.health ∧
      (s.removeFlow tag ix f).out = s.out ∧
      (s.removeFlow tag ix f).pending = s.pending := by
  unfold State.removeFlow
  simp [foldl_stranded_frame]


@[simp] theorem countSleep_frame (s : State) (f : Flow) (r : TurnResult) :
    (s.countSleep f r).life = s.life ∧
      (s.countSleep f r).station = s.station ∧
      (s.countSleep f r).accepted = s.accepted ∧
      (s.countSleep f r).listenEnd = s.listenEnd ∧
      (s.countSleep f r).time = s.time ∧
      (s.countSleep f r).store = s.store ∧
      (s.countSleep f r).planner = s.planner ∧
      (s.countSleep f r).mapPort = s.mapPort ∧
      (s.countSleep f r).link = s.link ∧
      (s.countSleep f r).tracker = s.tracker ∧
      (s.countSleep f r).health = s.health ∧
      (s.countSleep f r).sweep = s.sweep ∧
      (s.countSleep f r).port = s.port ∧
      (s.countSleep f r).out = s.out ∧
      (s.countSleep f r).free = s.free ∧
      (s.countSleep f r).pending = s.pending := by
  unfold State.countSleep
  try dsimp only
  repeat' split
  all_goals simp

@[simp] theorem reportForFlow_frame (s : State) (f : Flow) (r : OutcomeReport) (res : TurnResult) :
    (s.reportForFlow f r res).life = s.life ∧
      (s.reportForFlow f r res).station = s.station ∧
      (s.reportForFlow f r res).accepted = s.accepted ∧
      (s.reportForFlow f r res).listenEnd = s.listenEnd ∧
      (s.reportForFlow f r res).time = s.time ∧
      (s.reportForFlow f r res).mapPort = s.mapPort ∧
      (s.reportForFlow f r res).tracker = s.tracker ∧
      (s.reportForFlow f r res).health = s.health ∧
      (s.reportForFlow f r res).sweep = s.sweep ∧
      (s.reportForFlow f r res).out = s.out ∧
      (s.reportForFlow f r res).free = s.free ∧
      (s.reportForFlow f r res).pending = s.pending := by
  unfold State.reportForFlow
  try dsimp only
  repeat' split
  all_goals simp

@[simp] theorem reportForOrphan_frame (s : State) (e : PendingEntry) (r : OutcomeReport) (res : TurnResult) :
    (s.reportForOrphan e r res).life = s.life ∧
      (s.reportForOrphan e r res).station = s.station ∧
      (s.reportForOrphan e r res).accepted = s.accepted ∧
      (s.reportForOrphan e r res).listenEnd = s.listenEnd ∧
      (s.reportForOrphan e r res).time = s.time ∧
      (s.reportForOrphan e r res).planner = s.planner ∧
      (s.reportForOrphan e r res).mapPort = s.mapPort ∧
      (s.reportForOrphan e r res).link = s.link ∧
      (s.reportForOrphan e r res).tracker = s.tracker ∧
      (s.reportForOrphan e r res).health = s.health ∧
      (s.reportForOrphan e r res).sweep = s.sweep ∧
      (s.reportForOrphan e r res).port = s.port ∧
      (s.reportForOrphan e r res).out = s.out ∧
      (s.reportForOrphan e r res).free = s.free ∧
      (s.reportForOrphan e r res).pending = s.pending := by
  unfold State.reportForOrphan
  try dsimp only
  repeat' split
  all_goals simp

@[simp] theorem erasePending_frame (s : State) (e : PendingEntry) :
    (s.erasePending e).life = s.life ∧
      (s.erasePending e).station = s.station ∧
      (s.erasePending e).accepted = s.accepted ∧
      (s.erasePending e).listenEnd = s.listenEnd ∧
      (s.erasePending e).time = s.time ∧
      (s.erasePending e).chans = s.chans ∧
      (s.erasePending e).store = s.store ∧
      (s.erasePending e).planner = s.planner ∧
      (s.erasePending e).mapPort = s.mapPort ∧
      (s.erasePending e).link = s.link ∧
      (s.erasePending e).health = s.health ∧
      (s.erasePending e).sweep = s.sweep ∧
      (s.erasePending e).port = s.port ∧
      (s.erasePending e).out = s.out ∧
      (s.erasePending e).free = s.free ∧
      (s.erasePending e).pending = s.pending := by
  unfold State.erasePending
  try dsimp only
  all_goals simp

@[simp] theorem consume_frame (s : State) (e : PendingEntry) (r : OutcomeReport) (res : TurnResult) :
    (s.consume e r res).life = s.life ∧
      (s.consume e r res).station = s.station ∧
      (s.consume e r res).accepted = s.accepted ∧
      (s.consume e r res).listenEnd = s.listenEnd ∧
      (s.consume e r res).time = s.time ∧
      (s.consume e r res).mapPort = s.mapPort ∧
      (s.consume e r res).sweep = s.sweep ∧
      (s.consume e r res).out = s.out ∧
      (s.consume e r res).free = s.free ∧
      (s.consume e r res).pending = s.pending := by
  unfold State.consume
  try dsimp only
  repeat' split
  all_goals simp

@[simp] theorem stray_frame (s : State) (r : OutcomeReport) (res : TurnResult) :
    (s.stray r res).life = s.life ∧
      (s.stray r res).station = s.station ∧
      (s.stray r res).accepted = s.accepted ∧
      (s.stray r res).listenEnd = s.listenEnd ∧
      (s.stray r res).time = s.time ∧
      (s.stray r res).store = s.store ∧
      (s.stray r res).planner = s.planner ∧
      (s.stray r res).mapPort = s.mapPort ∧
      (s.stray r res).link = s.link ∧
      (s.stray r res).tracker = s.tracker ∧
      (s.stray r res).health = s.health ∧
      (s.stray r res).sweep = s.sweep ∧
      (s.stray r res).port = s.port ∧
      (s.stray r res).out = s.out ∧
      (s.stray r res).free = s.free ∧
      (s.stray r res).pending = s.pending := by
  unfold State.stray
  try dsimp only
  repeat' split
  all_goals simp

@[simp] theorem takeReport_frame (s : State) (r : OutcomeReport) :
    (s.takeReport r).life = s.life ∧
      (s.takeReport r).station = s.station ∧
      (s.takeReport r).accepted = s.accepted ∧
      (s.takeReport r).listenEnd = s.listenEnd ∧
      (s.takeReport r).time = s.time ∧
      (s.takeReport r).mapPort = s.mapPort ∧
      (s.takeReport r).sweep = s.sweep ∧
      (s.takeReport r).out = s.out ∧
      (s.takeReport r).free = s.free ∧
      (s.takeReport r).pending = s.pending := by
  unfold State.takeReport
  try dsimp only
  repeat' split
  all_goals simp

@[simp] theorem expireEntry_frame (s : State) (e : PendingEntry) :
    (s.expireEntry e).life = s.life ∧
      (s.expireEntry e).station = s.station ∧
      (s.expireEntry e).accepted = s.accepted ∧
      (s.expireEntry e).listenEnd = s.listenEnd ∧
      (s.expireEntry e).time = s.time ∧
      (s.expireEntry e).mapPort = s.mapPort ∧
      (s.expireEntry e).sweep = s.sweep ∧
      (s.expireEntry e).out = s.out ∧
      (s.expireEntry e).free = s.free ∧
      (s.expireEntry e).pending = s.pending := by
  unfold State.expireEntry
  try dsimp only
  repeat' split
  all_goals simp

theorem foldl_expire_frame (s : State) (es : List PendingEntry) :
    (es.foldl State.expireEntry s).life = s.life ∧
      (es.foldl State.expireEntry s).station = s.station ∧
      (es.foldl State.expireEntry s).accepted = s.accepted ∧
      (es.foldl State.expireEntry s).listenEnd = s.listenEnd ∧
      (es.foldl State.expireEntry s).time = s.time ∧
      (es.foldl State.expireEntry s).mapPort = s.mapPort ∧
      (es.foldl State.expireEntry s).sweep = s.sweep ∧
      (es.foldl State.expireEntry s).out = s.out ∧
      (es.foldl State.expireEntry s).free = s.free ∧
      (es.foldl State.expireEntry s).pending = s.pending := by
  induction es generalizing s with
  | nil => simp
  | cons a r ih => simp [ih]

@[simp] theorem expire_frame (s : State) (t : Tick) :
    (s.expire t).life = s.life ∧
      (s.expire t).station = s.station ∧
      (s.expire t).accepted = s.accepted ∧
      (s.expire t).listenEnd = s.listenEnd ∧
      (s.expire t).time = s.time ∧
      (s.expire t).mapPort = s.mapPort ∧
      (s.expire t).sweep = s.sweep ∧
      (s.expire t).out = s.out ∧
      (s.expire t).free = s.free ∧
      (s.expire t).pending = s.pending := by
  unfold State.expire
  simp [foldl_expire_frame]


@[simp] theorem takeTally_frame (s : State) (r : WindowTally) :
    (s.takeTally r).life = s.life ∧
      (s.takeTally r).station = s.station ∧
      (s.takeTally r).accepted = s.accepted ∧
      (s.takeTally r).listenEnd = s.listenEnd ∧
      (s.takeTally r).time = s.time ∧
      (s.takeTally r).store = s.store ∧
      (s.takeTally r).planner = s.planner ∧
      (s.takeTally r).mapPort = s.mapPort ∧
      (s.takeTally r).link = s.link ∧
      (s.takeTally r).tracker = s.tracker ∧
      (s.takeTally r).health = s.health ∧
      (s.takeTally r).sweep = s.sweep ∧
      (s.takeTally r).port = s.port ∧
      (s.takeTally r).out = s.out ∧
      (s.takeTally r).free = s.free ∧
      (s.takeTally r).pending = s.pending := by
  unfold State.takeTally
  try dsimp only
  repeat' split
  all_goals simp

@[simp] theorem takeArrival_frame (s : State) (r : ArrivalRecord) :
    (s.takeArrival r).life = s.life ∧
      (s.takeArrival r).station = s.station ∧
      (s.takeArrival r).accepted = s.accepted ∧
      (s.takeArrival r).listenEnd = s.listenEnd ∧
      (s.takeArrival r).time = s.time ∧
      (s.takeArrival r).store = s.store ∧
      (s.takeArrival r).planner = s.planner ∧
      (s.takeArrival r).mapPort = s.mapPort ∧
      (s.takeArrival r).link = s.link ∧
      (s.takeArrival r).health = s.health ∧
      (s.takeArrival r).sweep = s.sweep ∧
      (s.takeArrival r).out = s.out ∧
      (s.takeArrival r).free = s.free ∧
      (s.takeArrival r).pending = s.pending := by
  unfold State.takeArrival
  try dsimp only
  repeat' split
  all_goals simp

@[simp] theorem modBuild_frame (s : State) (g : Build → Build) :
    (s.modBuild g).life = s.life ∧
      (s.modBuild g).station = s.station ∧
      (s.modBuild g).accepted = s.accepted ∧
      (s.modBuild g).listenEnd = s.listenEnd ∧
      (s.modBuild g).time = s.time ∧
      (s.modBuild g).chans = s.chans ∧
      (s.modBuild g).store = s.store ∧
      (s.modBuild g).mapPort = s.mapPort ∧
      (s.modBuild g).link = s.link ∧
      (s.modBuild g).tracker = s.tracker ∧
      (s.modBuild g).health = s.health ∧
      (s.modBuild g).sweep = s.sweep ∧
      (s.modBuild g).port = s.port ∧
      (s.modBuild g).out = s.out ∧
      (s.modBuild g).free = s.free ∧
      (s.modBuild g).pending = s.pending := by
  unfold State.modBuild
  try dsimp only
  all_goals simp

@[simp] theorem setPhase_frame (s : State) (p : Phase) :
    (s.setPhase p).life = s.life ∧
      (s.setPhase p).station = s.station ∧
      (s.setPhase p).accepted = s.accepted ∧
      (s.setPhase p).listenEnd = s.listenEnd ∧
      (s.setPhase p).time = s.time ∧
      (s.setPhase p).chans = s.chans ∧
      (s.setPhase p).store = s.store ∧
      (s.setPhase p).mapPort = s.mapPort ∧
      (s.setPhase p).link = s.link ∧
      (s.setPhase p).tracker = s.tracker ∧
      (s.setPhase p).health = s.health ∧
      (s.setPhase p).sweep = s.sweep ∧
      (s.setPhase p).port = s.port ∧
      (s.setPhase p).out = s.out ∧
      (s.setPhase p).free = s.free ∧
      (s.setPhase p).pending = s.pending := by
  unfold State.setPhase
  try dsimp only
  all_goals simp

@[simp] theorem placeEntry_frame (s : State) (e : Entry) :
    (s.placeEntry e).life = s.life ∧
      (s.placeEntry e).station = s.station ∧
      (s.placeEntry e).accepted = s.accepted ∧
      (s.placeEntry e).listenEnd = s.listenEnd ∧
      (s.placeEntry e).time = s.time ∧
      (s.placeEntry e).chans = s.chans ∧
      (s.placeEntry e).store = s.store ∧
      (s.placeEntry e).mapPort = s.mapPort ∧
      (s.placeEntry e).link = s.link ∧
      (s.placeEntry e).tracker = s.tracker ∧
      (s.placeEntry e).health = s.health ∧
      (s.placeEntry e).sweep = s.sweep ∧
      (s.placeEntry e).port = s.port ∧
      (s.placeEntry e).out = s.out ∧
      (s.placeEntry e).free = s.free ∧
      (s.placeEntry e).pending = s.pending := by
  unfold State.placeEntry
  try dsimp only
  all_goals simp

@[simp] theorem openPending_frame (s : State) (e : PendingEntry) :
    (s.openPending e).life = s.life ∧
      (s.openPending e).station = s.station ∧
      (s.openPending e).accepted = s.accepted ∧
      (s.openPending e).listenEnd = s.listenEnd ∧
      (s.openPending e).time = s.time ∧
      (s.openPending e).chans = s.chans ∧
      (s.openPending e).store = s.store ∧
      (s.openPending e).planner = s.planner ∧
      (s.openPending e).mapPort = s.mapPort ∧
      (s.openPending e).link = s.link ∧
      (s.openPending e).health = s.health ∧
      (s.openPending e).sweep = s.sweep ∧
      (s.openPending e).port = s.port ∧
      (s.openPending e).out = s.out ∧
      (s.openPending e).free = s.free ∧
      (s.openPending e).pending = s.pending := by
  unfold State.openPending
  try dsimp only
  all_goals simp

@[simp] theorem addLocalHold_frame (s : State) (m : MapName) (key : Key) (e : Entry) :
    (s.addLocalHold m key e).life = s.life ∧
      (s.addLocalHold m key e).station = s.station ∧
      (s.addLocalHold m key e).accepted = s.accepted ∧
      (s.addLocalHold m key e).listenEnd = s.listenEnd ∧
      (s.addLocalHold m key e).time = s.time ∧
      (s.addLocalHold m key e).chans = s.chans ∧
      (s.addLocalHold m key e).store = s.store ∧
      (s.addLocalHold m key e).mapPort = s.mapPort ∧
      (s.addLocalHold m key e).link = s.link ∧
      (s.addLocalHold m key e).tracker = s.tracker ∧
      (s.addLocalHold m key e).health = s.health ∧
      (s.addLocalHold m key e).sweep = s.sweep ∧
      (s.addLocalHold m key e).port = s.port ∧
      (s.addLocalHold m key e).out = s.out ∧
      (s.addLocalHold m key e).free = s.free ∧
      (s.addLocalHold m key e).pending = s.pending := by
  unfold State.addLocalHold
  try dsimp only
  all_goals simp

@[simp] theorem queueTakeHold_frame (s : State) (m : MapName) (f : Flow) (e : Entry) (b : Nat) :
    (s.queueTakeHold m f e b).life = s.life ∧
      (s.queueTakeHold m f e b).station = s.station ∧
      (s.queueTakeHold m f e b).accepted = s.accepted ∧
      (s.queueTakeHold m f e b).listenEnd = s.listenEnd ∧
      (s.queueTakeHold m f e b).time = s.time ∧
      (s.queueTakeHold m f e b).chans = s.chans ∧
      (s.queueTakeHold m f e b).store = s.store ∧
      (s.queueTakeHold m f e b).planner = s.planner ∧
      (s.queueTakeHold m f e b).mapPort = s.mapPort ∧
      (s.queueTakeHold m f e b).tracker = s.tracker ∧
      (s.queueTakeHold m f e b).health = s.health ∧
      (s.queueTakeHold m f e b).sweep = s.sweep ∧
      (s.queueTakeHold m f e b).port = s.port ∧
      (s.queueTakeHold m f e b).out = s.out ∧
      (s.queueTakeHold m f e b).free = s.free ∧
      (s.queueTakeHold m f e b).pending = s.pending := by
  unfold State.queueTakeHold
  try dsimp only
  all_goals simp

@[simp] theorem dropOccurrences_frame (s : State) (m : MapName) (f : Flow) :
    (s.dropOccurrences m f).life = s.life ∧
      (s.dropOccurrences m f).station = s.station ∧
      (s.dropOccurrences m f).accepted = s.accepted ∧
      (s.dropOccurrences m f).listenEnd = s.listenEnd ∧
      (s.dropOccurrences m f).time = s.time ∧
      (s.dropOccurrences m f).mapPort = s.mapPort ∧
      (s.dropOccurrences m f).link = s.link ∧
      (s.dropOccurrences m f).tracker = s.tracker ∧
      (s.dropOccurrences m f).sweep = s.sweep ∧
      (s.dropOccurrences m f).port = s.port ∧
      (s.dropOccurrences m f).out = s.out ∧
      (s.dropOccurrences m f).free = s.free ∧
      (s.dropOccurrences m f).pending = s.pending := by
  unfold State.dropOccurrences
  try dsimp only
  all_goals simp

theorem foldl_drop_frame (s : State) (fs : List Flow) (m : MapName) :
    (fs.foldl (fun s f => s.dropOccurrences m f) s).life = s.life ∧
      (fs.foldl (fun s f => s.dropOccurrences m f) s).station = s.station ∧
      (fs.foldl (fun s f => s.dropOccurrences m f) s).accepted = s.accepted ∧
      (fs.foldl (fun s f => s.dropOccurrences m f) s).listenEnd = s.listenEnd ∧
      (fs.foldl (fun s f => s.dropOccurrences m f) s).time = s.time ∧
      (fs.foldl (fun s f => s.dropOccurrences m f) s).mapPort = s.mapPort ∧
      (fs.foldl (fun s f => s.dropOccurrences m f) s).link = s.link ∧
      (fs.foldl (fun s f => s.dropOccurrences m f) s).tracker = s.tracker ∧
      (fs.foldl (fun s f => s.dropOccurrences m f) s).sweep = s.sweep ∧
      (fs.foldl (fun s f => s.dropOccurrences m f) s).port = s.port ∧
      (fs.foldl (fun s f => s.dropOccurrences m f) s).out = s.out ∧
      (fs.foldl (fun s f => s.dropOccurrences m f) s).free = s.free ∧
      (fs.foldl (fun s f => s.dropOccurrences m f) s).pending = s.pending := by
  induction fs generalizing s with
  | nil => simp
  | cons a r ih => simp [ih]

@[simp] theorem dropLate_frame (s : State) (m : MapName) :
    (s.dropLate m).life = s.life ∧
      (s.dropLate m).station = s.station ∧
      (s.dropLate m).accepted = s.accepted ∧
      (s.dropLate m).listenEnd = s.listenEnd ∧
      (s.dropLate m).time = s.time ∧
      (s.dropLate m).mapPort = s.mapPort ∧
      (s.dropLate m).link = s.link ∧
      (s.dropLate m).tracker = s.tracker ∧
      (s.dropLate m).sweep = s.sweep ∧
      (s.dropLate m).port = s.port ∧
      (s.dropLate m).out = s.out ∧
      (s.dropLate m).pending = s.pending := by
  unfold State.dropLate
  simp [foldl_drop_frame]


@[simp] theorem blocked_frame (s : State) (c : Chan) :
    (s.blocked c).life = s.life ∧
      (s.blocked c).station = s.station ∧
      (s.blocked c).accepted = s.accepted ∧
      (s.blocked c).listenEnd = s.listenEnd ∧
      (s.blocked c).time = s.time ∧
      (s.blocked c).store = s.store ∧
      (s.blocked c).planner = s.planner ∧
      (s.blocked c).mapPort = s.mapPort ∧
      (s.blocked c).link = s.link ∧
      (s.blocked c).tracker = s.tracker ∧
      (s.blocked c).health = s.health ∧
      (s.blocked c).sweep = s.sweep ∧
      (s.blocked c).port = s.port ∧
      (s.blocked c).out = s.out ∧
      (s.blocked c).free = s.free ∧
      (s.blocked c).pending = s.pending := by
  unfold State.blocked
  try dsimp only
  all_goals simp

@[simp] theorem placeCadence_frame (s : State) (n : MapName) (f : Flow) (m : Modem) (c : Cadence) (slot need : Nat) :
    (s.placeCadence n f m c slot need).life = s.life ∧
      (s.placeCadence n f m c slot need).station = s.station ∧
      (s.placeCadence n f m c slot need).accepted = s.accepted ∧
      (s.placeCadence n f m c slot need).listenEnd = s.listenEnd ∧
      (s.placeCadence n f m c slot need).time = s.time ∧
      (s.placeCadence n f m c slot need).mapPort = s.mapPort ∧
      (s.placeCadence n f m c slot need).health = s.health ∧
      (s.placeCadence n f m c slot need).sweep = s.sweep ∧
      (s.placeCadence n f m c slot need).port = s.port ∧
      (s.placeCadence n f m c slot need).out = s.out ∧
      (s.placeCadence n f m c slot need).free = s.free ∧
      (s.placeCadence n f m c slot need).pending = s.pending := by
  unfold State.placeCadence
  try dsimp only
  repeat' split
  all_goals simp

@[simp] theorem positionCadence_frame (s : State) (b : Build) (f : Flow) (m : Modem) (c : Cadence) :
    (s.positionCadence b f m c).life = s.life ∧
      (s.positionCadence b f m c).station = s.station ∧
      (s.positionCadence b f m c).accepted = s.accepted ∧
      (s.positionCadence b f m c).listenEnd = s.listenEnd ∧
      (s.positionCadence b f m c).time = s.time ∧
      (s.positionCadence b f m c).mapPort = s.mapPort ∧
      (s.positionCadence b f m c).health = s.health ∧
      (s.positionCadence b f m c).sweep = s.sweep ∧
      (s.positionCadence b f m c).port = s.port ∧
      (s.positionCadence b f m c).out = s.out ∧
      (s.positionCadence b f m c).free = s.free ∧
      (s.positionCadence b f m c).pending = s.pending := by
  unfold State.positionCadence
  try dsimp only
  repeat' split
  all_goals simp

@[simp] theorem handleCadence_frame (s : State) (b : Build) (tag : Tag) :
    (s.handleCadence b tag).life = s.life ∧
      (s.handleCadence b tag).station = s.station ∧
      (s.handleCadence b tag).accepted = s.accepted ∧
      (s.handleCadence b tag).listenEnd = s.listenEnd ∧
      (s.handleCadence b tag).time = s.time ∧
      (s.handleCadence b tag).mapPort = s.mapPort ∧
      (s.handleCadence b tag).health = s.health ∧
      (s.handleCadence b tag).sweep = s.sweep ∧
      (s.handleCadence b tag).port = s.port ∧
      (s.handleCadence b tag).out = s.out ∧
      (s.handleCadence b tag).free = s.free ∧
      (s.handleCadence b tag).pending = s.pending := by
  unfold State.handleCadence
  try dsimp only
  repeat' split
  all_goals simp

@[simp] theorem placeJoin_frame (s : State) (b : Build) :
    (s.placeJoin b).life = s.life ∧
      (s.placeJoin b).station = s.station ∧
      (s.placeJoin b).accepted = s.accepted ∧
      (s.placeJoin b).listenEnd = s.listenEnd ∧
      (s.placeJoin b).time = s.time ∧
      (s.placeJoin b).store = s.store ∧
      (s.placeJoin b).mapPort = s.mapPort ∧
      (s.placeJoin b).link = s.link ∧
      (s.placeJoin b).tracker = s.tracker ∧
      (s.placeJoin b).health = s.health ∧
      (s.placeJoin b).sweep = s.sweep ∧
      (s.placeJoin b).port = s.port ∧
      (s.placeJoin b).out = s.out ∧
      (s.placeJoin b).free = s.free ∧
      (s.placeJoin b).pending = s.pending := by
  unfold State.placeJoin
  try dsimp only
  repeat' split
  all_goals simp

@[simp] theorem placeBid_frame (s : State) (b : Build) :
    (s.placeBid b).life = s.life ∧
      (s.placeBid b).station = s.station ∧
      (s.placeBid b).accepted = s.accepted ∧
      (s.placeBid b).listenEnd = s.listenEnd ∧
      (s.placeBid b).time = s.time ∧
      (s.placeBid b).store = s.store ∧
      (s.placeBid b).mapPort = s.mapPort ∧
      (s.placeBid b).link = s.link ∧
      (s.placeBid b).tracker = s.tracker ∧
      (s.placeBid b).health = s.health ∧
      (s.placeBid b).sweep = s.sweep ∧
      (s.placeBid b).port = s.port ∧
      (s.placeBid b).out = s.out ∧
      (s.placeBid b).free = s.free ∧
      (s.placeBid b).pending = s.pending := by
  unfold State.placeBid
  try dsimp only
  repeat' split
  all_goals simp

@[simp] theorem queueTake_frame (s : State) (n : MapName) (f : Flow) (m : Modem) (e : Entry) :
    (s.queueTake n f m e).life = s.life ∧
      (s.queueTake n f m e).station = s.station ∧
      (s.queueTake n f m e).accepted = s.accepted ∧
      (s.queueTake n f m e).listenEnd = s.listenEnd ∧
      (s.queueTake n f m e).time = s.time ∧
      (s.queueTake n f m e).chans = s.chans ∧
      (s.queueTake n f m e).store = s.store ∧
      (s.queueTake n f m e).planner = s.planner ∧
      (s.queueTake n f m e).mapPort = s.mapPort ∧
      (s.queueTake n f m e).tracker = s.tracker ∧
      (s.queueTake n f m e).health = s.health ∧
      (s.queueTake n f m e).sweep = s.sweep ∧
      (s.queueTake n f m e).port = s.port ∧
      (s.queueTake n f m e).out = s.out ∧
      (s.queueTake n f m e).free = s.free ∧
      (s.queueTake n f m e).pending = s.pending := by
  unfold State.queueTake
  try dsimp only
  repeat' split
  all_goals simp

@[simp] theorem requeue_frame (s : State) (tag : Tag) :
    (s.requeue tag).life = s.life ∧
      (s.requeue tag).station = s.station ∧
      (s.requeue tag).accepted = s.accepted ∧
      (s.requeue tag).listenEnd = s.listenEnd ∧
      (s.requeue tag).time = s.time ∧
      (s.requeue tag).chans = s.chans ∧
      (s.requeue tag).store = s.store ∧
      (s.requeue tag).mapPort = s.mapPort ∧
      (s.requeue tag).link = s.link ∧
      (s.requeue tag).tracker = s.tracker ∧
      (s.requeue tag).health = s.health ∧
      (s.requeue tag).sweep = s.sweep ∧
      (s.requeue tag).port = s.port ∧
      (s.requeue tag).out = s.out ∧
      (s.requeue tag).free = s.free ∧
      (s.requeue tag).pending = s.pending := by
  unfold State.requeue
  try dsimp only
  repeat' split
  all_goals simp

@[simp] theorem placeData_frame (s : State) (n : MapName) (f : Flow) (m : Modem) (k : Candidate) (left : List Tag) (cl : List ServiceClass) :
    (s.placeData n f m k left cl).life = s.life ∧
      (s.placeData n f m k left cl).station = s.station ∧
      (s.placeData n f m k left cl).accepted = s.accepted ∧
      (s.placeData n f m k left cl).listenEnd = s.listenEnd ∧
      (s.placeData n f m k left cl).time = s.time ∧
      (s.placeData n f m k left cl).chans = s.chans ∧
      (s.placeData n f m k left cl).mapPort = s.mapPort ∧
      (s.placeData n f m k left cl).health = s.health ∧
      (s.placeData n f m k left cl).sweep = s.sweep ∧
      (s.placeData n f m k left cl).port = s.port ∧
      (s.placeData n f m k left cl).out = s.out ∧
      (s.placeData n f m k left cl).free = s.free ∧
      (s.placeData n f m k left cl).pending = s.pending := by
  unfold State.placeData
  try dsimp only
  repeat' split
  all_goals simp

@[simp] theorem sizeAndPlace_frame (s : State) (b : Build) (f : Flow) (m : Modem) (cur : Nat) (left : List Tag) (cl : List ServiceClass) :
    (s.sizeAndPlace b f m cur left cl).life = s.life ∧
      (s.sizeAndPlace b f m cur left cl).station = s.station ∧
      (s.sizeAndPlace b f m cur left cl).accepted = s.accepted ∧
      (s.sizeAndPlace b f m cur left cl).listenEnd = s.listenEnd ∧
      (s.sizeAndPlace b f m cur left cl).time = s.time ∧
      (s.sizeAndPlace b f m cur left cl).chans = s.chans ∧
      (s.sizeAndPlace b f m cur left cl).mapPort = s.mapPort ∧
      (s.sizeAndPlace b f m cur left cl).health = s.health ∧
      (s.sizeAndPlace b f m cur left cl).sweep = s.sweep ∧
      (s.sizeAndPlace b f m cur left cl).port = s.port ∧
      (s.sizeAndPlace b f m cur left cl).out = s.out ∧
      (s.sizeAndPlace b f m cur left cl).free = s.free ∧
      (s.sizeAndPlace b f m cur left cl).pending = s.pending := by
  unfold State.sizeAndPlace
  try dsimp only
  repeat' split
  all_goals simp

@[simp] theorem visit_frame (s : State) (b : Build) (tag : Tag) (cur : Nat) (left : List Tag) (cl : List ServiceClass) :
    (s.visit b tag cur left cl).life = s.life ∧
      (s.visit b tag cur left cl).station = s.station ∧
      (s.visit b tag cur left cl).accepted = s.accepted ∧
      (s.visit b tag cur left cl).listenEnd = s.listenEnd ∧
      (s.visit b tag cur left cl).time = s.time ∧
      (s.visit b tag cur left cl).chans = s.chans ∧
      (s.visit b tag cur left cl).mapPort = s.mapPort ∧
      (s.visit b tag cur left cl).health = s.health ∧
      (s.visit b tag cur left cl).sweep = s.sweep ∧
      (s.visit b tag cur left cl).port = s.port ∧
      (s.visit b tag cur left cl).out = s.out ∧
      (s.visit b tag cur left cl).free = s.free ∧
      (s.visit b tag cur left cl).pending = s.pending := by
  unfold State.visit
  try dsimp only
  repeat' split
  all_goals simp

@[simp] theorem beginWalk_frame (s : State)  :
    (s.beginWalk).life = s.life ∧
      (s.beginWalk).station = s.station ∧
      (s.beginWalk).accepted = s.accepted ∧
      (s.beginWalk).listenEnd = s.listenEnd ∧
      (s.beginWalk).time = s.time ∧
      (s.beginWalk).chans = s.chans ∧
      (s.beginWalk).store = s.store ∧
      (s.beginWalk).mapPort = s.mapPort ∧
      (s.beginWalk).link = s.link ∧
      (s.beginWalk).tracker = s.tracker ∧
      (s.beginWalk).health = s.health ∧
      (s.beginWalk).sweep = s.sweep ∧
      (s.beginWalk).port = s.port ∧
      (s.beginWalk).out = s.out ∧
      (s.beginWalk).free = s.free ∧
      (s.beginWalk).pending = s.pending := by
  unfold State.beginWalk
  try dsimp only
  repeat' split
  all_goals simp

@[simp] theorem endWalk_frame (s : State)  :
    (s.endWalk).life = s.life ∧
      (s.endWalk).station = s.station ∧
      (s.endWalk).accepted = s.accepted ∧
      (s.endWalk).listenEnd = s.listenEnd ∧
      (s.endWalk).time = s.time ∧
      (s.endWalk).chans = s.chans ∧
      (s.endWalk).store = s.store ∧
      (s.endWalk).mapPort = s.mapPort ∧
      (s.endWalk).link = s.link ∧
      (s.endWalk).tracker = s.tracker ∧
      (s.endWalk).health = s.health ∧
      (s.endWalk).sweep = s.sweep ∧
      (s.endWalk).port = s.port ∧
      (s.endWalk).out = s.out ∧
      (s.endWalk).free = s.free ∧
      (s.endWalk).pending = s.pending := by
  unfold State.endWalk
  try dsimp only
  repeat' split
  all_goals simp

@[simp] theorem placeOne_frame (s : State)  :
    (s.placeOne).life = s.life ∧
      (s.placeOne).station = s.station ∧
      (s.placeOne).accepted = s.accepted ∧
      (s.placeOne).listenEnd = s.listenEnd ∧
      (s.placeOne).time = s.time ∧
      (s.placeOne).mapPort = s.mapPort ∧
      (s.placeOne).health = s.health ∧
      (s.placeOne).sweep = s.sweep ∧
      (s.placeOne).port = s.port ∧
      (s.placeOne).out = s.out ∧
      (s.placeOne).free = s.free ∧
      (s.placeOne).pending = s.pending := by
  unfold State.placeOne
  try dsimp only
  repeat' split
  all_goals simp

@[simp] theorem placeSteps_frame (s : State) (n : Nat) :
    (State.placeSteps n s).life = s.life ∧
      (State.placeSteps n s).station = s.station ∧
      (State.placeSteps n s).accepted = s.accepted ∧
      (State.placeSteps n s).listenEnd = s.listenEnd ∧
      (State.placeSteps n s).time = s.time ∧
      (State.placeSteps n s).mapPort = s.mapPort ∧
      (State.placeSteps n s).health = s.health ∧
      (State.placeSteps n s).sweep = s.sweep ∧
      (State.placeSteps n s).port = s.port ∧
      (State.placeSteps n s).out = s.out ∧
      (State.placeSteps n s).free = s.free ∧
      (State.placeSteps n s).pending = s.pending := by
  induction n generalizing s with
  | zero => simp [State.placeSteps]
  | succ n ih => simp [State.placeSteps, ih]


@[simp] theorem placeRest_frame (s : State)  :
    (s.placeRest).life = s.life ∧
      (s.placeRest).station = s.station ∧
      (s.placeRest).accepted = s.accepted ∧
      (s.placeRest).listenEnd = s.listenEnd ∧
      (s.placeRest).time = s.time ∧
      (s.placeRest).mapPort = s.mapPort ∧
      (s.placeRest).health = s.health ∧
      (s.placeRest).sweep = s.sweep ∧
      (s.placeRest).port = s.port ∧
      (s.placeRest).out = s.out ∧
      (s.placeRest).free = s.free ∧
      (s.placeRest).pending = s.pending := by
  unfold State.placeRest
  try dsimp only
  all_goals simp

@[simp] theorem suspendSweep_frame (s : State)  :
    (s.suspendSweep).life = s.life ∧
      (s.suspendSweep).station = s.station ∧
      (s.suspendSweep).accepted = s.accepted ∧
      (s.suspendSweep).listenEnd = s.listenEnd ∧
      (s.suspendSweep).time = s.time ∧
      (s.suspendSweep).chans = s.chans ∧
      (s.suspendSweep).store = s.store ∧
      (s.suspendSweep).planner = s.planner ∧
      (s.suspendSweep).mapPort = s.mapPort ∧
      (s.suspendSweep).link = s.link ∧
      (s.suspendSweep).tracker = s.tracker ∧
      (s.suspendSweep).health = s.health ∧
      (s.suspendSweep).port = s.port ∧
      (s.suspendSweep).out = s.out ∧
      (s.suspendSweep).free = s.free ∧
      (s.suspendSweep).pending = s.pending := by
  unfold State.suspendSweep
  try dsimp only
  repeat' split
  all_goals simp

@[simp] theorem takeRequest_frame (s : State) (m : MapName) (rest : List MapName) :
    (s.takeRequest m rest).life = s.life ∧
      (s.takeRequest m rest).station = s.station ∧
      (s.takeRequest m rest).accepted = s.accepted ∧
      (s.takeRequest m rest).listenEnd = s.listenEnd ∧
      (s.takeRequest m rest).time = s.time ∧
      (s.takeRequest m rest).mapPort = s.mapPort ∧
      (s.takeRequest m rest).link = s.link ∧
      (s.takeRequest m rest).tracker = s.tracker ∧
      (s.takeRequest m rest).port = s.port ∧
      (s.takeRequest m rest).out = s.out ∧
      (s.takeRequest m rest).pending = s.pending := by
  unfold State.takeRequest
  try dsimp only
  all_goals simp

@[simp] theorem resumeSweep_frame (s : State)  :
    (s.resumeSweep).life = s.life ∧
      (s.resumeSweep).station = s.station ∧
      (s.resumeSweep).accepted = s.accepted ∧
      (s.resumeSweep).listenEnd = s.listenEnd ∧
      (s.resumeSweep).time = s.time ∧
      (s.resumeSweep).chans = s.chans ∧
      (s.resumeSweep).store = s.store ∧
      (s.resumeSweep).planner = s.planner ∧
      (s.resumeSweep).mapPort = s.mapPort ∧
      (s.resumeSweep).link = s.link ∧
      (s.resumeSweep).tracker = s.tracker ∧
      (s.resumeSweep).health = s.health ∧
      (s.resumeSweep).port = s.port ∧
      (s.resumeSweep).out = s.out ∧
      (s.resumeSweep).free = s.free ∧
      (s.resumeSweep).pending = s.pending := by
  unfold State.resumeSweep
  try dsimp only
  repeat' split
  all_goals simp

@[simp] theorem freePlanner_frame (s : State)  :
    (s.freePlanner).life = s.life ∧
      (s.freePlanner).station = s.station ∧
      (s.freePlanner).accepted = s.accepted ∧
      (s.freePlanner).listenEnd = s.listenEnd ∧
      (s.freePlanner).time = s.time ∧
      (s.freePlanner).chans = s.chans ∧
      (s.freePlanner).store = s.store ∧
      (s.freePlanner).mapPort = s.mapPort ∧
      (s.freePlanner).link = s.link ∧
      (s.freePlanner).tracker = s.tracker ∧
      (s.freePlanner).health = s.health ∧
      (s.freePlanner).port = s.port ∧
      (s.freePlanner).out = s.out ∧
      (s.freePlanner).free = s.free ∧
      (s.freePlanner).pending = s.pending := by
  unfold State.freePlanner
  try dsimp only
  all_goals simp

@[simp] theorem endBuild_frame (s : State) (b : Build) :
    (s.endBuild b).life = s.life ∧
      (s.endBuild b).station = s.station ∧
      (s.endBuild b).accepted = s.accepted ∧
      (s.endBuild b).listenEnd = s.listenEnd ∧
      (s.endBuild b).time = s.time ∧
      (s.endBuild b).health = s.health ∧
      (s.endBuild b).out = s.out ∧
      (s.endBuild b).free = s.free ∧
      (s.endBuild b).pending = s.pending := by
  unfold State.endBuild
  try dsimp only
  repeat' split
  all_goals simp

@[simp] theorem fallBeat_frame (s : State)  :
    (s.fallBeat).life = s.life ∧
      (s.fallBeat).station = s.station ∧
      (s.fallBeat).accepted = s.accepted ∧
      (s.fallBeat).listenEnd = s.listenEnd ∧
      (s.fallBeat).chans = s.chans ∧
      (s.fallBeat).store = s.store ∧
      (s.fallBeat).planner = s.planner ∧
      (s.fallBeat).mapPort = s.mapPort ∧
      (s.fallBeat).link = s.link ∧
      (s.fallBeat).tracker = s.tracker ∧
      (s.fallBeat).health = s.health ∧
      (s.fallBeat).sweep = s.sweep ∧
      (s.fallBeat).out = s.out ∧
      (s.fallBeat).free = s.free ∧
      (s.fallBeat).pending = s.pending := by
  unfold State.fallBeat
  try dsimp only
  repeat' split
  all_goals simp

@[simp] theorem modClock_frame (s : State) (c : Chan) (g : PeriodClock → PeriodClock) :
    (s.modClock c g).life = s.life ∧
      (s.modClock c g).station = s.station ∧
      (s.modClock c g).accepted = s.accepted ∧
      (s.modClock c g).listenEnd = s.listenEnd ∧
      (s.modClock c g).time = s.time ∧
      (s.modClock c g).store = s.store ∧
      (s.modClock c g).planner = s.planner ∧
      (s.modClock c g).mapPort = s.mapPort ∧
      (s.modClock c g).link = s.link ∧
      (s.modClock c g).tracker = s.tracker ∧
      (s.modClock c g).health = s.health ∧
      (s.modClock c g).sweep = s.sweep ∧
      (s.modClock c g).port = s.port ∧
      (s.modClock c g).out = s.out ∧
      (s.modClock c g).free = s.free ∧
      (s.modClock c g).pending = s.pending := by
  unfold State.modClock
  try dsimp only
  all_goals simp

@[simp] theorem missMap_frame (s : State) (c : Chan) :
    (s.missMap c).life = s.life ∧
      (s.missMap c).station = s.station ∧
      (s.missMap c).accepted = s.accepted ∧
      (s.missMap c).listenEnd = s.listenEnd ∧
      (s.missMap c).time = s.time ∧
      (s.missMap c).store = s.store ∧
      (s.missMap c).planner = s.planner ∧
      (s.missMap c).mapPort = s.mapPort ∧
      (s.missMap c).link = s.link ∧
      (s.missMap c).tracker = s.tracker ∧
      (s.missMap c).health = s.health ∧
      (s.missMap c).sweep = s.sweep ∧
      (s.missMap c).out = s.out ∧
      (s.missMap c).free = s.free ∧
      (s.missMap c).pending = s.pending := by
  unfold State.missMap
  try dsimp only
  all_goals simp

@[simp] theorem fallBuildStart_frame (s : State) (m : MapName) :
    (s.fallBuildStart m).life = s.life ∧
      (s.fallBuildStart m).station = s.station ∧
      (s.fallBuildStart m).accepted = s.accepted ∧
      (s.fallBuildStart m).listenEnd = s.listenEnd ∧
      (s.fallBuildStart m).time = s.time ∧
      (s.fallBuildStart m).store = s.store ∧
      (s.fallBuildStart m).mapPort = s.mapPort ∧
      (s.fallBuildStart m).link = s.link ∧
      (s.fallBuildStart m).tracker = s.tracker ∧
      (s.fallBuildStart m).health = s.health ∧
      (s.fallBuildStart m).sweep = s.sweep ∧
      (s.fallBuildStart m).out = s.out ∧
      (s.fallBuildStart m).free = s.free ∧
      (s.fallBuildStart m).pending = s.pending := by
  unfold State.fallBuildStart
  try dsimp only
  repeat' split
  all_goals simp

@[simp] theorem cutBuild_frame (s : State) (b : Build) :
    (s.cutBuild b).life = s.life ∧
      (s.cutBuild b).station = s.station ∧
      (s.cutBuild b).accepted = s.accepted ∧
      (s.cutBuild b).listenEnd = s.listenEnd ∧
      (s.cutBuild b).time = s.time ∧
      (s.cutBuild b).health = s.health ∧
      (s.cutBuild b).out = s.out ∧
      (s.cutBuild b).pending = s.pending := by
  unfold State.cutBuild
  try dsimp only
  all_goals simp

@[simp] theorem dropSealing_frame (s : State) (m : MapName) :
    (s.dropSealing m).life = s.life ∧
      (s.dropSealing m).station = s.station ∧
      (s.dropSealing m).accepted = s.accepted ∧
      (s.dropSealing m).listenEnd = s.listenEnd ∧
      (s.dropSealing m).time = s.time ∧
      (s.dropSealing m).chans = s.chans ∧
      (s.dropSealing m).store = s.store ∧
      (s.dropSealing m).mapPort = s.mapPort ∧
      (s.dropSealing m).link = s.link ∧
      (s.dropSealing m).tracker = s.tracker ∧
      (s.dropSealing m).health = s.health ∧
      (s.dropSealing m).sweep = s.sweep ∧
      (s.dropSealing m).port = s.port ∧
      (s.dropSealing m).out = s.out ∧
      (s.dropSealing m).free = s.free ∧
      (s.dropSealing m).pending = s.pending := by
  unfold State.dropSealing
  try dsimp only
  all_goals simp

@[simp] theorem deadlineOfMap_frame (s : State) (m : MapName) :
    (s.deadlineOfMap m).life = s.life ∧
      (s.deadlineOfMap m).station = s.station ∧
      (s.deadlineOfMap m).accepted = s.accepted ∧
      (s.deadlineOfMap m).listenEnd = s.listenEnd ∧
      (s.deadlineOfMap m).time = s.time ∧
      (s.deadlineOfMap m).health = s.health ∧
      (s.deadlineOfMap m).out = s.out ∧
      (s.deadlineOfMap m).pending = s.pending := by
  unfold State.deadlineOfMap
  try dsimp only
  repeat' split
  all_goals simp

@[simp] theorem fallDeliver_frame (s : State) (m : MapName) :
    (s.fallDeliver m).life = s.life ∧
      (s.fallDeliver m).station = s.station ∧
      (s.fallDeliver m).accepted = s.accepted ∧
      (s.fallDeliver m).listenEnd = s.listenEnd ∧
      (s.fallDeliver m).time = s.time ∧
      (s.fallDeliver m).health = s.health ∧
      (s.fallDeliver m).out = s.out ∧
      (s.fallDeliver m).pending = s.pending := by
  unfold State.fallDeliver
  try dsimp only
  repeat' split
  all_goals simp

@[simp] theorem fallStart_frame (s : State) (m : MapName) :
    (s.fallStart m).life = s.life ∧
      (s.fallStart m).station = s.station ∧
      (s.fallStart m).accepted = s.accepted ∧
      (s.fallStart m).listenEnd = s.listenEnd ∧
      (s.fallStart m).time = s.time ∧
      (s.fallStart m).health = s.health ∧
      (s.fallStart m).out = s.out ∧
      (s.fallStart m).free = s.free ∧
      (s.fallStart m).pending = s.pending := by
  unfold State.fallStart
  try dsimp only
  repeat' split
  all_goals simp

@[simp] theorem fallSkip_frame (s : State) (m : MapName) :
    (s.fallSkip m).life = s.life ∧
      (s.fallSkip m).station = s.station ∧
      (s.fallSkip m).accepted = s.accepted ∧
      (s.fallSkip m).listenEnd = s.listenEnd ∧
      (s.fallSkip m).time = s.time ∧
      (s.fallSkip m).store = s.store ∧
      (s.fallSkip m).planner = s.planner ∧
      (s.fallSkip m).mapPort = s.mapPort ∧
      (s.fallSkip m).link = s.link ∧
      (s.fallSkip m).tracker = s.tracker ∧
      (s.fallSkip m).health = s.health ∧
      (s.fallSkip m).sweep = s.sweep ∧
      (s.fallSkip m).port = s.port ∧
      (s.fallSkip m).out = s.out ∧
      (s.fallSkip m).free = s.free ∧
      (s.fallSkip m).pending = s.pending := by
  unfold State.fallSkip
  try dsimp only
  all_goals simp

@[simp] theorem fallListenEnd_frame (s : State)  :
    (s.fallListenEnd).station = s.station ∧
      (s.fallListenEnd).accepted = s.accepted ∧
      (s.fallListenEnd).time = s.time ∧
      (s.fallListenEnd).chans = s.chans ∧
      (s.fallListenEnd).store = s.store ∧
      (s.fallListenEnd).planner = s.planner ∧
      (s.fallListenEnd).mapPort = s.mapPort ∧
      (s.fallListenEnd).link = s.link ∧
      (s.fallListenEnd).tracker = s.tracker ∧
      (s.fallListenEnd).health = s.health ∧
      (s.fallListenEnd).sweep = s.sweep ∧
      (s.fallListenEnd).out = s.out ∧
      (s.fallListenEnd).free = s.free ∧
      (s.fallListenEnd).pending = s.pending := by
  unfold State.fallListenEnd
  try dsimp only
  all_goals simp

@[simp] theorem fallLocalEnd_frame (s : State) (t : Tick) :
    (s.fallLocalEnd t).life = s.life ∧
      (s.fallLocalEnd t).station = s.station ∧
      (s.fallLocalEnd t).accepted = s.accepted ∧
      (s.fallLocalEnd t).listenEnd = s.listenEnd ∧
      (s.fallLocalEnd t).time = s.time ∧
      (s.fallLocalEnd t).chans = s.chans ∧
      (s.fallLocalEnd t).store = s.store ∧
      (s.fallLocalEnd t).mapPort = s.mapPort ∧
      (s.fallLocalEnd t).link = s.link ∧
      (s.fallLocalEnd t).tracker = s.tracker ∧
      (s.fallLocalEnd t).health = s.health ∧
      (s.fallLocalEnd t).sweep = s.sweep ∧
      (s.fallLocalEnd t).port = s.port ∧
      (s.fallLocalEnd t).out = s.out ∧
      (s.fallLocalEnd t).free = s.free ∧
      (s.fallLocalEnd t).pending = s.pending := by
  unfold State.fallLocalEnd
  try dsimp only
  all_goals simp

@[simp] theorem fallSharedEnd_frame (s : State) (t : Tick) :
    (s.fallSharedEnd t).life = s.life ∧
      (s.fallSharedEnd t).station = s.station ∧
      (s.fallSharedEnd t).accepted = s.accepted ∧
      (s.fallSharedEnd t).listenEnd = s.listenEnd ∧
      (s.fallSharedEnd t).time = s.time ∧
      (s.fallSharedEnd t).chans = s.chans ∧
      (s.fallSharedEnd t).store = s.store ∧
      (s.fallSharedEnd t).planner = s.planner ∧
      (s.fallSharedEnd t).mapPort = s.mapPort ∧
      (s.fallSharedEnd t).tracker = s.tracker ∧
      (s.fallSharedEnd t).health = s.health ∧
      (s.fallSharedEnd t).sweep = s.sweep ∧
      (s.fallSharedEnd t).port = s.port ∧
      (s.fallSharedEnd t).out = s.out ∧
      (s.fallSharedEnd t).free = s.free ∧
      (s.fallSharedEnd t).pending = s.pending := by
  unfold State.fallSharedEnd
  try dsimp only
  all_goals simp

@[simp] theorem fallPresence_frame (s : State) (t : Tick) :
    (s.fallPresence t).life = s.life ∧
      (s.fallPresence t).station = s.station ∧
      (s.fallPresence t).accepted = s.accepted ∧
      (s.fallPresence t).listenEnd = s.listenEnd ∧
      (s.fallPresence t).time = s.time ∧
      (s.fallPresence t).chans = s.chans ∧
      (s.fallPresence t).store = s.store ∧
      (s.fallPresence t).planner = s.planner ∧
      (s.fallPresence t).mapPort = s.mapPort ∧
      (s.fallPresence t).tracker = s.tracker ∧
      (s.fallPresence t).health = s.health ∧
      (s.fallPresence t).sweep = s.sweep ∧
      (s.fallPresence t).port = s.port ∧
      (s.fallPresence t).out = s.out ∧
      (s.fallPresence t).free = s.free ∧
      (s.fallPresence t).pending = s.pending := by
  unfold State.fallPresence
  try dsimp only
  all_goals simp

@[simp] theorem fall_frame (s : State) (d : Deadline) :
    (s.fall d).station = s.station ∧
      (s.fall d).accepted = s.accepted ∧
      (s.fall d).out = s.out ∧
      (s.fall d).pending = s.pending := by
  unfold State.fall
  try dsimp only
  repeat' split
  all_goals simp

@[simp] theorem countLoop_frame (s : State) (n : Nat) (t : Tick) :
    (State.countLoop n t s).station = s.station ∧
      (State.countLoop n t s).accepted = s.accepted ∧
      (State.countLoop n t s).out = s.out ∧
      (State.countLoop n t s).pending = s.pending := by
  induction n generalizing s with
  | zero => simp [State.countLoop]
  | succ n ih =>
    unfold State.countLoop
    split
    · simp
    · rename_i d s' h
      have h' := draw_frame h
      simp [ih, h']


@[simp] theorem countTo_frame (s : State) (t : Tick) :
    (s.countTo t).station = s.station ∧
      (s.countTo t).accepted = s.accepted ∧
      (s.countTo t).out = s.out ∧
      (s.countTo t).pending = s.pending := by
  unfold State.countTo
  try dsimp only
  all_goals simp

@[simp] theorem atDeadline_frame (s : State) (d : Deadline) :
    (s.atDeadline d).station = s.station ∧
      (s.atDeadline d).accepted = s.accepted ∧
      (s.atDeadline d).out = s.out ∧
      (s.atDeadline d).pending = s.pending := by
  unfold State.atDeadline
  try dsimp only
  repeat' split
  all_goals simp

@[simp] theorem reloadLoop_frame (s : State) (n : Nat) (b : Tick) (sp : Nat) :
    (State.reloadLoop n b sp s).station = s.station ∧
      (State.reloadLoop n b sp s).accepted = s.accepted ∧
      (State.reloadLoop n b sp s).out = s.out ∧
      (State.reloadLoop n b sp s).pending = s.pending := by
  induction n generalizing s with
  | zero => simp [State.reloadLoop]
  | succ n ih =>
    unfold State.reloadLoop
    split
    · simp
    · rename_i d s' h
      have h' := draw_frame h
      simp [ih, h']


@[simp] theorem reloadFalls_frame (s : State) (b : Tick) (sp : Nat) :
    (s.reloadFalls b sp).station = s.station ∧
      (s.reloadFalls b sp).accepted = s.accepted ∧
      (s.reloadFalls b sp).out = s.out ∧
      (s.reloadFalls b sp).pending = s.pending := by
  unfold State.reloadFalls
  try dsimp only
  all_goals simp

@[simp] theorem presentLoop_frame (s : State) (n : Nat) :
    (State.presentLoop n s).station = s.station ∧
      (State.presentLoop n s).accepted = s.accepted ∧
      (State.presentLoop n s).out = s.out ∧
      (State.presentLoop n s).pending = s.pending := by
  induction n generalizing s with
  | zero => simp [State.presentLoop]
  | succ n ih =>
    unfold State.presentLoop
    split
    · simp
    · rename_i d s' h
      have h' := draw_frame h
      simp [ih, h']

@[simp] theorem fallPresent_frame (s : State)  :
    (s.fallPresent).station = s.station ∧
      (s.fallPresent).accepted = s.accepted ∧
      (s.fallPresent).out = s.out ∧
      (s.fallPresent).pending = s.pending := by
  simp [State.fallPresent]

theorem foldl_build_frame (s : State) (ms : List MapName) :
    (ms.foldl State.fallBuildStart s).life = s.life ∧
      (ms.foldl State.fallBuildStart s).station = s.station ∧
      (ms.foldl State.fallBuildStart s).accepted = s.accepted ∧
      (ms.foldl State.fallBuildStart s).listenEnd = s.listenEnd ∧
      (ms.foldl State.fallBuildStart s).time = s.time ∧
      (ms.foldl State.fallBuildStart s).store = s.store ∧
      (ms.foldl State.fallBuildStart s).mapPort = s.mapPort ∧
      (ms.foldl State.fallBuildStart s).link = s.link ∧
      (ms.foldl State.fallBuildStart s).tracker = s.tracker ∧
      (ms.foldl State.fallBuildStart s).health = s.health ∧
      (ms.foldl State.fallBuildStart s).sweep = s.sweep ∧
      (ms.foldl State.fallBuildStart s).out = s.out ∧
      (ms.foldl State.fallBuildStart s).free = s.free ∧
      (ms.foldl State.fallBuildStart s).pending = s.pending := by
  induction ms generalizing s with
  | nil => simp
  | cons a r ih => simp [ih]

@[simp] theorem raiseEntryBuilds_frame (s : State)  :
    (s.raiseEntryBuilds).life = s.life ∧
      (s.raiseEntryBuilds).station = s.station ∧
      (s.raiseEntryBuilds).accepted = s.accepted ∧
      (s.raiseEntryBuilds).listenEnd = s.listenEnd ∧
      (s.raiseEntryBuilds).time = s.time ∧
      (s.raiseEntryBuilds).store = s.store ∧
      (s.raiseEntryBuilds).mapPort = s.mapPort ∧
      (s.raiseEntryBuilds).link = s.link ∧
      (s.raiseEntryBuilds).tracker = s.tracker ∧
      (s.raiseEntryBuilds).health = s.health ∧
      (s.raiseEntryBuilds).sweep = s.sweep ∧
      (s.raiseEntryBuilds).out = s.out ∧
      (s.raiseEntryBuilds).pending = s.pending := by
  unfold State.raiseEntryBuilds
  simp [foldl_build_frame]


@[simp] theorem enterListen_frame (s : State) (r : StartRecord) :
    (s.enterListen r).station = s.station ∧
      (s.enterListen r).time = s.time ∧
      (s.enterListen r).store = s.store ∧
      (s.enterListen r).mapPort = s.mapPort ∧
      (s.enterListen r).tracker = s.tracker ∧
      (s.enterListen r).health = s.health ∧
      (s.enterListen r).out = s.out ∧
      (s.enterListen r).pending = s.pending := by
  unfold State.enterListen
  try dsimp only
  all_goals simp

@[simp] theorem firstWord_frame (s : State) (v : Tick) :
    (s.firstWord v).station = s.station ∧
      (s.firstWord v).store = s.store ∧
      (s.firstWord v).mapPort = s.mapPort ∧
      (s.firstWord v).tracker = s.tracker ∧
      (s.firstWord v).health = s.health ∧
      (s.firstWord v).out = s.out ∧
      (s.firstWord v).pending = s.pending := by
  unfold State.firstWord
  try dsimp only
  repeat' split
  all_goals simp

@[simp] theorem slip_frame (s : State) (v : Tick) :
    (s.slip v).station = s.station ∧
      (s.slip v).accepted = s.accepted ∧
      (s.slip v).out = s.out ∧
      (s.slip v).pending = s.pending := by
  have dirf : (s.fallPresent.slipForward v).2 = s.fallPresent ∨
      (s.fallPresent.slipForward v).2
        = { s.fallPresent with free := s.fallPresent.free + 1 } := by
    unfold State.slipForward
    split <;> simp
  unfold State.slip
  dsimp only
  rcases dirf with h | h <;> split <;> simp [h]


@[simp] theorem takeTimeWord_frame (s : State) (v : Tick) (ck : BitVec 16) :
    (s.takeTimeWord v ck).station = s.station ∧
      (s.takeTimeWord v ck).out = s.out ∧
      (s.takeTimeWord v ck).pending = s.pending := by
  unfold State.takeTimeWord
  try dsimp only
  repeat' split
  all_goals simp

@[simp] theorem winContention_frame (s : State) (q : Queued) :
    (s.winContention q).life = s.life ∧
      (s.winContention q).station = s.station ∧
      (s.winContention q).accepted = s.accepted ∧
      (s.winContention q).listenEnd = s.listenEnd ∧
      (s.winContention q).time = s.time ∧
      (s.winContention q).chans = s.chans ∧
      (s.winContention q).store = s.store ∧
      (s.winContention q).tracker = s.tracker ∧
      (s.winContention q).health = s.health ∧
      (s.winContention q).sweep = s.sweep ∧
      (s.winContention q).port = s.port ∧
      (s.winContention q).out = s.out ∧
      (s.winContention q).free = s.free ∧
      (s.winContention q).pending = s.pending := by
  unfold State.winContention
  try dsimp only
  all_goals simp

@[simp] theorem otherSends_frame (s : State)  :
    (s.otherSends).life = s.life ∧
      (s.otherSends).station = s.station ∧
      (s.otherSends).accepted = s.accepted ∧
      (s.otherSends).listenEnd = s.listenEnd ∧
      (s.otherSends).time = s.time ∧
      (s.otherSends).chans = s.chans ∧
      (s.otherSends).store = s.store ∧
      (s.otherSends).planner = s.planner ∧
      (s.otherSends).mapPort = s.mapPort ∧
      (s.otherSends).tracker = s.tracker ∧
      (s.otherSends).health = s.health ∧
      (s.otherSends).sweep = s.sweep ∧
      (s.otherSends).port = s.port ∧
      (s.otherSends).out = s.out ∧
      (s.otherSends).free = s.free ∧
      (s.otherSends).pending = s.pending := by
  unfold State.otherSends
  try dsimp only
  all_goals simp

@[simp] theorem loseContention_frame (s : State)  :
    (s.loseContention).life = s.life ∧
      (s.loseContention).station = s.station ∧
      (s.loseContention).accepted = s.accepted ∧
      (s.loseContention).listenEnd = s.listenEnd ∧
      (s.loseContention).time = s.time ∧
      (s.loseContention).chans = s.chans ∧
      (s.loseContention).store = s.store ∧
      (s.loseContention).planner = s.planner ∧
      (s.loseContention).mapPort = s.mapPort ∧
      (s.loseContention).tracker = s.tracker ∧
      (s.loseContention).health = s.health ∧
      (s.loseContention).sweep = s.sweep ∧
      (s.loseContention).port = s.port ∧
      (s.loseContention).out = s.out ∧
      (s.loseContention).free = s.free ∧
      (s.loseContention).pending = s.pending := by
  unfold State.loseContention
  try dsimp only
  all_goals simp

@[simp] theorem decideContention_frame (s : State) (o : List (BitVec 6)) (j : Bool) :
    (s.decideContention o j).life = s.life ∧
      (s.decideContention o j).station = s.station ∧
      (s.decideContention o j).accepted = s.accepted ∧
      (s.decideContention o j).listenEnd = s.listenEnd ∧
      (s.decideContention o j).time = s.time ∧
      (s.decideContention o j).chans = s.chans ∧
      (s.decideContention o j).store = s.store ∧
      (s.decideContention o j).tracker = s.tracker ∧
      (s.decideContention o j).health = s.health ∧
      (s.decideContention o j).sweep = s.sweep ∧
      (s.decideContention o j).port = s.port ∧
      (s.decideContention o j).out = s.out ∧
      (s.decideContention o j).free = s.free ∧
      (s.decideContention o j).pending = s.pending := by
  unfold State.decideContention
  try dsimp only
  repeat' split
  all_goals simp

@[simp] theorem deferredAfterTake_frame (s : State) (tag : Tag) (b : Nat) :
    (s.deferredAfterTake tag b).life = s.life ∧
      (s.deferredAfterTake tag b).station = s.station ∧
      (s.deferredAfterTake tag b).accepted = s.accepted ∧
      (s.deferredAfterTake tag b).listenEnd = s.listenEnd ∧
      (s.deferredAfterTake tag b).time = s.time ∧
      (s.deferredAfterTake tag b).mapPort = s.mapPort ∧
      (s.deferredAfterTake tag b).tracker = s.tracker ∧
      (s.deferredAfterTake tag b).health = s.health ∧
      (s.deferredAfterTake tag b).sweep = s.sweep ∧
      (s.deferredAfterTake tag b).port = s.port ∧
      (s.deferredAfterTake tag b).out = s.out ∧
      (s.deferredAfterTake tag b).free = s.free ∧
      (s.deferredAfterTake tag b).pending = s.pending := by
  unfold State.deferredAfterTake
  try dsimp only
  repeat' split
  all_goals simp

@[simp] theorem applyTake_frame (s : State) (f : Flow) (b : Nat) (own : Bool) :
    (s.applyTake f b own).life = s.life ∧
      (s.applyTake f b own).station = s.station ∧
      (s.applyTake f b own).accepted = s.accepted ∧
      (s.applyTake f b own).listenEnd = s.listenEnd ∧
      (s.applyTake f b own).time = s.time ∧
      (s.applyTake f b own).mapPort = s.mapPort ∧
      (s.applyTake f b own).tracker = s.tracker ∧
      (s.applyTake f b own).health = s.health ∧
      (s.applyTake f b own).sweep = s.sweep ∧
      (s.applyTake f b own).port = s.port ∧
      (s.applyTake f b own).out = s.out ∧
      (s.applyTake f b own).free = s.free ∧
      (s.applyTake f b own).pending = s.pending := by
  unfold State.applyTake
  try dsimp only
  all_goals simp

@[simp] theorem dropTentative_frame (s : State) (tag : Tag) (b : Nat) :
    (s.dropTentative tag b).life = s.life ∧
      (s.dropTentative tag b).station = s.station ∧
      (s.dropTentative tag b).accepted = s.accepted ∧
      (s.dropTentative tag b).listenEnd = s.listenEnd ∧
      (s.dropTentative tag b).time = s.time ∧
      (s.dropTentative tag b).chans = s.chans ∧
      (s.dropTentative tag b).mapPort = s.mapPort ∧
      (s.dropTentative tag b).link = s.link ∧
      (s.dropTentative tag b).tracker = s.tracker ∧
      (s.dropTentative tag b).health = s.health ∧
      (s.dropTentative tag b).sweep = s.sweep ∧
      (s.dropTentative tag b).port = s.port ∧
      (s.dropTentative tag b).out = s.out ∧
      (s.dropTentative tag b).free = s.free ∧
      (s.dropTentative tag b).pending = s.pending := by
  unfold State.dropTentative
  try dsimp only
  all_goals simp

@[simp] theorem byteEffects_frame (s : State) (n : Notice) (f : Flow) (own : Bool) (v : Option Verdict) :
    (s.byteEffects n f own v).life = s.life ∧
      (s.byteEffects n f own v).station = s.station ∧
      (s.byteEffects n f own v).accepted = s.accepted ∧
      (s.byteEffects n f own v).listenEnd = s.listenEnd ∧
      (s.byteEffects n f own v).time = s.time ∧
      (s.byteEffects n f own v).mapPort = s.mapPort ∧
      (s.byteEffects n f own v).tracker = s.tracker ∧
      (s.byteEffects n f own v).health = s.health ∧
      (s.byteEffects n f own v).sweep = s.sweep ∧
      (s.byteEffects n f own v).port = s.port ∧
      (s.byteEffects n f own v).out = s.out ∧
      (s.byteEffects n f own v).free = s.free ∧
      (s.byteEffects n f own v).pending = s.pending := by
  unfold State.byteEffects
  try dsimp only
  repeat' split
  all_goals simp

@[simp] theorem ignoredNotice_frame (s : State)  :
    (s.ignoredNotice).life = s.life ∧
      (s.ignoredNotice).station = s.station ∧
      (s.ignoredNotice).accepted = s.accepted ∧
      (s.ignoredNotice).listenEnd = s.listenEnd ∧
      (s.ignoredNotice).time = s.time ∧
      (s.ignoredNotice).chans = s.chans ∧
      (s.ignoredNotice).store = s.store ∧
      (s.ignoredNotice).planner = s.planner ∧
      (s.ignoredNotice).mapPort = s.mapPort ∧
      (s.ignoredNotice).tracker = s.tracker ∧
      (s.ignoredNotice).health = s.health ∧
      (s.ignoredNotice).sweep = s.sweep ∧
      (s.ignoredNotice).port = s.port ∧
      (s.ignoredNotice).out = s.out ∧
      (s.ignoredNotice).free = s.free ∧
      (s.ignoredNotice).pending = s.pending := by
  unfold State.ignoredNotice
  try dsimp only
  all_goals simp

@[simp] theorem applyBytes_frame (s : State) (n : Notice) (own : Bool) (k : StationNo) (v : Option Verdict) :
    (s.applyBytes n own k v).life = s.life ∧
      (s.applyBytes n own k v).station = s.station ∧
      (s.applyBytes n own k v).accepted = s.accepted ∧
      (s.applyBytes n own k v).listenEnd = s.listenEnd ∧
      (s.applyBytes n own k v).time = s.time ∧
      (s.applyBytes n own k v).mapPort = s.mapPort ∧
      (s.applyBytes n own k v).tracker = s.tracker ∧
      (s.applyBytes n own k v).health = s.health ∧
      (s.applyBytes n own k v).sweep = s.sweep ∧
      (s.applyBytes n own k v).port = s.port ∧
      (s.applyBytes n own k v).out = s.out ∧
      (s.applyBytes n own k v).free = s.free ∧
      (s.applyBytes n own k v).pending = s.pending := by
  unfold State.applyBytes
  try dsimp only
  repeat' split
  all_goals simp

@[simp] theorem enterVerdict_frame (s : State) (n : Notice) (k : StationNo) :
    (s.enterVerdict n k).life = s.life ∧
      (s.enterVerdict n k).station = s.station ∧
      (s.enterVerdict n k).accepted = s.accepted ∧
      (s.enterVerdict n k).listenEnd = s.listenEnd ∧
      (s.enterVerdict n k).time = s.time ∧
      (s.enterVerdict n k).chans = s.chans ∧
      (s.enterVerdict n k).store = s.store ∧
      (s.enterVerdict n k).planner = s.planner ∧
      (s.enterVerdict n k).mapPort = s.mapPort ∧
      (s.enterVerdict n k).tracker = s.tracker ∧
      (s.enterVerdict n k).health = s.health ∧
      (s.enterVerdict n k).sweep = s.sweep ∧
      (s.enterVerdict n k).port = s.port ∧
      (s.enterVerdict n k).out = s.out ∧
      (s.enterVerdict n k).free = s.free ∧
      (s.enterVerdict n k).pending = s.pending := by
  unfold State.enterVerdict
  try dsimp only
  repeat' split
  all_goals simp

@[simp] theorem lateStanding_frame (s : State) (tag : Tag) (b : Nat) :
    (s.lateStanding tag b).life = s.life ∧
      (s.lateStanding tag b).station = s.station ∧
      (s.lateStanding tag b).accepted = s.accepted ∧
      (s.lateStanding tag b).listenEnd = s.listenEnd ∧
      (s.lateStanding tag b).time = s.time ∧
      (s.lateStanding tag b).chans = s.chans ∧
      (s.lateStanding tag b).mapPort = s.mapPort ∧
      (s.lateStanding tag b).tracker = s.tracker ∧
      (s.lateStanding tag b).health = s.health ∧
      (s.lateStanding tag b).port = s.port ∧
      (s.lateStanding tag b).out = s.out ∧
      (s.lateStanding tag b).free = s.free ∧
      (s.lateStanding tag b).pending = s.pending := by
  unfold State.lateStanding
  try dsimp only
  repeat' split
  all_goals simp

@[simp] theorem confirmTurn_frame (s : State) (t : TurnKey) :
    (s.confirmTurn t).life = s.life ∧
      (s.confirmTurn t).station = s.station ∧
      (s.confirmTurn t).accepted = s.accepted ∧
      (s.confirmTurn t).listenEnd = s.listenEnd ∧
      (s.confirmTurn t).time = s.time ∧
      (s.confirmTurn t).health = s.health ∧
      (s.confirmTurn t).out = s.out ∧
      (s.confirmTurn t).free = s.free ∧
      (s.confirmTurn t).pending = s.pending := by
  unfold State.confirmTurn
  try dsimp only
  all_goals simp

@[simp] theorem voidTurn_frame (s : State) (t : TurnKey) :
    (s.voidTurn t).life = s.life ∧
      (s.voidTurn t).station = s.station ∧
      (s.voidTurn t).accepted = s.accepted ∧
      (s.voidTurn t).listenEnd = s.listenEnd ∧
      (s.voidTurn t).time = s.time ∧
      (s.voidTurn t).health = s.health ∧
      (s.voidTurn t).out = s.out ∧
      (s.voidTurn t).free = s.free ∧
      (s.voidTurn t).pending = s.pending := by
  unfold State.voidTurn
  try dsimp only
  repeat' split
  all_goals simp

@[simp] theorem standingFate_frame (s : State) (x : InTx) (tag : Tag) (b : Nat) :
    (s.standingFate x tag b).life = s.life ∧
      (s.standingFate x tag b).station = s.station ∧
      (s.standingFate x tag b).accepted = s.accepted ∧
      (s.standingFate x tag b).listenEnd = s.listenEnd ∧
      (s.standingFate x tag b).time = s.time ∧
      (s.standingFate x tag b).health = s.health ∧
      (s.standingFate x tag b).out = s.out ∧
      (s.standingFate x tag b).free = s.free ∧
      (s.standingFate x tag b).pending = s.pending := by
  unfold State.standingFate
  try dsimp only
  repeat' split
  all_goals simp

@[simp] theorem voidFate_frame (s : State) (x : InTx) (tag : Tag) (key : Key) :
    (s.voidFate x tag key).life = s.life ∧
      (s.voidFate x tag key).station = s.station ∧
      (s.voidFate x tag key).accepted = s.accepted ∧
      (s.voidFate x tag key).listenEnd = s.listenEnd ∧
      (s.voidFate x tag key).time = s.time ∧
      (s.voidFate x tag key).out = s.out ∧
      (s.voidFate x tag key).free = s.free ∧
      (s.voidFate x tag key).pending = s.pending := by
  unfold State.voidFate
  try dsimp only
  repeat' split
  all_goals simp

@[simp] theorem ownFate_frame (s : State) (x : InTx) (v : Option Verdict) :
    (s.ownFate x v).life = s.life ∧
      (s.ownFate x v).station = s.station ∧
      (s.ownFate x v).accepted = s.accepted ∧
      (s.ownFate x v).listenEnd = s.listenEnd ∧
      (s.ownFate x v).time = s.time ∧
      (s.ownFate x v).out = s.out ∧
      (s.ownFate x v).free = s.free ∧
      (s.ownFate x v).pending = s.pending := by
  unfold State.ownFate
  try dsimp only
  repeat' split
  all_goals simp

@[simp] theorem hearOwn_frame (s : State) (x : InTx) :
    (s.hearOwn x).life = s.life ∧
      (s.hearOwn x).station = s.station ∧
      (s.hearOwn x).accepted = s.accepted ∧
      (s.hearOwn x).listenEnd = s.listenEnd ∧
      (s.hearOwn x).time = s.time ∧
      (s.hearOwn x).out = s.out ∧
      (s.hearOwn x).free = s.free ∧
      (s.hearOwn x).pending = s.pending := by
  unfold State.hearOwn
  try dsimp only
  all_goals simp

@[simp] theorem conflict_frame (s : State)  :
    (s.conflict).life = s.life ∧
      (s.conflict).station = s.station ∧
      (s.conflict).accepted = s.accepted ∧
      (s.conflict).listenEnd = s.listenEnd ∧
      (s.conflict).time = s.time ∧
      (s.conflict).chans = s.chans ∧
      (s.conflict).store = s.store ∧
      (s.conflict).planner = s.planner ∧
      (s.conflict).mapPort = s.mapPort ∧
      (s.conflict).tracker = s.tracker ∧
      (s.conflict).health = s.health ∧
      (s.conflict).sweep = s.sweep ∧
      (s.conflict).out = s.out ∧
      (s.conflict).free = s.free ∧
      (s.conflict).pending = s.pending := by
  unfold State.conflict
  try dsimp only
  all_goals simp

@[simp] theorem hearPeer_frame (s : State) (k : StationNo) (n : Notice) :
    (s.hearPeer k n).life = s.life ∧
      (s.hearPeer k n).station = s.station ∧
      (s.hearPeer k n).accepted = s.accepted ∧
      (s.hearPeer k n).listenEnd = s.listenEnd ∧
      (s.hearPeer k n).time = s.time ∧
      (s.hearPeer k n).mapPort = s.mapPort ∧
      (s.hearPeer k n).tracker = s.tracker ∧
      (s.hearPeer k n).health = s.health ∧
      (s.hearPeer k n).sweep = s.sweep ∧
      (s.hearPeer k n).out = s.out ∧
      (s.hearPeer k n).free = s.free ∧
      (s.hearPeer k n).pending = s.pending := by
  unfold State.hearPeer
  try dsimp only
  all_goals simp

@[simp] theorem hearBytes_frame (s : State) (bs : List Byte) :
    (s.hearBytes bs).life = s.life ∧
      (s.hearBytes bs).station = s.station ∧
      (s.hearBytes bs).accepted = s.accepted ∧
      (s.hearBytes bs).listenEnd = s.listenEnd ∧
      (s.hearBytes bs).time = s.time ∧
      (s.hearBytes bs).mapPort = s.mapPort ∧
      (s.hearBytes bs).tracker = s.tracker ∧
      (s.hearBytes bs).health = s.health ∧
      (s.hearBytes bs).sweep = s.sweep ∧
      (s.hearBytes bs).out = s.out ∧
      (s.hearBytes bs).free = s.free ∧
      (s.hearBytes bs).pending = s.pending := by
  unfold State.hearBytes
  try dsimp only
  repeat' split
  all_goals simp

@[simp] theorem openAtEnd_frame (s : State)  :
    (s.openAtEnd).life = s.life ∧
      (s.openAtEnd).station = s.station ∧
      (s.openAtEnd).accepted = s.accepted ∧
      (s.openAtEnd).listenEnd = s.listenEnd ∧
      (s.openAtEnd).time = s.time ∧
      (s.openAtEnd).chans = s.chans ∧
      (s.openAtEnd).store = s.store ∧
      (s.openAtEnd).planner = s.planner ∧
      (s.openAtEnd).mapPort = s.mapPort ∧
      (s.openAtEnd).tracker = s.tracker ∧
      (s.openAtEnd).health = s.health ∧
      (s.openAtEnd).sweep = s.sweep ∧
      (s.openAtEnd).port = s.port ∧
      (s.openAtEnd).out = s.out ∧
      (s.openAtEnd).free = s.free ∧
      (s.openAtEnd).pending = s.pending := by
  unfold State.openAtEnd
  try dsimp only
  all_goals simp

@[simp] theorem endTransmission_frame (s : State) (bs : List Byte) :
    (s.endTransmission bs).life = s.life ∧
      (s.endTransmission bs).station = s.station ∧
      (s.endTransmission bs).accepted = s.accepted ∧
      (s.endTransmission bs).listenEnd = s.listenEnd ∧
      (s.endTransmission bs).time = s.time ∧
      (s.endTransmission bs).out = s.out ∧
      (s.endTransmission bs).free = s.free ∧
      (s.endTransmission bs).pending = s.pending := by
  unfold State.endTransmission
  try dsimp only
  repeat' split
  all_goals simp

@[simp] theorem staleDiscard_frame (s : State) (f : Flow) :
    (s.staleDiscard f).life = s.life ∧
      (s.staleDiscard f).station = s.station ∧
      (s.staleDiscard f).accepted = s.accepted ∧
      (s.staleDiscard f).listenEnd = s.listenEnd ∧
      (s.staleDiscard f).time = s.time ∧
      (s.staleDiscard f).chans = s.chans ∧
      (s.staleDiscard f).mapPort = s.mapPort ∧
      (s.staleDiscard f).link = s.link ∧
      (s.staleDiscard f).tracker = s.tracker ∧
      (s.staleDiscard f).out = s.out ∧
      (s.staleDiscard f).free = s.free ∧
      (s.staleDiscard f).pending = s.pending := by
  unfold State.staleDiscard
  try dsimp only
  all_goals simp

@[simp] theorem idleExpiry_frame (s : State) (f : Flow) :
    (s.idleExpiry f).life = s.life ∧
      (s.idleExpiry f).station = s.station ∧
      (s.idleExpiry f).accepted = s.accepted ∧
      (s.idleExpiry f).listenEnd = s.listenEnd ∧
      (s.idleExpiry f).time = s.time ∧
      (s.idleExpiry f).chans = s.chans ∧
      (s.idleExpiry f).mapPort = s.mapPort ∧
      (s.idleExpiry f).link = s.link ∧
      (s.idleExpiry f).tracker = s.tracker ∧
      (s.idleExpiry f).health = s.health ∧
      (s.idleExpiry f).out = s.out ∧
      (s.idleExpiry f).free = s.free ∧
      (s.idleExpiry f).pending = s.pending := by
  unfold State.idleExpiry
  try dsimp only
  all_goals simp

@[simp] theorem sweepTests_frame (s : State) (f : Flow) :
    (s.sweepTests f).life = s.life ∧
      (s.sweepTests f).station = s.station ∧
      (s.sweepTests f).accepted = s.accepted ∧
      (s.sweepTests f).listenEnd = s.listenEnd ∧
      (s.sweepTests f).time = s.time ∧
      (s.sweepTests f).chans = s.chans ∧
      (s.sweepTests f).mapPort = s.mapPort ∧
      (s.sweepTests f).link = s.link ∧
      (s.sweepTests f).tracker = s.tracker ∧
      (s.sweepTests f).out = s.out ∧
      (s.sweepTests f).free = s.free ∧
      (s.sweepTests f).pending = s.pending := by
  unfold State.sweepTests
  try dsimp only
  repeat' split
  all_goals simp

@[simp] theorem sweepFlow_frame (s : State) (f : Flow) :
    (s.sweepFlow f).life = s.life ∧
      (s.sweepFlow f).station = s.station ∧
      (s.sweepFlow f).accepted = s.accepted ∧
      (s.sweepFlow f).listenEnd = s.listenEnd ∧
      (s.sweepFlow f).time = s.time ∧
      (s.sweepFlow f).chans = s.chans ∧
      (s.sweepFlow f).mapPort = s.mapPort ∧
      (s.sweepFlow f).link = s.link ∧
      (s.sweepFlow f).tracker = s.tracker ∧
      (s.sweepFlow f).out = s.out ∧
      (s.sweepFlow f).free = s.free ∧
      (s.sweepFlow f).pending = s.pending := by
  unfold State.sweepFlow
  try dsimp only
  repeat' split
  all_goals simp

@[simp] theorem completeStep_frame (s : State)  :
    (s.completeStep).life = s.life ∧
      (s.completeStep).station = s.station ∧
      (s.completeStep).accepted = s.accepted ∧
      (s.completeStep).listenEnd = s.listenEnd ∧
      (s.completeStep).time = s.time ∧
      (s.completeStep).chans = s.chans ∧
      (s.completeStep).mapPort = s.mapPort ∧
      (s.completeStep).link = s.link ∧
      (s.completeStep).tracker = s.tracker ∧
      (s.completeStep).out = s.out ∧
      (s.completeStep).free = s.free ∧
      (s.completeStep).pending = s.pending := by
  unfold State.completeStep
  try dsimp only
  repeat' split
  all_goals simp

end Sys2Proof.Machine
end

