-- ==== Sys2Proof/Laws/Tables.lean ====
section
/-! SUPPORT. The tables of index and record pairs: reading after a write or a removal, and that both keep
the canonical form; the flow that a tag names. -/

namespace Sys2Proof.Machine

/-- Reading after a write of a table: the value at the index written, and the old value elsewhere. -/
theorem tabGet_tabPut {α : Type} (t : List (Nat × α)) (k j : Nat) (v : α) : tabGet (tabPut t k v) j = if j = k then some v else tabGet t j := by
  induction t with
  | nil => simp [tabPut, tabGet, eq_comm]
  | cons a r ih =>
    obtain ⟨i, x⟩ := a
    unfold tabPut
    split
    · simp only [tabGet]
      by_cases h : j = k
      · rw [if_pos h.symm, if_pos h]
      · rw [if_neg (fun q => h q.symm), if_neg h]
    · split
      · subst_vars; simp only [tabGet]
        by_cases h : j = i
        · rw [if_pos h.symm, if_pos h]
        · rw [if_neg (fun q => h q.symm), if_neg h, if_neg (fun q => h q.symm)]
      · simp only [tabGet, ih]
        split
        · subst_vars; split; (subst_vars; contradiction); rfl
        · rfl

/-- The canonical form, one record at a time. -/
theorem tabWf_cons {α : Type} (i : Nat) (x : α) (t : List (Nat × α)) : tabWf ((i,x)::t) = true ↔ tabWf t = true ∧ ∀ e ∈ t, i < e.1 := by
  induction t generalizing i x with
  | nil => simp [tabWf]
  | cons a r ih =>
    obtain ⟨j, y⟩ := a
    have hj := ih j y
    simp only [tabWf, Bool.and_eq_true, decide_eq_true_eq]
    constructor
    · rintro ⟨h1, h2⟩
      refine ⟨h2, ?_⟩
      intro e he
      simp at he
      rcases he with rfl | he
      · exact h1
      · exact Nat.lt_trans h1 ((hj.1 h2).2 e he)
    · rintro ⟨h1, h2⟩
      exact ⟨h2 (j, y) (by simp), h1⟩

/-- Every record after a write is the one written or an old one. -/
theorem mem_tabPut {α : Type} (t : List (Nat × α)) (k : Nat) (v : α) (e : Nat × α) (h : e ∈ tabPut t k v) : e = (k, v) ∨ e ∈ t := by
  induction t with
  | nil => simp [tabPut] at h; exact .inl h
  | cons a r ih =>
    obtain ⟨j, x⟩ := a
    unfold tabPut at h
    split at h
    · simp at h ⊢; tauto
    · split at h
      · simp at h ⊢; tauto
      · simp at h ⊢
        rcases h with h | h
        · tauto
        · rcases ih h with h | h <;> tauto

/-- Every record after a removal is an old one. -/
theorem mem_tabDel {α : Type} (t : List (Nat × α)) (k : Nat) (e : Nat × α) (h : e ∈ tabDel t k) : e ∈ t := by
  induction t with
  | nil => simp [tabDel] at h
  | cons a r ih =>
    obtain ⟨j, x⟩ := a
    unfold tabDel at h
    split at h
    · simp; tauto
    · simp at h ⊢; tauto

/-- A record that is read is in the table. -/
theorem mem_of_tabGet {α : Type} (t : List (Nat × α)) (k : Nat) (v : α) (h : tabGet t k = some v) : (k, v) ∈ t := by
  induction t with
  | nil => simp [tabGet] at h
  | cons a r ih =>
    obtain ⟨j, x⟩ := a
    unfold tabGet at h
    split at h
    · simp at h; subst_vars; simp
    · simp; exact .inr (ih h)

/-- An index below every listed one reads none. -/
theorem tabGet_below {α : Type} (t : List (Nat × α)) (k : Nat) (h : ∀ e ∈ t, k < e.1) : tabGet t k = none := by
  induction t with
  | nil => rfl
  | cons a r ih =>
    obtain ⟨j, x⟩ := a
    have := h (j, x) (by simp)
    unfold tabGet
    rw [if_neg (by simp at this; omega)]
    exact ih (fun e he => h e (by simp [he]))

/-- Reading after a removal from a table in canonical form. -/
theorem tabGet_tabDel {α : Type} (t : List (Nat × α)) (k j : Nat) (hw : tabWf t = true) : tabGet (tabDel t k) j = if j = k then none else tabGet t j := by
  induction t with
  | nil => simp [tabDel, tabGet]
  | cons a r ih =>
    obtain ⟨i, x⟩ := a
    rw [tabWf_cons] at hw
    unfold tabDel
    split
    · subst_vars
      split
      · subst_vars; exact tabGet_below _ _ hw.2
      · simp only [tabGet]; rw [if_neg (by omega)]
    · simp only [tabGet, ih hw.1]
      split
      · rw [if_neg (by omega)]
      · rfl

/-- A write keeps the canonical form. -/
theorem tabWf_tabPut {α : Type} (t : List (Nat × α)) (k : Nat) (v : α) (hw : tabWf t = true) : tabWf (tabPut t k v) = true := by
  induction t with
  | nil => rfl
  | cons a r ih =>
    obtain ⟨j, x⟩ := a
    unfold tabPut
    split
    · rw [tabWf_cons]; refine ⟨hw, ?_⟩
      intro e he; simp at he
      rcases he with rfl | he
      · assumption
      · have := (tabWf_cons _ _ _).1 hw; exact Nat.lt_trans ‹_› (this.2 e he)
    · split
      · subst_vars; rw [tabWf_cons] at hw ⊢; exact hw
      · rw [tabWf_cons] at hw ⊢
        refine ⟨ih hw.1, ?_⟩
        intro e he
        rcases mem_tabPut _ _ _ _ he with rfl | he
        · simp; omega
        · exact hw.2 e he

/-- A removal keeps the canonical form. -/
theorem tabWf_tabDel {α : Type} (t : List (Nat × α)) (k : Nat) (hw : tabWf t = true) : tabWf (tabDel t k) = true := by
  induction t with
  | nil => rfl
  | cons a r ih =>
    obtain ⟨j, x⟩ := a
    rw [tabWf_cons] at hw
    unfold tabDel
    split
    · exact hw.1
    · rw [tabWf_cons]; exact ⟨ih hw.1, fun e he => hw.2 e (mem_tabDel _ _ _ he)⟩

/-- The lowest free index from k on is at least k and unlisted. -/
theorem lowestFree_none {α : Type} (t : List (Nat × α)) (k : Nat) (hw : tabWf t = true) (hk : ∀ e ∈ t, k ≤ e.1) : tabGet t (lowestFree t k) = none ∧ k ≤ lowestFree t k := by
  induction t generalizing k with
  | nil => simp [lowestFree, tabGet]
  | cons a r ih =>
    obtain ⟨j, x⟩ := a
    have h0 := (tabWf_cons _ _ _).1 hw
    unfold lowestFree
    split
    · subst_vars
      have := ih (j+1) h0.1 (fun e he => h0.2 e he)
      refine ⟨?_, by omega⟩
      unfold tabGet
      rw [if_neg (by omega)]; exact this.1
    · refine ⟨?_, Nat.le_refl _⟩
      have := hk (j, x) (by simp)
      apply tabGet_below
      intro e he
      simp at he this
      rcases he with rfl | he
      · simp; omega
      · have := h0.2 e he; omega

/-- The flow a tag names stands in the record the tag is bound to (R41). -/
theorem flow_record {s : State} {tag : Tag} {f : Flow} (e : s.flow tag = some f) : ∃ i, s.tagState tag = some (.bound i) ∧ s.flowIx tag = some i ∧ tabGet s.store.flows i = some f := by
  unfold State.flow at e
  cases h1 : s.flowIx tag with
  | none => simp [h1] at e
  | some i =>
    simp [h1] at e
    refine ⟨i, ?_, rfl, e⟩
    unfold State.flowIx at h1
    split at h1
    · simp at h1; subst_vars; assumption
    · simp at h1

/-- A second write of one index replaces the first. -/
@[simp] theorem tabPut_tabPut {α : Type} (t : List (Nat × α)) (k : Nat) (a b : α) :
    tabPut (tabPut t k a) k b = tabPut t k b := by
  induction t with
  | nil => simp [tabPut]
  | cons x r ih =>
    obtain ⟨i, y⟩ := x
    simp only [tabPut]
    split
    · simp [tabPut]
    · split
      · simp [tabPut]
      · simp [tabPut, *]

/-- A second write of one place of four replaces the first. -/
@[simp] theorem quad_set_set {α : Type} (q : Quad α) (i : Fin 4) (a b : α) :
    (q.set i a).set i b = q.set i b := by
  match i with
  | 0 => rfl
  | 1 => rfl
  | 2 => rfl
  | 3 => rfl

end Sys2Proof.Machine
end

