-- ==== Sys2Proof/Laws/Flows.lean ====
section
/-! SUPPORT. Reading a flow or a modem after the shared operations that write one. -/

namespace Sys2Proof.Machine

/-- The flow a tag names depends on the store alone. -/
theorem flow_of_store {s t : State} (h : t.store = s.store) (tag : Tag) : t.flow tag = s.flow tag := by
  unfold State.flow State.flowIx State.tagState
  rw [h]

/-- Changing the record a tag names changes what the tag reads as just so (R36, R41). -/
theorem flow_updFlow_same {s : State} {tag : Tag} {f : Flow} (h : s.flow tag = some f)
    (g : Flow → Flow) : (s.updFlow tag g).flow tag = some (g f) := by
  obtain ⟨i, _, hi, _⟩ := flow_record h
  have hs : (s.updFlow tag g).store = (s.writeFlow tag (g f)).store := by
    simp only [State.updFlow, h]
    simp
  rw [flow_of_store hs]
  have hw : s.writeFlow tag (g f)
      = s.modStore fun st => { st with flows := tabPut st.flows i (g f) } := by
    simp only [State.writeFlow, hi]
  rw [hw]
  have hx : (s.modStore fun st => { st with flows := tabPut st.flows i (g f) }).flowIx tag
      = some i := hi
  unfold State.flow
  rw [hx]
  simp [tabGet_tabPut]

/-- The tag map is not changed by a write to a flow record. -/
@[simp] theorem updFlow_tagMap (s : State) (tag : Tag) (g : Flow → Flow) :
    (s.updFlow tag g).store.tagMap = s.store.tagMap := by
  unfold State.updFlow
  split
  · rfl
  · simp only [settle_frame]
    unfold State.writeFlow
    split <;> rfl

/-- The modem table is not changed by a write to a flow record. -/
@[simp] theorem updFlow_modems (s : State) (tag : Tag) (g : Flow → Flow) :
    (s.updFlow tag g).store.modems = s.store.modems := by
  unfold State.updFlow
  split
  · rfl
  · simp only [settle_frame]
    unfold State.writeFlow
    split <;> rfl

/-- Writing a modem record is read back at its index only. -/
theorem modemAt_writeModem (s : State) (i j : Nat) (m : Modem) :
    (s.writeModem i m).modemAt j = if j = i then some m else s.modemAt j := by
  unfold State.modemAt State.writeModem
  simp [tabGet_tabPut]

/-- A flow whose eligibility agrees with its place is left alone by the rule of membership (R38). -/
theorem settle_of_agrees {s : State} {f : Flow} (h : f.eligible = s.isReady f) : s.settle f = s := by
  unfold State.settle
  cases he : f.eligible <;> rw [he] at h <;> simp [← h]

end Sys2Proof.Machine
end

