-- ==== Sys2Proof/Tests/Slice0.lean ====
section
/-! SUPPORT. Tests of the model on the worked cases of the spec, the smoke tests of WellFormed, and a
witness for every statement with hypotheses: a concrete state and operands that meet them. -/

namespace Sys2Proof.Tests

open Sys2Proof.Machine

set_option Elab.async false

/-! ### Small states -/

/-- Profile A of chapter 2, with the maxTurnBytes of its worked cases. -/
def profileA : ProfilePart := ⟨32, 6, 100, 16, true, 8, 4000⟩

/-- UC0 of the worked sequence 1.4 and of the worked build 5.8; Wmin and Wmax as in 5.6. -/
def uc0 : ChannelPart := ⟨true, 2, 6, 1048576, 64, 512, 64, 8, 64, 16, 8⟩

/-- A start record with the leads of 1.4, minGrantBytes of 5.8, reportWait of 8.7, the health values of
9.7 and the staleLimit of 10.6; UC0 and UC1 enabled. -/
def record : StartRecord :=
  ⟨40960, 12288, 256, 65536, 2500, 100, 120, 150, 30, 20,
    ⟨uc0, uc0, noChannelPart, noChannelPart⟩, Vector.replicate 16 profileA⟩

def channel : Channel := { Channel.reset with clock := some ⟨1000, 1000, 1000, []⟩, w := some 20 }

/-- Station 3 in SERVING at the build-start of period 1,000 (5.8), with UC0 and UC1 counting. -/
def base : State :=
  { State.reset with
    life := .serving
    station := 3
    accepted := some record
    time := { TimeUnit.reset with
      timed := true, nodeTime := 33775616, beat := 515, nextBeat := 33816576 }
    chans := ⟨channel, channel, Channel.reset, Channel.reset⟩ }

def modem : Modem := newModem 4800 false 3 9

/-- An idle bid flow of class 0 under modem record 0. -/
def flow (tag : Tag) : Flow :=
  { tag := tag, modemIx := 0, modemKey := 4800, state := .active, cls := 0, chanMask := 0x1,
    spanMask := 0, rate := 0, ceiling := 6000, credit := 6000, lastBeat := 0, outstanding := 0,
    tentative := 0, deferred := none, discard := false, pendingCount := 0, maxTurn := 16383,
    idleCode := 0, lastActivity := 0, lastService := 0, overgrant := 0, cadence := none }

def cadenceOf (phase bytes : Nat) : Cadence := ⟨0, 2, bytes, phase, 1, 3, 1000, 0⟩

/-- `base` with one modem and one flow in record 0. -/
def withFlow (f : Flow) : State :=
  { base with
    store := ⟨[(0, { modem with flowCount := 1 })], [(0, f)], [(f.tag.toNat, .bound 0)]⟩
    planner := { Planner.reset with
      ready := if f.eligible then (Quad.all []).set f.cls [f.tag] else Quad.all [] } }

def entry (tag : Tag) (start len bytes : Nat) (fate : Fate) (hold : Bool) : Entry :=
  ⟨.data, start, len, tag, 3, bytes, fate, hold, false⟩

/-- The pending entry of a turn of `base` that has ended. -/
def pendingAt (tag : Tag) (slot : Nat) (bytes : Nat) (endTick : Tick) : PendingEntry :=
  ⟨0, 1000, slot, false, tag, 0, 4800, bytes, endTick, endTick + 65536, false, true⟩

def after (i : Instr) (s : State) : State :=
  match exec i s with
  | .next t => t
  | _ => s

/-! ### WellFormed: an ill-formed term for each check, refused -/

theorem test_wf_discard_of_whole_record : (Instr.burstRecordDiscard 2 false).wellFormed = false := by
  decide

theorem test_wf_contention_rank_5 : (Instr.contentionDecided [0x28] true).wellFormed = false := by
  decide

theorem test_wf_contention_station_twice :
    (Instr.contentionDecided [0x0A, 0x12] true).wellFormed = false := by decide

theorem test_wf_direction_byte_01 : (Instr.badDirectionByte 1).wellFormed = false := by decide

theorem test_wf_direction_byte_02 : (Instr.badDirectionByte 2).wellFormed = false := by decide

/-- READ STATUS with its right check is no bad frame. -/
theorem test_wf_good_frame :
    (Instr.badCommandFrame ⟨0x0D, 0, [], crc16 [0x0D, 0, 0]⟩).wellFormed = false := by
  decide +kernel

/-- A frame whose length field does not count its body. -/
theorem test_wf_frame_length :
    (Instr.badCommandFrame ⟨0x0D, 2, [7], 0⟩).wellFormed = false := by decide

theorem test_wf_accepts :
    (Instr.burstRecordDiscard 0 false).wellFormed ∧ (Instr.burstRecordDiscard 2 true).wellFormed ∧
      (Instr.contentionDecided [0x0A, 0x13] true).wellFormed ∧
      (Instr.badDirectionByte 0).wellFormed ∧
      (Instr.badCommandFrame ⟨0x0D, 0, [], 0⟩).wellFormed := by decide +kernel

/-! ### Records, written out from chapter 12 -/

/-- The published check value of this code over the ASCII digits 1 to 9. -/
theorem test_check : crc16 [0x31, 0x32, 0x33, 0x34, 0x35, 0x36, 0x37, 0x38, 0x39] = 0x29B1 := by
  decide +kernel

theorem test_bid_bytes :
    burstCommand [0x01, 0xC0, 0x03, 0xE8, 0x02, 0x00, 0x05, 0xDC] =
      .bidRecord ⟨3, 1000, 512, 1500⟩ := by decide +kernel

/-- Channel 1, RECEIVED with a tail bid; reserved bits set are ignored. -/
theorem test_report_bytes :
    burstCommand [0x02, 0x7C, 0x03, 0xE8, 0xF8, 0x2E, 0xCB, 0xB8, 0xFC, 0x03, 0xFC, 0x00, 0xDE, 0xFF,
      0x04, 0xB0] = .outcomeReport ⟨1, 1000, 46, 0, 3000, 3, 0, 30, true, 1200⟩ := by decide +kernel

theorem test_tally_bytes :
    burstCommand [0x03, 0x81, 0x00, 0x07, 0x01, 0x00, 0x00, 0x02, 0x00, 0x03, 0x00, 0x04] =
      .windowTally ⟨2, 7, true, 256, 2, 3, 4⟩ := by decide +kernel

theorem test_arrival_bytes :
    burstCommand [0x04, 0x54, 0x01, 0x02, 0x03, 0x04, 0x05, 0x06] =
      .arrivalRecord ⟨1, 20, 0x010203040506⟩ := by decide +kernel

theorem test_short_record : burstCommand [0x02, 0, 0] = .burstRecordDiscard 2 true := by
  decide +kernel

/-- Station 2's TAKE with hold of 7.10: tag 900, 3,000 bytes, key 6,001, its span, fifteen bytes before
the check. -/
theorem test_take_hold_bytes :
    (noticeBytes 2 (.takeHold 900 3000 6001 50331648 50336384)).take 15 =
      [0x08, 0x03, 0x84, 0x0B, 0xB8, 0x17, 0x71, 0x03, 0x00, 0x00, 0x00, 0x03, 0x00, 0x12, 0x80] := by
  decide +kernel

theorem test_presence_bytes : (noticeBytes 5 (.presence true)).take 2 = [0x94, 0x02] := by
  decide +kernel

/-- Rank 3, then the station number (12.3). -/
theorem test_arbitration_field : arbitrationField 5 (.bid 1 1) = 0x1D := by decide

theorem test_admit_modem_frame :
    transactionCommand false ([0x01] ++ withCheck [0x03, 0x00, 0x04, 0x12, 0xC0, 0x01, 0x39]) =
      some (.admitModem 4800 true 3 9) := by decide +kernel

theorem test_transactions :
    transactionCommand true ([0x01] ++ withCheck [0x0D, 0, 0]) = some .commandBusy ∧
      transactionCommand false [0x01, 0x0D, 0] = some .malformedFrame ∧
      transactionCommand false [0x02, 0, 0] = some (.responseRead 2) ∧
      transactionCommand false [0x05] = some (.badDirectionByte 5) ∧
      transactionCommand false ([0x01] ++ withCheck [0x14, 0, 0]) =
        some (.badCommandFrame ⟨0x14, 0, [], crc16 [0x14, 0, 0]⟩) := by decide +kernel

/-! ### Arithmetic, from the worked cases -/

/-- The table of 2.2. -/
theorem test_slots :
    [1, 10, 50, 51, 800, 801, 1518, 16383].map (slotsFor profileA 64) =
      [2, 2, 2, 3, 20, 21, 38, 397] := by decide +kernel

/-- Shortening no, and parity 0 (2.2). -/
theorem test_slots_other_profiles :
    slotsFor { profileA with shortening := false } 64 1518 = 40 ∧
      slotsFor { profileA with shortening := false } 64 10 = 4 ∧
      slotsFor { profileA with p := 0 } 64 10 = 1 := by decide +kernel

/-- 2.3, 2.6 and 5.8. -/
theorem test_fit :
    [1, 2, 4, 20, 38, 73, 397].map (fitFor profileA 64) = [0, 50, 130, 800, 1538, 2994, 16383] := by
  decide +kernel

/-- 2.5: the profile fails UC2. -/
theorem test_profile_fit :
    profileFits profileA { uc0 with q := 16 } = true ∧
      profileFits profileA { uc0 with q := 16, periodSlots := 384, wMax := 48 } = false ∧
      profileFits { profileA with maxTurn := 3000 }
        { uc0 with q := 16, periodSlots := 384, wMax := 48 } = true := by decide +kernel

/-- 2.6: the elapsed beats held. -/
theorem test_refresh_held :
    (Flow.refresh { flow 1 with rate := 10, ceiling := 1048575, credit := 0, lastBeat := 10 }
      70000).credit = 655350 ∧
    (Flow.refresh { flow 1 with rate := 20, ceiling := 1048575, credit := 0, lastBeat := 10 }
      70000).credit = 1048575 := by decide +kernel

/-- 5.6: the six worked cases. -/
theorem test_adapt :
    [adaptW 16 8 64 16 5 2, adaptW 20 8 64 20 1 10, adaptW 20 8 64 20 0 11, adaptW 18 8 64 10 3 0,
      adaptW 9 8 64 9 0 9, adaptW 60 8 64 60 20 0] = [20, 20, 18, 23, 8, 64] := by decide +kernel

/-- 1.4: the first period at entry tick 983,040, and one period after the epoch. -/
theorem test_first_period :
    firstPeriod uc0 40960 983040 = 0 ∧ firstPeriod uc0 40960 1007616 = 0 ∧
      firstPeriod uc0 40960 1007617 = 1 ∧ firstPeriod uc0 40960 1040384 = 1 := by decide +kernel

/-! ### One command each -/

/-- Station 3 untimed in START with its record held (1.4). -/
def held : State := { State.reset with station := 3, accepted := some record }

def firstWordAt (v : Tick) : Instr := .timeWord v (crc16 (be4 v.toNat))

/-- 1.4 after the first valid word at 983,040, in LISTEN. -/
def listening : State := after (firstWordAt 983040) held

/-- The same with UC1 not counting, so that no two deadlines share a tick. -/
def listeningOne : State := { listening with chans := listening.chans.set 1 Channel.reset }

def streams (s : State) (c : Chan) : Option (Period × Period × Period) :=
  (s.chans.get c).clock.map fun k => (k.build, k.deadline, k.start)

theorem test_hard_reset :
    after (.hardReset 3) base = { State.reset with station := 3 } := by decide +kernel

/-- 1.4: entry to LISTEN at the first word. -/
theorem test_first_word :
    listening.life = .listen ∧ listening.time.nodeTime = 983040 ∧ listening.time.beat = 0 ∧
      streams listening 0 = some (0, 0, 0) ∧ listening.listenEnd = some 3080192 := by
  decide +kernel

/-- A word that does not state a beat boundary (R2). -/
theorem test_bad_word : (after (firstWordAt 983041) held).time.badWords = 1 := by decide +kernel

/-- Counting passes the deadlines before 1,048,576 (1.4) and the beat adds 1. -/
theorem test_beat_event :
    let t := after (.beatEvent 1048576) (after (.buildStart 0 1) listeningOne)
    t.time.beat = 1 ∧ t.time.nodeTime = 1048576 := by decide +kernel

theorem test_build_start :
    let t := after (.buildStart 0 0) listeningOne
    t.time.nodeTime = 1007616 ∧ streams t 0 = some (1, 0, 0) ∧ ⟨0, 0⟩ ∈ t.planner.requests := by
  decide +kernel

/-- 1.4: at the deliver deadline of period 0 its request still waits, so the map is MISSED. -/
theorem test_deliver_deadline :
    let s := after (.buildStart 0 0) listeningOne
    let t := after (.deliverDeadline 0 0) s
    t.time.nodeTime = 1036288 ∧ streams t 0 = some (1, 1, 0) ∧ (t.chans.get 0).maps.missed = 1 := by
  decide +kernel

/-- A station in SERVING at 33,800,000 with one channel, every deadline of the period at hand. -/
def oneChannel : State :=
  { base with
    time := { base.time with nodeTime := 33800000 }
    chans := base.chans.set 1 Channel.reset |>.set 0 { channel with clock := some ⟨1001, 1001, 1000, []⟩ } }

/-- A map still in the map output queue at its period-start is LATE (R89). -/
theorem test_period_start :
    let t := after (.periodStart 0 1000)
      { oneChannel with
        time := { oneChannel.time with nodeTime := 33816576, nextBeat := 33882112 }
        mapPort := ⟨[⟨⟨0, 1000⟩, [], false⟩], []⟩ }
    t.mapPort.queue = [] ∧ (t.chans.get 0).maps.late = 1 ∧ streams t 0 = some (1001, 1001, 1001) := by
  decide +kernel

theorem test_listen_end :
    let t := after (.listenEnd 33800010)
      { oneChannel with life := .listen, listenEnd := some 33800010 }
    t.life = .serving ∧ t.listenEnd = none ∧ t.isLatched .start = true := by decide +kernel

/-- 8.7 step 7: the entry of flow 33 expires as LOST. -/
theorem test_pending_expiry :
    let s := withFlow { flow 33 with outstanding := 6006, pendingCount := 1 }
    let t := after (.pendingExpiry 33914880)
      { s with
        time := { s.time with nodeTime := 33914880, nextBeat := 33947648 }
        chans := Quad.all Channel.reset
        tracker := ⟨[pendingAt 33 439 2994 33849344], 0⟩ }
    t.tracker.list = [] ∧ (t.flow 33).map (·.pendingCount) = some 0 ∧ t.health.lost = 1 ∧
      t.planner.ready.q0 = [33] := by decide +kernel

theorem test_local_hold_end :
    (after (.localHoldEnd 33800001)
      { oneChannel with planner := { Planner.reset with
        localHolds := [⟨4400, 0, 33800001, ⟨0, 7, 0⟩⟩, ⟨4400, 0, 33800002, ⟨0, 7, 1⟩⟩] } }
      ).planner.localHolds = [⟨4400, 0, 33800002, ⟨0, 7, 1⟩⟩] := by decide +kernel

theorem test_shared_hold_end :
    (after (.sharedHoldEnd 33800001)
      { oneChannel with link := { Link.reset with
        holds := [⟨4400, 0, 33800002, 5⟩, ⟨4800, 0, 33800001, 5⟩] } }
      ).link.holds = [⟨4400, 0, 33800002, 5⟩] := by decide +kernel

theorem test_presence_timer :
    let t := after (.presenceTimer 33800001)
      { oneChannel with link := { Link.reset with presence := some 33800001 } }
    t.link.queue = [⟨.presence true, none⟩] ∧ t.link.presence = some 34062145 ∧
      t.link.medium = .idle (some ⟨.presence true, none⟩) false := by decide +kernel

def rosterWith5 : Vector RosterEntry 8 :=
  (Vector.replicate 8 RosterEntry.absent).set 5 ⟨true, .serving, some 33800001⟩

theorem test_absence_tick :
    let t := after (.absenceTick 5 33800001)
      { oneChannel with link := { Link.reset with roster := rosterWith5 } }
    t.stored 5 = .absent ∧ t.isLatched .peer = true := by decide +kernel

/-- 4.8 step 1. -/
theorem test_bid_idle :
    let t := after (.bidRecord ⟨0, 1000, 512, 1500⟩) (withFlow (flow 512))
    (t.flow 512).map (·.outstanding) = some 1500 ∧ t.planner.ready.q0 = [512] ∧
      (t.chans.get 0).bids.applied = 1 := by decide +kernel

/-- 4.8 step 4: 1,200 replaces 800. -/
theorem test_bid_replaces :
    let t := after (.bidRecord ⟨0, 1000, 512, 1200⟩)
      (withFlow { flow 512 with pendingCount := 1, deferred := some (800, 0) })
    (t.flow 512).map (·.deferred) = some (some (1200, 0)) ∧ (t.chans.get 0).bids.replaced = 1 := by
  decide +kernel

/-- 8.7 step 4: the deferred 500 and the tail bid of 1,200 are applied. -/
theorem test_outcome_report :
    let s := withFlow { flow 11 with pendingCount := 1, deferred := some (500, 0) }
    let t := after (.outcomeReport ⟨0, 1000, 46, 0, 3000, 0, 0, 30, true, 1200⟩)
      { s with
        time := { s.time with nodeTime := 33830000 }
        tracker := ⟨[pendingAt 11 46 3000 33824256], 0⟩ }
    (t.flow 11).map (fun f => (f.pendingCount, f.outstanding)) = some (0, 1700) ∧
      t.planner.ready.q0 = [11] ∧ t.tracker.list = [] ∧
      (t.chans.get 0).outcomes.bytesReceived = 3000 := by decide +kernel

/-- 9.7 step 8, the ring empty: the modem becomes DEGRADED. -/
theorem test_outcome_degrades :
    let m := { modem with integrity := 134, margin := 180, lifetime := 2 }
    let s := { withFlow { flow 601 with pendingCount := 1 } with
      tracker := ⟨[pendingAt 601 46 100 33770000], 0⟩ }
    let t := after (.outcomeReport ⟨0, 1000, 46, 2, 0, 0, 1, 9, false, 0⟩)
      { s with
        store := { s.store with modems := [(0, m)] }
        health := { Health.reset with seq := 56 } }
    (t.modemAt 0).map (fun m => (m.state, m.integrity, m.margin)) = some (.degraded, 118, 176) ∧
      t.health.ring.map (fun r => (r.seq, r.kind, r.tag, r.lifetime)) = [(56, .degrade, 601, 3)] ∧
      t.health.seq = 57 := by decide +kernel

/-- 5.6, the first worked case, on a channel with its values. -/
theorem test_window_tally :
    let t := after (.windowTally ⟨0, 1000, false, 16, 9, 5, 2⟩)
      { base with chans := base.chans.set 0 { channel with w := some 16 } }
    (t.chans.get 0).w = some 20 ∧ (t.chans.get 0).outcomes.grown = 1 := by decide +kernel

theorem test_arrival :
    let t := after (.arrivalRecord ⟨1, 20, 0x010203040506⟩) base
    t.port.arrivals = [⟨1, 0x010203040506, 20, 33775616⟩] ∧ t.isLatched .arrival = true := by
  decide +kernel

theorem test_record_discard :
    (after (.burstRecordDiscard 9 false) base).port.burstDiscards = 1 := by decide +kernel

/-! The worked build of 5.8. -/

def served (tag : Tag) (ix : Nat) (key : Key) (cls : ServiceClass) (rate credit owed : Nat) : Flow :=
  { flow tag with
    modemIx := ix, modemKey := key, cls := cls, rate := rate, credit := credit,
    outstanding := owed, lastBeat := 515 }

def worked : State :=
  { base with
    store :=
      ⟨[(0, modem), (1, newModem 4400 true 3 3), (2, newModem 5100 true 3 3)],
       [(0, served 11 0 4800 0 0 0 3000), (1, served 12 1 4400 0 0 0 500),
        (2, served 21 0 4800 1 375 1000 5000),
        (3, { served 22 2 5100 1 0 0 20000 with spanMask := 0x20 }),
        (4, served 23 0 4800 1 100 100 2000), (5, served 31 0 4800 2 0 0 6000),
        (6, served 32 0 4800 2 0 0 4000), (7, served 33 0 4800 2 0 0 9000),
        (8, served 51 0 4800 3 0 0 700), (9, { flow 41 with cadence := some (cadenceOf 40 200) })],
       [(11, .bound 0), (12, .bound 1), (21, .bound 2), (22, .bound 3), (23, .bound 4),
        (31, .bound 5), (32, .bound 6), (33, .bound 7), (41, .bound 9), (51, .bound 8)]⟩
    planner := { Planner.reset with
      requests := [⟨0, 1000⟩]
      localHolds := [⟨4400, 33823576, 33825576, ⟨2, 7, 0⟩⟩]
      ready := ⟨[11, 12], [21, 22, 23], [31, 32, 33], [51]⟩ }
    link := { Link.reset with roster := rosterWith5 } }

/-- 5.8: the entries, the ready lists, and the TAKE with hold of turn 22. -/
theorem test_worked_build :
    let t := after (.plannerTakesRequest none) worked
    (t.planner.building.map fun b => b.map.entries.map fun e => (e.tag, e.start, e.len, e.bytes)) =
      some [(0, 0, 16, 0), (0, 16, 20, 0), (41, 40, 6, 200), (11, 46, 74, 3000),
        (21, 120, 25, 1000), (22, 145, 98, 4000), (31, 243, 98, 4000), (32, 341, 98, 4000),
        (33, 439, 73, 2994)] ∧
      t.planner.ready = ⟨[12], [21, 22, 23], [31, 33], [51]⟩ ∧
      t.link.queue.map (·.notice) = [.takeHold 22 4000 5100 33825856 33832128] := by decide +kernel

/-- The end times of 8.7 for the turns of flows 41, 11, 21 and 33. -/
theorem test_worked_pendings :
    ((after (.plannerTakesRequest none) worked).tracker.list.filter fun e =>
      [40, 46, 120, 439].contains e.slot).map (fun e => (e.slot, e.endTick, e.expiry)) =
      [(40, 33819520, 33885056), (46, 33824256, 33889792), (120, 33825856, 33891392),
        (439, 33849344, 33914880)] := by decide +kernel

/-- 5.8: turn 22 is unconfirmed, so the map becomes SEALING. -/
theorem test_build_end :
    let t := after .buildEnd
      { base with planner := { Planner.reset with
        building := some ⟨⟨⟨0, 1000⟩, [entry 22 145 98 4000 .queued true], false⟩, 20, .done, false⟩ } }
    t.planner.building = none ∧ t.planner.sealing.map (·.name) = [⟨0, 1000⟩] ∧ t.mapPort.queue = [] := by
  decide +kernel

/-- 12.3: the header of UC0's map of period 1,000 with backoff exponents 2 and 6, and one entry. -/
theorem test_framer :
    let t := after .framerTakesMap
      { base with mapPort := ⟨[⟨⟨0, 1000⟩, [entry 11 46 74 3000 .noTake false], false⟩], []⟩ }
    t.out.turnMap = [0x00, 0x01, 0x03, 0xE8, 0x26, 0, 0, 0, 0x03, 0, 11, 0, 46, 0, 74, 0] ∧
      t.mapPort.delivered.map (·.name) = [⟨0, 1000⟩] := by decide +kernel

/-- 7.10 step 3 at station 5: rank 0 against rank 0, and station 2's number is lower. -/
theorem test_contention_lost :
    let q : Queued := ⟨.takeHold 900 2500 6001 50334720 50339200, none⟩
    let t := after (.contentionDecided [0x02] true)
      { base with station := 5, link := { Link.reset with queue := [q], medium := .idle (some q) true } }
    t.link.counters.losses = 1 ∧ t.link.inTx = none ∧ t.link.queue = [q] := by decide +kernel

/-- The same contention at station 2. -/
theorem test_contention_won :
    let q : Queued := ⟨.takeHold 900 3000 6001 50331648 50336384, none⟩
    let t := after (.contentionDecided [0x05] true)
      { base with station := 2, link := { Link.reset with queue := [q], medium := .idle (some q) true } }
    t.link.inTx = some ⟨q, false, false⟩ ∧ t.link.queue = [] := by decide +kernel

def flow900 : Flow := { flow 900 with outstanding := 10000, tentative := 2500, spanMask := 0x24 }

/-- 7.10 step 4 at station 5: station 2's TAKE with hold stands and is applied. -/
theorem test_transmission_peer :
    let s := { withFlow flow900 with station := 5 }
    let t := after (.transmissionEnd (noticeBytes 2 (.takeHold 900 3000 6001 50331648 50336384))) s
    (t.flow 900).map (fun f => (f.outstanding, f.tentative)) = some (7000, 2500) ∧
      t.link.holds = [⟨6001, 50331648, 50336384, 2⟩] := by decide +kernel

/-- 7.10 step 6 at station 5: its own TAKE with hold is void. -/
theorem test_transmission_own :
    let q : Queued := ⟨.takeHold 900 2500 6001 50334720 50339200, none⟩
    let s := withFlow { flow900 with outstanding := 7000 }
    let t := after (.transmissionEnd [])
      { s with
        station := 5
        link := { Link.reset with
          inTx := some ⟨q, false, false⟩, medium := .sending
          holds := [⟨6001, 50331648, 50336384, 2⟩] } }
    (t.flow 900).map (fun f => (f.outstanding, f.tentative)) = some (7000, 0) ∧
      t.health.ring.map (fun r => (r.kind, r.key, r.tag)) = [(.holdVoid, 6001, 900)] := by
  decide +kernel

def resting : Flow :=
  { flow 130 with outstanding := 900, idleCode := 30, lastService := 10000, lastActivity := 10200 }

def swept (f : Flow) (beat : Beat) : State :=
  { withFlow f with
    time := { base.time with beat := beat }
    sweep := { Sweep.reset with state := .running, step := some ⟨some f.tag⟩ } }

theorem test_sweep_begin :
    (after .sweepStepBegin { swept resting 0 with sweep := { Sweep.reset with state := .running } }
      ).sweep.step = some ⟨some 130⟩ := by decide +kernel

/-- 10.6 at beat 12,900: a stale discard. -/
theorem test_sweep_stale :
    let t := after .sweepStepCompletion (swept resting 12900)
    (t.flow 130).map (fun f => (f.outstanding, f.state)) = some (0, .active) ∧
      t.port.attention = [⟨130, .stale⟩] ∧ t.sweep.staleBytes = 900 ∧ t.planner.ready.q0 = [] := by
  decide +kernel

/-- 10.6 at beat 17,700: an idle expiry, its attention entry refused. -/
theorem test_sweep_idle :
    let s := swept { resting with outstanding := 0 } 17700
    let t := after .sweepStepCompletion
      { s with port := { s.port with attention := [⟨130, .stale⟩] } }
    (t.flow 130).map (·.state) = some .dormant ∧ t.port.attDuplicates = 1 ∧ t.sweep.cursor = 1 := by
  decide +kernel

/-! The Management Port. -/

def answered : State :=
  { base with port := { Port.reset with slot := .answered ⟨0x0F, .done, []⟩ } }

theorem test_command_busy :
    let t := after .commandBusy answered
    t.port.busy = 1 ∧ t.out.statusByte = 1 ∧ t.port.taken = 0 := by decide +kernel

/-- 12.4: marker, code, DONE, an empty body, and the check. -/
theorem test_response_read :
    let t := after (.responseRead 7) answered
    t.out.response = withCheck [1, 0x0F, 0, 0, 0] ∧ t.port.slot = .ready := by decide +kernel

theorem test_malformed : (after .malformedFrame base).port.malformed = 1 := by decide +kernel

theorem test_direction_byte : (after (.badDirectionByte 7) base).port.malformed = 1 := by
  decide +kernel

/-- A code that names no command: BAD_FIELD naming offset 0 (R167, 12.4). -/
theorem test_bad_frame :
    (after (.badCommandFrame ⟨0x14, 0, [], crc16 [0x14, 0, 0]⟩) base).port.slot =
      .answered ⟨0x14, .badField, [0, 0]⟩ := by decide +kernel

/-- 2.5: P5 fails UC2, so LOAD START answers PROFILE_FIT with item 5. -/
theorem test_load_start_fails :
    let r := { record with
      channels := ⟨uc0, { uc0 with q := 16 }, { uc0 with q := 16, periodSlots := 384, wMax := 48 },
        noChannelPart⟩
      profiles := (Vector.replicate 16 { profileA with maxTurn := 3000 }).set 5 profileA }
    (after (.loadStart r) State.reset).port.slot = .answered ⟨0x01, .startError, [0x07, 5]⟩ := by
  decide +kernel

theorem test_load_start :
    let t := after (.loadStart record) State.reset
    t.accepted = some record ∧ t.life = .start ∧ t.port.slot = .answered ⟨0x01, .done, []⟩ := by
  decide +kernel

theorem test_restart :
    let t := after .restart { base with health := { Health.reset with seq := 56, degrades := 1 } }
    t.life = .start ∧ t.station = 3 ∧ t.time.nodeTime = 33775616 ∧ t.time.beat = 0 ∧
      t.health.seq = 56 ∧ t.health.degrades = 0 := by decide +kernel

theorem test_admit_modem :
    let t := after (.admitModem 4800 true 3 9) base
    t.modemAt 0 = some (newModem 4800 true 3 9) ∧ t.port.slot = .answered ⟨0x03, .done, [0, 0]⟩ := by
  decide +kernel

theorem test_remove_modem :
    let t := after (.removeModem 4800) (withFlow (flow 130))
    t.store.modems = [] ∧ t.store.flows = [] ∧ t.tagState 130 = none := by decide +kernel

/-- 9.7: normal profile P3, fallback profile P9. -/
theorem test_pin_modem :
    (after (.pinModem 4800 2) (withFlow (flow 130))).port.slot = .answered ⟨0x05, .done, [9]⟩ := by
  decide +kernel

theorem test_read_modem_unknown :
    (after (.readModem 5) base).port.slot = .answered ⟨0x06, .unknown, []⟩ := by decide +kernel

def admission : AdmitFlow :=
  ⟨77, 4800, false, true, 2, 0x3, 0, 375, 2000000, 100, 30, 0, 0, 0, 0, 0, 0⟩

/-- R43: the ceiling is clamped, and maxTurnBytes is raised to minGrantBytes. -/
theorem test_admit_flow :
    let t := after (.admitFlow admission) (withFlow (flow 130))
    (t.flow 77).map (fun f => (f.ceiling, f.credit, f.maxTurn, f.discard)) =
      some (1048575, 1048575, 256, true) ∧ t.flowIx 77 = some 1 ∧
      t.port.slot = .answered ⟨0x07, .done, [0, 1]⟩ := by decide +kernel

/-- The fields of flow 77 of 6.7, on UC0. -/
theorem test_admit_cadence_flow :
    let t := after (.admitFlow { admission with
      cadence := true, interval := 2, cadBytes := 200, phase := 100, jitter := 1, idleLimit := 3 })
      (withFlow (flow 130))
    (t.flow 77).bind (·.cadence) = some ⟨0, 2, 200, 100, 1, 3, 1000, 0⟩ := by decide +kernel

/-- 8.7 step 2: the entry becomes an orphan and the tag DRAINING with count 1. -/
theorem test_remove_flow :
    let s := withFlow { flow 21 with pendingCount := 1 }
    let t := after (.removeFlow 21)
      { s with tracker := ⟨[pendingAt 21 120 1000 33825856], 0⟩ }
    t.tagState 21 = some (.draining 1) ∧ t.tracker.list.map (·.orphan) = [true] ∧ t.flow 21 = none := by
  decide +kernel

/-- R165: the step on the removed flow is abandoned, and the next one begins at record 1. -/
theorem test_remove_flow_under_the_sweep :
    let t := after (.removeFlow 130) (swept resting 12900)
    t.sweep.cursor = 1 ∧ t.sweep.step = some ⟨none⟩ ∧ t.sweep.abandoned = 1 := by decide +kernel

theorem test_revive_flow :
    let t := after (.reviveFlow 130) (withFlow { flow 130 with state := .dormant, credit := 0 })
    (t.flow 130).map (fun f => (f.state, f.credit, f.lastActivity)) = some (.active, 6000, 515) := by
  decide +kernel

theorem test_read_flow_draining :
    (after (.readFlow 21)
      { base with store := { FlowStore.reset with tagMap := [(21, .draining 3)] } }).port.slot =
      .answered ⟨0x0A, .done, [2, 0, 3]⟩ := by decide +kernel

theorem test_read_channel_4 :
    (after (.readChannel 4) base).port.slot = .answered ⟨0x0B, .badField, [0, 3]⟩ := by
  decide +kernel

/-- R123: this station's own entry reads PRESENT with its own life state. -/
theorem test_read_peers :
    let b := State.peersBody { base with link := { Link.reset with roster := rosterWith5 } }
    b.take 1 = [3] ∧ (b.drop 19).take 6 = [1, 2, 0, 0, 0, 0] ∧
      (b.drop 31).take 6 = [1, 2, 0x02, 0x03, 0xBF, 0x41] := by decide +kernel

/-- 11.5: READ STATUS releases the line. -/
theorem test_read_status :
    (after .readStatus { base with port := { Port.reset with latched := 1 } }).lineLow = false := by
  decide +kernel

theorem test_read_faults_empty :
    (after (.readFaults 0) base).port.slot =
      .answered ⟨0x0E, .done, [0, 0, 0, 0, 0, 0, 0, 0, 0, 0, 0, 0, 0, 0]⟩ := by decide +kernel

theorem test_clear_faults_in_start :
    (after .clearFaults State.reset).port.slot = .answered ⟨0x0F, .notServing, []⟩ := by
  decide +kernel

/-- 11.5: TAKE ATTENTION returns (130, STALE), 0 left. -/
theorem test_take_attention :
    let t := after .takeAttention { base with port := { Port.reset with attention := [⟨130, .stale⟩] } }
    t.port.attention = [] ∧ t.port.slot = .answered ⟨0x10, .done, [1, 0, 0, 130, 2]⟩ := by
  decide +kernel

theorem test_take_arrivals :
    (after .takeArrivals
      { base with port := { Port.reset with arrivals := [⟨1, 0x010203040506, 20, 256⟩] } }).port.slot =
      .answered ⟨0x11, .done, [1, 0, 0x54, 1, 2, 3, 4, 5, 6, 0, 0, 1, 0]⟩ := by decide +kernel

theorem test_set_event_mask :
    let t := after (.setEventMask 0xFF) base
    t.port.mask = 0x7F ∧ t.port.slot = .answered ⟨0x12, .done, [0x7F]⟩ := by decide +kernel

theorem test_sweep_restart :
    let t := after .sweepRestart (swept resting 12900)
    t.sweep.cursor = 0 ∧ t.sweep.step = some ⟨some 130⟩ ∧ t.sweep.abandoned = 1 := by decide +kernel

/-! ### A witness for every statement with hypotheses, clause by clause

Each theorem gives states and operands that meet the hypotheses of the statement its name ends in. -/

/-- `base` with no channel counting: the beat is its only deadline. -/
def still : State := { base with chans := Quad.all Channel.reset }

def startsNow : State :=
  { oneChannel with time := { oneChannel.time with nodeTime := 33816576, nextBeat := 33882112 } }

theorem witness_EmptyQueueLetsTheClockRun :
    (State.reset.pending = [] ∧ State.reset.time.timed = false) ∧
    (oneChannel.pending = [] ∧ oneChannel.time.timed = true ∧
      ∀ d ∈ oneChannel.deadlines, oneChannel.tickOf d ≠ oneChannel.time.nodeTime) ∧
    (startsNow.pending = [] ∧
      (startsNow.deadlines.filter fun e => startsNow.tickOf e == startsNow.time.nodeTime) =
        [.start ⟨0, 1000⟩] ∧
      (Deadline.start ⟨0, 1000⟩).command = some (.periodStart 0 1000)) := by decide +kernel

theorem witness_WellFormedCommandsRun :
    (Instr.framerTakesMap).wellFormed = true ∧ (Instr.burstRecordDiscard 4 false).wellFormed = false ∧
      (Instr.badDirectionByte 2).wellFormed = false ∧
      (Instr.badCommandFrame ⟨0x0D, 2, [7], 0⟩).wellFormed = false ∧
      exec .buildEnd base = .next base :=
  ⟨by decide, by decide, by decide, by decide +kernel, rfl⟩

/-! The laws: a state with something in every table, queue and list, and a command waiting. -/

def rich : State :=
  { base with
    store :=
      ⟨[(0, { modem with flowCount := 1, state := .degraded, presence := 100 })],
        [(0, { flow 11 with outstanding := 500 })], [(11, .bound 0)]⟩
    planner := { Planner.reset with
      requests := [⟨0, 1002⟩]
      building := some ⟨⟨⟨0, 1001⟩, [entry 11 46 74 3000 .noTake false], false⟩, 20, .walk 120 [11] [], false⟩
      localHolds := [⟨4400, 33823576, 33825576, ⟨2, 7, 0⟩⟩]
      ready := ⟨[11], [], [], []⟩ }
    mapPort := ⟨[⟨⟨0, 1000⟩, [entry 11 0 10 100 .noTake false, entry 11 10 502 100 .noTake false],
      false⟩], []⟩
    link := { Link.reset with
      queue := [⟨.take 11 5, none⟩, ⟨.presence true, none⟩]
      roster := rosterWith5
      holds := [⟨4400, 33823576, 33825576, 5⟩, ⟨4400, 33825576, 33825600, 5⟩] }
    tracker := ⟨[pendingAt 11 46 3000 33824256], 0⟩
    health := { Health.reset with
      ring := [⟨7, .degrade, 4800, 11, 0, false, 0, 0, 0, [], 0⟩,
        ⟨8, .restore, 4800, 11, 0, false, 0, 0, 0, [], 0⟩]
      seq := 9 }
    port := { Port.reset with
      attention := [⟨11, .stale⟩, ⟨12, .stale⟩], arrivals := [⟨1, 5, 20, 256⟩] }
    pending := [.clearFaults] }

theorem rich_steps : ∃ t, step rich = .next t := ⟨_, rfl⟩

theorem witness_StepKeepsQueueCapacities : AttentionLaw rich ∧ CapacityLaw rich := by
  simp only [AttentionLaw, CapacityLaw]
  decide +kernel

theorem witness_StepKeepsRingLaw : RingLaw rich := by
  refine ⟨by decide, fun i r h => ?_⟩
  match i, h with
  | 0, h => cases h; rfl
  | 1, h => cases h; rfl
  | i + 2, h => simp [rich] at h

theorem witness_StepKeepsHoldLaw : HoldLaw rich := by
  simp only [HoldLaw]
  decide +kernel

theorem witness_StepKeepsTransmitQueueLaw : QueueLaw rich := by
  simp only [QueueLaw]
  decide +kernel

theorem witness_StepKeepsFlowBytesLaw : BytesLaw rich := by
  simp only [BytesLaw, flowBytesOk]
  decide +kernel

theorem rich_tag (tag : Tag) : rich.tagState tag = if tag = 11 then some (.bound 0) else none := by
  have h : (11 = tag.toNat) = (tag = 11) := by
    simp only [BitVec.toNat_eq, eq_iff_iff]
    exact ⟨fun h => h.symm, fun h => h.symm⟩
  simp [State.tagState, rich, tabGet, h]

theorem rich_record (i : Nat) :
    tabGet rich.store.flows i = if 0 = i then some { flow 11 with outstanding := 500 } else none := rfl

theorem witness_StepKeepsStoreLaw : StoreLaw rich := by
  refine ⟨⟨by decide +kernel, by decide +kernel, by decide +kernel⟩, fun tag i h => ?_, fun i f h => ?_⟩
  · rw [rich_tag] at h
    split at h
    · cases h; rename_i h; exact ⟨_, rfl, h.symm⟩
    · cases h
  · rw [rich_record] at h
    split at h
    · cases h; rename_i h; subst h; rfl
    · cases h

theorem witness_StepKeepsReadyLaw : ReadyLaw rich := by
  refine ⟨witness_StepKeepsStoreLaw, by decide +kernel, fun c tag => ?_, fun b h => ?_,
    by decide +kernel⟩
  · have hf : rich.flow tag = if tag = 11 then some { flow 11 with outstanding := 500 } else none := by
      simp only [State.flow, State.flowIx, rich_tag]
      by_cases ht : tag = 11 <;> simp only [ht] <;> rfl
    rw [hf]
    constructor
    · intro h
      match c with
      | 0 =>
        have h : tag = 11 := List.mem_singleton.1 h
        exact ⟨_, if_pos h, rfl, rfl⟩
      | 1 | 2 | 3 => exact absurd h List.not_mem_nil
    · rintro ⟨f, h, hc, -⟩
      split at h
      · rename_i ht
        cases h; subst ht; subst hc
        exact List.mem_singleton.2 rfl
      · cases h
  · cases h
    exact ⟨by decide, fun tag h => ⟨0, h⟩⟩

theorem rich_apart : ∀ m ∈ rich.maps, laidOut (rich.part m.name.chan).periodSlots.toNat m.entries := by
  intro m h
  simp only [rich, State.maps, Option.map, Option.toList, List.append_nil, List.singleton_append,
    List.mem_cons, List.not_mem_nil, or_false, Planner.reset] at h
  rcases h with rfl | rfl
  · exact ⟨List.pairwise_singleton _ _, by decide +kernel, by decide⟩
  · refine ⟨?_, by decide +kernel, by decide⟩
    simp [entry, Entry.apart]
    omega

theorem witness_StepKeepsMapsLaw : MapsLaw rich := ⟨fun h => absurd h (by decide), rich_apart⟩

theorem witness_StepKeepsHealthLaw : HealthLaw rich := by
  refine ⟨by decide, fun r h => ?_, by decide +kernel⟩
  have : r = record := by
    have h : some record = some r := h
    cases h; rfl
  subst this
  decide +kernel

/-- A station in START with a record held and an own transmission that a RESTART has outlived. -/
def restarted : State :=
  { held with
    time := { TimeUnit.reset with timed := true, nodeTime := 5, nextBeat := 65536 }
    link := { Link.reset with inTx := some ⟨⟨.bid 1 1, none⟩, false, true⟩, medium := .sending }
    pending := [.readStatus] }

theorem restarted_steps : ∃ t, step restarted = .next t := ⟨_, rfl⟩

theorem witness_StepKeepsStationLaws :
    StartLaw restarted ∧ UntimedLaw { held with pending := [.buildEnd] } ∧ RosterLaw rich := by
  refine ⟨fun _ => ?_, ?_, ?_⟩
  · constructor <;>
      simp [restarted, held, State.reset, Link.reset, Sweep.reset, Tracker.reset, Port.reset,
        Planner.reset, MapPort.reset]
    intro c
    match c with
    | 0 | 1 | 2 | 3 => exact ⟨rfl, rfl⟩
  · simp only [UntimedLaw]
    decide +kernel
  · simp only [RosterLaw, rosterEntryOk]
    decide +kernel

theorem witness_RecordsAndFramesRoundTrip :
    (CommandFrame.body ⟨0x12, 1, [0x7F], 0⟩).length = (1 : BitVec 16).toNat := by decide

/-- Runs of 1 and of 2,048 slots, and a want above the run. -/
theorem witness_FitSearchFindsTheLargestTurn :
    profileFieldsOk profileA = true ∧ fitFor profileA 64 1 = 0 ∧ 1 < slotsFor profileA 64 1 ∧
      fitFor profileA 64 2048 = 16383 ∧ 20 < slotsFor profileA 64 801 := by decide +kernel

theorem witness_FirstPeriodFollowsTheEntryTick :
    0 < partTicks uc0 ∧ partTicks uc0 ≤ 1048576 ∧ (1007616 - uc0.epoch + 40960#32) = 0 ∧
      2147483648 ≤ (983040 - uc0.epoch + 40960#32).toNat ∧
      (0 < (1007617 - uc0.epoch + 40960#32).toNat ∧
        (1007617 - uc0.epoch + 40960#32).toNat < 2147483648) := by decide +kernel

theorem witness_ResetsSetTheTimeUnit :
    base.port.slot = .ready ∧ base.time.timed = true ∧ base.time.nextBeat ≠ base.time.nodeTime := by
  decide +kernel

/-- Another station is sending. -/
def overheard : State := { base with link := { base.link with medium := .sending } }

theorem witness_ResetsClearTheStation :
    restarted.port.slot = .ready ∧ restarted.link.inTx = some ⟨⟨.bid 1 1, none⟩, false, true⟩ ∧
      overheard.port.slot = .ready ∧ overheard.link.inTx = none ∧
      overheard.link.medium = .sending := by
  decide +kernel

/-- R114: a notice of another station that spans a RESTART is not heard, though the station is in
LISTEN again when it ends. -/
theorem test_restart_during_a_transmission :
    (let s := { after .restart overheard with life := .listen }
     (after (.transmissionEnd (noticeBytes 5 (.presence true))) s).link.counters.heard = 0 ∧
       (after (.transmissionEnd (noticeBytes 5 (.presence true)))
         (after (.transmissionEnd []) s)).link.counters.heard = 1) := by decide +kernel

theorem witness_TimeWordRefusedFirstOrAgreeing :
    ((0 : BitVec 16) ≠ crc16 (be4 (65536 : Tick).toNat) ∧ (65537 : Tick).toNat % 65536 ≠ 0) ∧
    ((65536 : Tick).toNat % 65536 = 0 ∧ State.reset.time.timed = false ∧
      State.reset.accepted = none) ∧
    (startsNow.time.timed = true ∧ (33816576 : Tick) = startsNow.time.nodeTime ∧
      (33816576 : Tick).toNat % 65536 = 0) := by decide +kernel

/-- One channel whose period 100, of 262,144 ticks, starts at `start`; node time `now`. -/
def slipping (start now : Tick) (k : PeriodClock) : State :=
  { still with
    accepted := some { record with
      channels := record.channels.set 0 { uc0 with slotTicks := 512, epoch := start - 26214400 } }
    time := { base.time with nodeTime := now }
    chans := still.chans.set 0 { channel with clock := some k } }

/-- `still` with a pending entry that expires at the boundary 33,816,576. -/
def slippingExpiry : State :=
  { still with tracker := ⟨[{ pendingAt 33 439 2994 33751040 with ended := false }], 0⟩ }

/-- `still` with a transmit queue and a presence timer. -/
def timing (queue : List Queued) (t : Tick) : State :=
  { still with link := { Link.reset with queue := queue, presence := some t } }

/-- Back to 33,751,040, and on to the boundary 33,816,576: past the beat alone and short of the presence
timer; onto a deliver deadline, a build-start, a period-start, the end of LISTEN, of a shared and of a local hold,
the presence timer (with no, 63 and 64 notices queued, and one PRESENCE), an absence tick, an expiry. -/
theorem witness_TimeWordSlips :
    (let s := { still with link := { Link.reset with presence := some 33816577 } };
      (33751040 : Tick).toNat % 65536 = 0 ∧ (33816576 : Tick).toNat % 65536 = 0 ∧
        s.time.timed = true ∧ (∀ d ∈ s.deadlines, s.tickOf d ≠ s.time.nodeTime) ∧
        before 33751040 s.time.nodeTime = true ∧ before s.time.nodeTime 33816576 = true ∧
        s.slipPassesOnly 33816576 []) ∧
    (let s := slipping 33828864 33775616 ⟨100, 100, 100, []⟩;
      (∀ d ∈ s.deadlines, s.tickOf d ≠ s.time.nodeTime) ∧
        s.slipPassesOnly 33816576 (clockDeadlines 0 ⟨100, 100, 100, []⟩) ∧
        s.deadlineTick ⟨0, 100⟩ = 33816576 ∧ s.slipPasses 33816576 (s.deadlineTick ⟨0, 100⟩) ∧
        ¬ s.slipPasses 33816576 (s.buildTick ⟨0, 101⟩) ∧
        ¬ s.slipPasses 33816576 (s.deadlineTick ⟨0, 101⟩)) ∧
    (let s := slipping 33857536 33775616 ⟨100, 100, 100, []⟩;
      (∀ d ∈ s.deadlines, s.tickOf d ≠ s.time.nodeTime) ∧
        s.slipPassesOnly 33816576 (clockDeadlines 0 ⟨100, 100, 100, []⟩) ∧
        s.buildTick ⟨0, 100⟩ = 33816576 ∧ s.slipPasses 33816576 (s.buildTick ⟨0, 100⟩) ∧
        ¬ s.slipPasses 33816576 (s.deadlineTick ⟨0, 100⟩) ∧ s.planner.requests.length < 4) ∧
    (let x : TurnMap := ⟨⟨0, 100⟩, [⟨.join, 0, 16, 0, 0, 0, .noTake, false, false⟩], false⟩;
      let s := { slipping 33816576 33800000 ⟨101, 100, 100, []⟩ with mapPort := ⟨[x], []⟩ };
      (∀ d ∈ s.deadlines, s.tickOf d ≠ s.time.nodeTime) ∧
        s.slipPassesOnly 33816576 (clockDeadlines 0 ⟨101, 100, 100, []⟩) ∧
        s.startTick ⟨0, 100⟩ = 33816576 ∧ s.slipPasses 33816576 (s.deadlineTick ⟨0, 100⟩) ∧
        s.mapPort.queue.find? (·.name == ⟨0, 100⟩) = some x ∧
        ¬ s.slipPasses 33816576 (s.buildTick ⟨0, 101⟩)) ∧
    (let s := { still with life := .listen, listenEnd := some 33816576 };
      s.slipPasses 33816576 33816576 ∧ s.slipPassesOnly 33816576 [.listenEnd 33816576]) ∧
    (let s := { still with link := { Link.reset with
        holds := [⟨4400, 0, 33816576, 5⟩, ⟨4800, 0, 33816576, 5⟩] } };
      Deadline.sharedEnd 33816576 ∈ s.deadlines ∧
        s.slipPassesOnly 33816576 [.sharedEnd 33816576]) ∧
    (let s := { still with planner := { Planner.reset with
        localHolds := [⟨4400, 0, 33816576, ⟨0, 7, 0⟩⟩] } };
      Deadline.localEnd 33816576 ∈ s.deadlines ∧ s.slipPassesOnly 33816576 [.localEnd 33816576]) ∧
    (∀ queue ∈ [[], List.replicate 63 ⟨.bid 1 1, none⟩, List.replicate 64 ⟨.bid 1 1, none⟩,
        [⟨.presence true, none⟩]],
      (timing queue 33816576).slipPasses 33816576 33816576 ∧
        (timing queue 33816576).slipPassesOnly 33816576 [.presence 33816576]) ∧
    (let s := timing [] 33775617;
      s.slipPasses 33816576 33775617 ∧ s.slipPassesOnly 33816576 [.presence 33775617] ∧
        (∀ d ∈ s.deadlines, s.tickOf d ≠ s.time.nodeTime)) ∧
    (let s := { still with link := { Link.reset with
        roster := Link.reset.roster.set 5 ⟨true, .serving, some 33816576⟩ } };
      Deadline.absence 5 33816576 ∈ s.deadlines ∧
        s.slipPassesOnly 33816576 [.absence 5 33816576]) ∧
    (slippingExpiry.tracker.list.filter (·.expiry = 33816576) = slippingExpiry.tracker.list ∧
      slippingExpiry.slipPassesOnly 33816576 [.expiry 33816576]) := by
  refine ⟨?_, ?_, ?_, ?_, ?_, ?_, ?_, ?_, ?_, ?_, ?_⟩ <;> decide +kernel

def watching (line : LineState) (watch : Nat) : State :=
  { still with time := { base.time with line := line, watch := watch } }

theorem witness_BeatEventCounts :
    ((watching .arriving 3).due (.beat 33816576) ∧ (watching .arriving 3).time.watch < 4) ∧
    ((watching .lost 5).due (.beat 33816576) ∧ (watching .lost 5).time.line = .lost) ∧
    ((watching .arriving 4).due (.beat 33816576) ∧ (watching .arriving 4).time.line = .arriving ∧
      (watching .arriving 4).time.watch = 4) := by
  decide +kernel

/-- One channel at the build-start of period 1,000, with requests waiting. -/
def asking (n : Nat) : State :=
  { still with
    chans := still.chans.set 0 channel
    planner := { Planner.reset with requests := List.replicate n ⟨1, 7⟩ } }

theorem witness_BuildStartQueuesOrMisses :
    ((asking 3).chans.get 0).clock = some ⟨1000, 1000, 1000, []⟩ ∧
      (asking 3).due (.buildStart ⟨0, 1000⟩) ∧ (asking 3).planner.requests.length < 4 ∧
      (asking 4).due (.buildStart ⟨0, 1000⟩) ∧ 4 ≤ (asking 4).planner.requests.length := by
  decide +kernel

/-- At the deliver deadline of period 1,000: nothing, its request, its build, or its SEALING map. -/
def delivering (p : Planner) : State :=
  { oneChannel with
    chans := oneChannel.chans.set 0 { channel with clock := some ⟨1001, 1000, 1000, []⟩ }
    planner := p }

def openMap : TurnMap := ⟨⟨0, 1000⟩, [entry 22 145 98 4000 .queued true], false⟩

/-- Flow 22 of the worked build with its turn at slot 145 pending, at the deliver deadline of period
1,000. -/
def withdrawing (e : Entry) (f : Flow) : State :=
  { delivering { Planner.reset with sealing := [⟨⟨0, 1000⟩, [e], false⟩] } with
    store := (withFlow f).store
    tracker := ⟨[pendingAt 22 145 4000 33832128], 0⟩ }

def turn22 (kind : EntryKind) (fate : Fate) (hold : Bool) : Entry :=
  { entry 22 145 98 4000 fate hold with kind := kind }

/-- Tag 22 DRAINING with `n` orphans, its flow gone. -/
def orphaned22 (n : Nat) : FlowStore :=
  { FlowStore.reset with tagMap := [(22, .draining n)] }

def talker22 : Flow := { flow 22 with pendingCount := 1, cadence := some (cadenceOf 100 200) }

def windowsMap : TurnMap := ⟨⟨0, 1000⟩, [⟨.join, 0, 16, 0, 0, 0, .noTake, false, false⟩], false⟩

theorem witness_DeliverDeadlineByBuildState :
    (((delivering Planner.reset).chans.get 0).clock = some ⟨1001, 1000, 1000, []⟩ ∧
      (delivering Planner.reset).due (.deliver ⟨0, 1000⟩) ∧
      ⟨0, 1000⟩ ∉ (delivering Planner.reset).planner.requests) ∧
    (let s := delivering { Planner.reset with requests := [⟨0, 1000⟩] };
      s.due (.deliver ⟨0, 1000⟩) ∧ ⟨0, 1000⟩ ∈ s.planner.requests) ∧
    (let s := delivering { Planner.reset with building := some ⟨openMap, 20, .done, false⟩ };
      s.due (.deliver ⟨0, 1000⟩) ∧ s.planner.building = some ⟨openMap, 20, .done, false⟩ ∧
        openMap.name = ⟨0, 1000⟩ ∧ s.mapPort.queue.length < 4) ∧
    (let s := delivering { Planner.reset with sealing := [openMap] };
      s.due (.deliver ⟨0, 1000⟩) ∧ s.sealingMap ⟨0, 1000⟩ = some openMap ∧
        s.planner.building = none ∧ s.mapPort.queue.length < 4) ∧
    (let s := { delivering { Planner.reset with sealing := [windowsMap] } with
        mapPort := ⟨List.replicate 4 ⟨⟨1, 7⟩, [], false⟩, []⟩ };
      s.due (.deliver ⟨0, 1000⟩) ∧ s.sealingMap ⟨0, 1000⟩ = some windowsMap ∧
        4 ≤ s.mapPort.queue.length ∧ ∀ e ∈ windowsMap.entries, e.kind = .join ∧ e.hold = false) ∧
    (∀ fate ∈ [Fate.queued, .inTx], ∀ x ∈ [(EntryKind.data, { flow 22 with pendingCount := 1 }),
        (.cadence, talker22)],
      let e := turn22 x.1 fate true
      let s := withdrawing e x.2
      s.due (.deliver ⟨0, 1000⟩) ∧ [e].filter (·.unconfirmed) = [e] ∧ s.flow 22 = some x.2 ∧
        x.2.deferred = none ∧
        s.pendingEntry ⟨0, 1000, 145⟩ = some (pendingAt 22 145 4000 33832128)) ∧
    (∀ kind ∈ [EntryKind.data, .cadence], ∀ n ∈ [1, 2],
      let e := { turn22 kind .inTx true with orphan := true }
      let s := { withdrawing e (flow 11) with store := orphaned22 n }
      s.due (.deliver ⟨0, 1000⟩) ∧ [e].filter (·.unconfirmed) = [e] ∧
        s.tagState 22 = some (.draining n) ∧ tabWf s.store.tagMap = true) := by
  decide +kernel

/-- The map of one turn of flow 22 still in the map output queue at its period-start. -/
def lateTurn (e : Entry) (f : Flow) (queue : List Queued) : State :=
  { startsNow with
    store := (withFlow f).store
    tracker := ⟨[pendingAt 22 145 4000 33832128], 0⟩
    mapPort := ⟨[⟨⟨0, 1000⟩, [e], false⟩], []⟩
    link := { Link.reset with queue := queue, medium := .sending } }

/-- A data turn of each fate, of an ACTIVE and of a DORMANT flow, with one place in the transmit queue
and with none; a cadence turn. -/
theorem witness_PeriodStartEndsOrDiscards :
    ((startsNow.chans.get 0).clock = some ⟨1001, 1001, 1000, []⟩ ∧
      startsNow.due (.start ⟨0, 1000⟩) ∧ ∀ x ∈ startsNow.mapPort.queue, x.name ≠ ⟨0, 1000⟩) ∧
    (let s := { startsNow with mapPort := ⟨[windowsMap], []⟩ };
      s.due (.start ⟨0, 1000⟩) ∧ s.mapPort.queue.find? (·.name == ⟨0, 1000⟩) = some windowsMap ∧
        ∀ e ∈ windowsMap.entries, e.kind = .join ∨ e.kind = .bid) ∧
    (∀ fate ∈ [Fate.noTake, .queued, .inTx, .standing], ∀ state ∈ [FlowState.active, .dormant],
      ∀ n ∈ [63, 64],
      let f := { flow 22 with state := state, pendingCount := 1 }
      let s := lateTurn (turn22 .data fate false) f (List.replicate n ⟨.bid 1 1, none⟩)
      s.due (.start ⟨0, 1000⟩) ∧ s.flow 22 = some f ∧ f.cadence = none ∧ f.deferred = none ∧
        f.state ≠ .sleep ∧
        s.pendingEntry ⟨0, 1000, 145⟩ = some (pendingAt 22 145 4000 33832128)) ∧
    (let s := lateTurn (turn22 .cadence .noTake false) talker22 [];
      s.due (.start ⟨0, 1000⟩) ∧ s.flow 22 = some talker22 ∧
        talker22.cadence = some (cadenceOf 100 200) ∧
        s.pendingEntry ⟨0, 1000, 145⟩ = some (pendingAt 22 145 4000 33832128)) ∧
    (∀ kind ∈ [EntryKind.data, .cadence], ∀ n ∈ [1, 2],
      let e := { turn22 kind .standing true with orphan := true }
      let s := { lateTurn e (flow 11) [] with store := orphaned22 n }
      s.due (.start ⟨0, 1000⟩) ∧ s.tagState 22 = some (.draining n) ∧
        tabWf s.store.tagMap = true) := by
  decide +kernel

theorem witness_ListenHoldAndAbsenceEnds :
    (let s := { still with listenEnd := some 33775616 };
      s.due (.listenEnd 33775616)) ∧
    (let s := { still with planner := { Planner.reset with
        localHolds := [⟨4400, 0, 33775617, ⟨0, 7, 0⟩⟩] } };
      s.due (.localEnd 33775617)) ∧
    (let s := { still with link := { Link.reset with holds := [⟨4400, 0, 33775617, 5⟩] } };
      s.due (.sharedEnd 33775617)) ∧
    (let s := { still with link := { Link.reset with roster := rosterWith5 } };
      s.due (.absence 5 33800001)) := by
  decide +kernel

/-- The presence timer with a PRESENCE waiting, with a full queue, and with one place left. -/
def presenceDue (queue : List Queued) : State :=
  { still with link := { Link.reset with presence := some 33775617, queue := queue } }

theorem witness_PresenceTimerQueuesOne :
    (let s := presenceDue [⟨.presence true, none⟩];
      s.due (.presence 33775617) ∧ s.link.queue.any isPresence = true) ∧
    (let s := presenceDue (List.replicate 64 ⟨.bid 1 1, none⟩);
      s.due (.presence 33775617) ∧ s.link.queue.any isPresence = false ∧
        64 ≤ s.link.queue.length) ∧
    (let s := presenceDue (List.replicate 63 ⟨.bid 1 1, none⟩);
      s.due (.presence 33775617) ∧ s.link.queue.any isPresence = false ∧
        s.link.queue.length < 64) := by
  decide +kernel

/-- One pending entry for `f`, at its expiry. -/
def expiring (f : Flow) (e : PendingEntry) : State :=
  { withFlow f with
    time := { base.time with nodeTime := 33914880, nextBeat := 33947648 }
    chans := Quad.all Channel.reset
    tracker := ⟨[e], 0⟩ }

def atExpiry (orphan : Bool) : PendingEntry :=
  { pendingAt 33 439 2994 33849344 with orphan := orphan }

theorem witness_PendingExpiryIsLost :
    (let s := expiring { flow 33 with pendingCount := 1 } (atExpiry false);
      s.due (.expiry 33914880) ∧
        s.tracker.list.filter (·.expiry = 33914880) = [atExpiry false] ∧
        s.flow 33 = some { flow 33 with pendingCount := 1 } ∧
        s.modemAt 0 = some { modem with flowCount := 1 } ∧ modem.key = (atExpiry false).modemKey) ∧
    (let f := { flow 33 with pendingCount := 1, deferred := some (500, 0) };
      (expiring f (atExpiry false)).due (.expiry 33914880) ∧
        (expiring f (atExpiry false)).flow 33 = some f ∧ f.deferred = some (500, 0)) ∧
    (let s := { expiring (flow 12) (atExpiry true) with
        store := { FlowStore.reset with tagMap := [(33, .draining 1)] } };
      s.due (.expiry 33914880) ∧ (atExpiry true).orphan = true ∧
        s.tagState 33 = some (.draining 1) ∧ tabWf s.store.tagMap = true) := by
  decide +kernel

theorem witness_BurstRecordsRefused :
    State.reset.life = .start ∧ ((5 : Byte) ≠ 1 ∧ (5 : Byte) ≠ 2 ∧ (5 : Byte) ≠ 3 ∧ (5 : Byte) ≠ 4) ∧
      base.life ≠ .start ∧ base.enabled 2 = false ∧ base.enabled 1 = true ∧ base.flow 9 = none := by
  decide +kernel

def spanning (queue : List Queued) : State :=
  { withFlow { flow 512 with spanMask := 0x20 } with
    link := { Link.reset with queue := queue, medium := .sending, roster := rosterWith5 } }

/-- R55's example: the sum is held at 1,048,575, 1,425 bytes are lost, and the flow joins its list. -/
theorem test_idle_bid_saturates :
    let t := after (.bidRecord ⟨0, 1000, 512, 10000⟩)
      (withFlow { flow 512 with outstanding := 1040000, tentative := 1040000 })
    (t.flow 512).map (·.outstanding) = some 1048575 ∧ (t.chans.get 0).bids.bytesLost = 1425 ∧
      t.planner.ready.q0 = [512] := by decide +kernel

theorem witness_IdleBidApplied :
    (let s := withFlow (flow 512);
      s.life ≠ .start ∧ s.enabled 0 = true ∧ s.flowIx 512 = some 0 ∧
        tabGet s.store.flows 0 = some (flow 512) ∧ (flow 512).pendingCount = 0 ∧
        (flow 512).outstanding ≤ (flow 512).tentative ∧ s.isReady (flow 512) = false ∧
        s.spanningActive (flow 512) = false) ∧
    (∀ tentative ∈ [1040000, 1048575],
      let f := { flow 512 with outstanding := 1040000, tentative := tentative }
      let s := withFlow f
      s.flow 512 = some f ∧ f.outstanding ≤ f.tentative ∧ s.isReady f = false) ∧
    (let s := spanning (List.replicate 63 ⟨.bid 1 1, none⟩);
      s.spanningActive { flow 512 with spanMask := 0x20 } = true ∧ s.link.queue.length < 64) ∧
    (let s := spanning (List.replicate 64 ⟨.bid 1 1, none⟩);
      s.spanningActive { flow 512 with spanMask := 0x20 } = true ∧ 64 ≤ s.link.queue.length) := by
  decide +kernel

theorem witness_BusyBidHeldOrDiscarded :
    (let f := { flow 512 with pendingCount := 1, discard := true };
      (withFlow f).flowIx 512 = some 0 ∧ tabGet (withFlow f).store.flows 0 = some f ∧
        f.discard = true ∧ 0 < f.pendingCount) ∧
    (let f := { flow 512 with outstanding := 1, discard := false };
      tabGet (withFlow f).store.flows 0 = some f ∧ f.tentative < f.outstanding ∧
        f.discard = false ∧ f.eligible = (withFlow f).isReady f) := by decide +kernel

def talker (state : FlowState) : Flow :=
  { flow 77 with state := state, cadence := some (cadenceOf 100 200) }

theorem witness_ActiveCadenceIgnoresBids :
    let s := withFlow (talker .active)
    s.life ≠ .start ∧ s.enabled 1 = true ∧ s.flow 77 = some (talker .active) ∧
      (talker .active).cadence.isSome = true := by decide +kernel

def resting130 (attention : List AttentionEntry) : State :=
  { withFlow { flow 130 with state := .dormant } with
    port := { Port.reset with attention := attention } }

theorem witness_BidWakesOrIsOffered :
    (let s := withFlow (talker .sleep);
      s.flowIx 77 = some 0 ∧ tabGet s.store.flows 0 = some (talker .sleep) ∧
        s.isReady (talker .sleep) = false ∧
        (s.chans.get 0).clock = some ⟨1000, 1000, 1000, []⟩) ∧
    (let s := resting130 [⟨130, .stale⟩];
      s.flowIx 130 = some 0 ∧ s.port.attention.any (·.tag == 130) = true) ∧
    (let s := resting130 (List.replicate 64 ⟨5, .stale⟩);
      s.port.attention.any (·.tag == 130) = false ∧ 64 ≤ s.port.attention.length) ∧
    (let s := resting130 (List.replicate 63 ⟨5, .stale⟩);
      s.port.attention.any (·.tag == 130) = false ∧ s.port.attention.length < 64) := by
  decide +kernel

def report (slot : BitVec 11) : OutcomeReport := ⟨0, 1000, slot, 0, 3000, 0, 0, 30, true, 1200⟩

/-- One pending entry for `f` at slot 46, its turn ended or not. -/
def reporting (f : Flow) (ended : Bool) : State :=
  { withFlow f with
    tracker := ⟨[{ pendingAt f.tag 46 3000 33824256 with ended := ended }], 0⟩ }

theorem witness_ReportMalformedStrayOrEarly :
    (base.life ≠ .start ∧ ({ report 46 with result := 3 }).result = 3 ∧
      (base.part 0).periodSlots.toNat ≤ (report 512).slot.toNat ∧ base.enabled 2 = false) ∧
    (let s := reporting (flow 11) false;
      (report 511).slot.toNat < (s.part 0).periodSlots.toNat ∧
        (∀ e ∈ s.tracker.list,
          ¬ (e.chan = (report 511).chan ∧ e.period = (report 511).period ∧
            e.slot = (report 511).slot.toNat)) ∧
        s.tracker.list.find? (·.hasKey (report 46)) =
          some { pendingAt 11 46 3000 33824256 with ended := false }) := by decide +kernel

/-- For an ACTIVE and a DORMANT bid flow, a deferred bid, a cadence flow one empty turn before its idle
limit of 3, and an orphan, whose modem record is free. -/
theorem witness_ReportConsumesItsEntry :
    (∀ f ∈ [{ flow 11 with pendingCount := 1 }, { flow 11 with pendingCount := 1, state := .dormant },
        { flow 11 with pendingCount := 1, deferred := some (500, 0) },
        { flow 11 with pendingCount := 2, deferred := some (500, 0) },
        { flow 11 with
          pendingCount := 1
          cadence := some { cadenceOf 100 200 with idleLimit := 3, empties := 2 } }],
      let s := reporting f true
      s.life ≠ .start ∧ s.enabled 0 = true ∧ (report 46).slot.toNat < (s.part 0).periodSlots.toNat ∧
        s.tracker.list.find? (·.hasKey (report 46)) = some (pendingAt 11 46 3000 33824256) ∧
        (pendingAt 11 46 3000 33824256).ended = true ∧ s.flow 11 = some f ∧
        (report 46).result = 0 ∧ ({ report 46 with result := 1 }).result = 1) ∧
    (let e := { pendingAt 33 46 3000 33824256 with orphan := true };
      let s := { base with
        store := { FlowStore.reset with tagMap := [(33, .draining 1)] }, tracker := ⟨[e], 0⟩ };
      s.tracker.list.find? (·.hasKey (report 46)) = some e ∧ e.ended = true ∧
        s.tagState 33 = some (.draining 1) ∧ tabWf s.store.tagMap = true ∧
        s.modemAt e.modemIx = none) := by decide +kernel

/-- R48: the modem record at an orphan's index carries another key, and takes no outcome. -/
theorem test_orphan_of_another_key :
    let m := { modem with key := 9000 }
    let t := after (.outcomeReport (report 46)) { base with
      store := ⟨[(0, m)], [], [(33, .draining 1)]⟩
      tracker := ⟨[{ pendingAt 33 46 3000 33824256 with orphan := true }], 0⟩ }
    t.modemAt 0 = some m ∧ t.health.scored = 0 ∧ t.tagState 33 = none := by decide +kernel

/-- R134: counting to a beat passes the end tick of a turn, and a backward slip does not take that
back. -/
theorem test_ended_turn_stays_ended :
    let s (endTick : Tick) (ended : Bool) := { still with
      tracker := ⟨[{ pendingAt 11 46 3000 endTick with ended := ended }], 0⟩ }
    (after (.beatEvent 33816576) (s 33816577 false)).tracker = (s 33816577 false).tracker ∧
      (after (.beatEvent 33816576) (s 33816576 false)).tracker = (s 33816576 true).tracker ∧
      (after (firstWordAt 33751040) (s 33775616 true)).tracker = (s 33775616 true).tracker := by
  decide +kernel

/-- An outcome that leaves every score above its threshold, one that brings integrity to 118, and one that
brings a DEGRADED modem's presence to its recovery level. -/
theorem witness_OutcomeScoresTheModem :
    (let m := { modem with integrity := 134, flowCount := 1 };
      let s := { withFlow (flow 601) with store := { FlowStore.reset with modems := [(0, m)] } };
      s.modemAt 0 = some m ∧ s.modemIx m.key = some 0 ∧ m.state = .active ∧
        (TurnResult.errored ≠ .lost) ∧ m.integrity - 16 ≤ s.inForce.t2.toNat ∧
        (s.inForce.t1.toNat < 200 ∧ s.inForce.t2.toNat < 134 ∧ s.inForce.t3.toNat < 196)) ∧
    (let m := { modem with state := .degraded, presence := 129 };
      let s := { base with store := { FlowStore.reset with modems := [(0, m)] } };
      s.modemAt 0 = some m ∧ s.modemIx m.key = some 0 ∧
        min 200 (s.inForce.t1.toNat + s.inForce.recover.toNat) = m.presence + 1 ∧
        min 200 (s.inForce.t2.toNat + s.inForce.recover.toNat) ≤ 200 ∧
        min 200 (s.inForce.t3.toNat + s.inForce.recover.toNat) ≤ 200) := by
  decide +kernel

theorem witness_TalliesAndArrivals :
    (base.life ≠ .start ∧ base.enabled 3 = false ∧ 256 < (257 : BitVec 9).toNat) ∧
    (base.enabled 0 = true ∧ (256 : BitVec 9).toNat ≤ 256 ∧ (base.chans.get 0).w = some 20) ∧
    (let s := { base with port := { Port.reset with
        arrivals := List.replicate 31 ⟨1, 5, 20, 256⟩ } };
      s.port.arrivals.length < 32) ∧
    (let s := { base with port := { Port.reset with
        arrivals := List.replicate 32 ⟨1, 5, 20, 256⟩ } };
      32 ≤ s.port.arrivals.length) := by decide +kernel

/-- The request of a period, the sweep RUNNING with or without a step in flight. -/
def building (period : Period) (step : Option SweepStep) : State :=
  { base with
    planner := { Planner.reset with requests := [⟨0, period⟩] }
    sweep := { Sweep.reset with state := .running, step := step } }

/-- Flow 77, due at period 998 with a jitter limit of 1 and an interval of 2. -/
def lateTalker : Flow :=
  { flow 77 with cadence := some { cadenceOf 100 200 with nextDue := 998 } }

/-- A map of period 1,000 whose `n` free slots lie at its end, at a window step. -/
def windowed (n : Nat) (phase : Phase) : Build :=
  ⟨⟨⟨0, 1000⟩, if n = 512 then [] else [entry 11 0 (512 - n) 3000 .noTake false], false⟩, 20, phase,
    false⟩

/-- Period 1,000 carries a join window, period 1,001 none (R74); a window of 16 slots and one of W = 20
with exactly that room, with one slot less, and with none. -/
theorem witness_PlannerBuildsTheHeadRequest :
    (∀ step ∈ [none, some ⟨none⟩], let s := building 1000 step;
      s.planner.building = none ∧ s.planner.requests = [⟨0, 1000⟩] ∧ s.dueFlows ⟨0, 1000⟩ = [] ∧
        (s.chans.get 0).w = some 20) ∧
    (let s := { withFlow lateTalker with
        planner := { Planner.reset with requests := [⟨0, 1000⟩] } };
      s.planner.building = none ∧ s.dueFlows ⟨0, 1000⟩ = [lateTalker] ∧
        s.flow 77 = some lateTalker ∧ 1 < ((1000 : Period) - 998).toNat ∧
        0 < (((1000 : Period) - 998).toNat - 1 + 2 - 1) / 2) ∧
    (base.planner.building = none ∧ base.planner.requests = []) ∧
    (let s := building 1000 none;
      s.store.flows = [] ∧ s.planner.ready = Quad.all [] ∧
        (s.part 0).joinSlots.toNat + 20 < (s.part 0).periodSlots.toNat ∧
        0 < (s.part 0).joinSlots.toNat ∧
        (1000 : Period).toNat % (s.part 0).joinEvery.toNat = 0 ∧
        (1001 : Period).toNat % (s.part 0).joinEvery.toNat ≠ 0) ∧
    (∀ phase ∈ [Phase.joinWindow, .bidWindow],
      (windowed 20 phase).map.entries.length < 240 ∧
        base.freeRuns (windowed 20 phase) = [⟨492, 20⟩] ∧
        base.freeRuns (windowed 16 phase) = [⟨496, 16⟩] ∧
        base.freeRuns (windowed 15 phase) = [⟨497, 15⟩] ∧ base.freeRuns (windowed 0 phase) = []) := by
  decide +kernel

/-- Flow 11 of the worked build alone, at the cursor of its first visit. -/
def visiting (f : Flow) (m : Modem) (b : Build) : State :=
  { withFlow f with
    store := ⟨[(0, { m with flowCount := 1 })], [(0, f)], [(f.tag.toNat, .bound 0)]⟩
    planner := { Planner.reset with ready := ⟨[11], [], [], []⟩, building := some b }
    link := { Link.reset with roster := rosterWith5, medium := .sending } }

def walking : Build := ⟨⟨⟨0, 1000⟩, [], false⟩, 20, .walk 36 [11] quadIndexes, false⟩

/-- A modem with one transmit chain. -/
def singleModem : Modem := newModem 4800 true 3 9

/-- The cadence flow 77 alone, or with a spanning flow 900, of a modem. -/
def talking (m : Modem) (others : List (Nat × Flow)) (entries : List Entry) : State :=
  { withFlow (talker .active) with
    store := ⟨[(0, { m with flowCount := 1 })], (0, talker .active) :: others,
      [(77, .bound 0), (900, .bound 1)]⟩
    planner := { Planner.reset with
      building := some ⟨⟨⟨0, 1000⟩, entries, false⟩, 20, .cadence [77], false⟩ }
    link := { Link.reset with roster := rosterWith5, medium := .sending } }

def spanning900 : List (Nat × Flow) := [(1, { flow 900 with spanMask := 0x20 })]

/-- Data turns of either kind of modem, with and without a span and a rate, and a local hold that covers
the turn. A cadence turn of 200 bytes needs 6 slots; on a map whose one entry fills the period it has
none, and with a hold over slot 100 it is blocked. -/
theorem witness_TurnsPlaced :
    (∀ m ∈ [modem, singleModem], ∀ mask ∈ [(0x00 : BitVec 8), 0x20], ∀ rate ∈ [0, 375],
      let f := { flow 11 with outstanding := 3000, spanMask := mask, rate := rate }
      let s := visiting f m walking
      s.planner.building = some walking ∧ s.walkEnds walking 36 = false ∧
        s.flow 11 = some f ∧ f.eligible = true ∧ s.isReady f = true ∧
        s.modemAt 0 = some { m with flowCount := 1 } ∧
        s.spanningActive f = decide (mask = 0x20) ∧ f.chanMask.getLsbD 0 = true ∧
        s.pendingFull = false ∧ s.localFull = false ∧ s.life ≠ .listen ∧ s.txFull = false ∧
        min f.unclaimed (min f.maxTurn (s.profile 3).maxTurn.toNat) = 3000 ∧
        sizeAgainst (s.profile 3) (s.part 0).q.toNat s.minGrant 3000
          (runsFrom 36 (s.freeRuns walking)) = some ⟨36, 74, 3000⟩) ∧
    (let s := visiting { flow 11 with outstanding := 3000 } singleModem walking;
      s.heldAcross 4800 (s.slotTick ⟨0, 1000⟩ 36) (s.slotTick ⟨0, 1000⟩ 110) = false ∧
        State.heldAcross { s with planner := { s.planner with
          localHolds := [⟨4800, s.slotTick ⟨0, 1000⟩ 109, s.slotTick ⟨0, 1000⟩ 120, ⟨1, 7, 0⟩⟩] } }
          4800 (s.slotTick ⟨0, 1000⟩ 36) (s.slotTick ⟨0, 1000⟩ 110) = true) ∧
    (∀ m ∈ [modem, singleModem], ∀ others ∈ [[], spanning900],
      let b : Build := ⟨⟨⟨0, 1000⟩, [], false⟩, 20, .cadence [77], false⟩
      let s := talking m others []
      s.planner.building = some b ∧ b.map.entries.length < 240 ∧
        s.flow 77 = some (talker .active) ∧
        (b.map.name.period - (cadenceOf 100 200).nextDue).toNat < 2147483648 ∧
        s.modemAt 0 = some { m with flowCount := 1 } ∧ (talker .active).pendingCount ≠ 4 ∧
        s.pendingFull = false ∧ s.localFull = false ∧ s.txFull = false ∧
        s.modemSpans 0 = !others.isEmpty ∧
        slotsFor (s.profile 3) (s.part 0).q.toNat 200 = 6 ∧
        cadenceSlot (s.freeRuns b) 100 6 = some 100 ∧
        s.heldAcross 4800 (s.slotTick ⟨0, 1000⟩ 100) (s.slotTick ⟨0, 1000⟩ 106) = false) ∧
    (let es := [entry 11 0 512 3000 .noTake false];
      let s := talking modem [] es;
      s.planner.building = some ⟨⟨⟨0, 1000⟩, es, false⟩, 20, .cadence [77], false⟩ ∧
        cadenceSlot (s.freeRuns ⟨⟨⟨0, 1000⟩, es, false⟩, 20, .cadence [77], false⟩) 100 6 =
          none) := by
  refine ⟨?_, ?_, ?_, ?_⟩ <;> decide +kernel

def ending (es : List Entry) (queue : List TurnMap) : State :=
  { base with
    planner := { Planner.reset with
      building := some ⟨⟨⟨0, 1000⟩, es, false⟩, 20, .done, false⟩ }
    mapPort := ⟨queue, []⟩ }

theorem witness_BuildEndsAndFramerTakes :
    base.planner.building = none ∧ base.mapPort.queue = [] ∧
    ((ending [entry 11 46 74 3000 .noTake false] []).planner.building =
        some ⟨⟨⟨0, 1000⟩, [entry 11 46 74 3000 .noTake false], false⟩, 20, .done, false⟩ ∧
      (entry 11 46 74 3000 .noTake false).hold = false ∧
      (ending [] (List.replicate 3 windowsMap)).mapPort.queue.length < 4) ∧
    (4 ≤ (ending windowsMap.entries (List.replicate 4 windowsMap)).mapPort.queue.length ∧
      ∀ e ∈ windowsMap.entries, e.hold = false ∧ (e.kind = .join ∨ e.kind = .bid)) ∧
    ((entry 22 145 98 4000 .inTx true).hold = true ∧
      (entry 22 145 98 4000 .inTx true).fate = .inTx) := by decide +kernel

/-- Station 3 with a GIVE, field 13h: a tie and a higher field, a lower one, no part taken. -/
theorem witness_ContentionWinsLosesOrPasses :
    let q : Queued := ⟨.give 11 5, none⟩
    (Link.reset.medium = .idle none false) ∧ (spanning []).link.medium = .sending ∧
      noticeRank q.notice * 8 + base.station.toNat ≤ (0x13 : BitVec 6).toNat ∧
      noticeRank q.notice * 8 + base.station.toNat ≤ (0x14 : BitVec 6).toNat ∧
      (0x12 : BitVec 6).toNat < noticeRank q.notice * 8 + base.station.toNat ∧
      (∀ f ∈ ([] : List (BitVec 6)), noticeRank q.notice * 8 + base.station.toNat ≤ f.toNat) ∧
      ([0x12] : List (BitVec 6)) ≠ [] := by
  decide +kernel

theorem witness_NoticesHeardAreChecked :
    base.link.inTx = none ∧ base.link.deaf = false ∧ State.reset.life = .start ∧
      ({ base with link := { base.link with deaf := true } }).link.deaf = true ∧
      base.life ≠ .start ∧ noticeOf [0x40] = none ∧
      noticeOf (noticeBytes 3 (.bid 11 5)) = some (base.station, .bid 11 5) ∧
      noticeOf (noticeBytes 5 (.presence true)) = some (5, .presence true) ∧ (5 : StationNo) ≠ 3 := by
  decide +kernel

theorem witness_PeerNoticesMoveBytes :
    let f := { flow 900 with spanMask := 0x20 }
    (withFlow f).link.inTx = none ∧ (withFlow f).link.deaf = false ∧ (withFlow f).life ≠ .start ∧
      (5 : StationNo) ≠ (withFlow f).station ∧ (withFlow f).flow 900 = some f ∧
      f.spanMask.getLsbD (5 : StationNo).toNat = true ∧
      noticeOf (noticeBytes 5 (.bid 900 7)) = some (5, .bid 900 7) ∧
      noticeOf (noticeBytes 5 (.give 900 7)) = some (5, .give 900 7) ∧
      noticeOf (noticeBytes 5 (.take 900 7)) = some (5, .take 900 7) ∧
      (withFlow (flow 900)).flow 900 = some (flow 900) ∧
      (flow 900).spanMask.getLsbD (5 : StationNo).toNat = false := by decide +kernel

def holding (n : Nat) (key : Key) : State :=
  { base with link := { Link.reset with
    holds := List.replicate n ⟨key, 33775700, 33775800, 2⟩ } }

/-- An interval that begins as another ends, one that overlaps, one that has ended, a full list. -/
theorem witness_PeerHoldsAreJudged :
    base.link.inTx = none ∧ base.link.deaf = false ∧ base.flow 900 = none ∧
      noticeOf (noticeBytes 5 (.takeHold 900 7 6001 33775800 33775900)) =
        some (5, .takeHold 900 7 6001 33775800 33775900) ∧
      ((holding 1 6001).link.holds.any fun h =>
        h.key == 6001 && before 33775800 h.stop && before h.start 33775900) = false ∧
      before base.time.nodeTime 33775900 = true ∧ before 33775615 base.time.nodeTime = true ∧
      ((holding 1 6001).link.holds.any fun h =>
        h.key == 6001 && before 33775799 h.stop && before h.start 33775900) = true ∧
      ((holding 256 6002).link.holds.any fun h =>
        h.key == 6001 && before 33775799 h.stop && before h.start 33775900) = false ∧
      256 ≤ (holding 256 6002).link.holds.length := by decide +kernel

def sending (n : Notice) (withdrawn silent : Bool) : State :=
  { withFlow { flow 900 with outstanding := 7, tentative := 5 } with
    link := { Link.reset with
      inTx := some ⟨⟨n, none⟩, withdrawn, silent⟩, medium := .sending
      holds := [⟨6001, 33775700, 33775800, 2⟩] } }

/-- A SEALING map of period 1,000 with the turn of flow 900 at slot 145, its TAKE with hold in
transmission, of 5 bytes over 33,775,800 to 33,775,900. -/
def sealingOwn (holds : List SharedHold) : State :=
  { withFlow { flow 900 with outstanding := 7, tentative := 5, pendingCount := 1 } with
    planner := { Planner.reset with
      sealing := [⟨⟨0, 1000⟩, [entry 900 145 98 5 .inTx true], false⟩] }
    tracker := ⟨[pendingAt 900 145 5 33832128], 0⟩
    link := { Link.reset with
      inTx := some ⟨⟨.takeHold 900 5 6001 33775800 33775900, some ⟨0, 1000, 145⟩⟩, false, false⟩
      medium := .sending
      holds := holds } }

/-- A hold that ends as the own one begins, and one that ends a tick later. -/
theorem witness_OwnTransmissionEnds :
    ((sending (.take 900 5) false true).link.inTx = some ⟨⟨.take 900 5, none⟩, false, true⟩) ∧
    (let s := sending (.take 900 5) false false;
      s.life ≠ .start ∧ s.planner.sealing = [] ∧
        s.flow 900 = some { flow 900 with outstanding := 7, tentative := 5 } ∧
        s.link.inTx = some ⟨⟨.take 900 5, none⟩, false, false⟩) ∧
    ((sending (.take 900 5) true false).link.inTx = some ⟨⟨.take 900 5, none⟩, true, false⟩ ∧
      0 < (5 : BitVec 16).toNat ∧ (sending (.take 900 5) true false).link.queue.length < 64) ∧
    (let s := sending (.takeHold 900 5 6001 33775799 33775900) true false;
      s.link.inTx = some ⟨⟨.takeHold 900 5 6001 33775799 33775900, none⟩, true, false⟩ ∧
        (s.link.holds.any fun h =>
          h.key == 6001 && before 33775799 h.stop && before h.start 33775900) = true) ∧
    (let s := sealingOwn [⟨6001, 33775700, 33775800, 2⟩];
      s.life ≠ .start ∧ s.planner.building = none ∧ s.mapPort.queue.length < 4 ∧
        s.flow 900 =
          some { flow 900 with outstanding := 7, tentative := 5, pendingCount := 1 } ∧
        s.pendingEntry ⟨0, 1000, 145⟩ = some (pendingAt 900 145 5 33832128) ∧
        (s.link.holds.any fun h =>
          h.key == 6001 && before 33775800 h.stop && before h.start 33775900) = false ∧
        s.link.holds.length < 256) ∧
    ((sealingOwn [⟨6001, 33775700, 33775801, 2⟩]).link.holds.any fun h =>
      h.key == 6001 && before 33775800 h.stop && before h.start 33775900) = true := by
  decide +kernel

/-- The last record of the table, and the one before it, both FREE. -/
theorem witness_SweepStepsBeginAndPass :
    (let s := { base with sweep := { Sweep.reset with state := .running } };
      s.sweep.state = .running ∧ s.sweep.step = none ∧ s.planner.building = none) ∧
    base.sweep.state ≠ .running ∧ base.sweep.step = none ∧
    (tabGet base.store.flows 8191 = none ∧ tabGet base.store.flows 8190 = none) ∧
    rich.planner.building ≠ none := by decide +kernel

/-- 10.6: stale at beat 12,900, idle at 17,700 with nothing outstanding, neither at 12,400. -/
theorem witness_SweepFindsStaleAndIdleFlows :
    (let s := swept resting 12900;
      s.sweep.step = some ⟨some 130⟩ ∧ tabGet s.store.flows s.sweep.cursor = some resting ∧
        s.flow 130 = some resting ∧ (∀ e ∈ s.port.attention, e.tag ≠ 130) ∧
        s.port.attention.length < 64) ∧
    (2500 < ((12900 : Beat) - 10000).toNat ∧ ¬ 7500 ≤ ((12900 : Beat) - 10200).toNat) ∧
    (¬ 0 < ({ resting with outstanding := 0 }).outstanding ∧
      7500 ≤ ((17700 : Beat) - 10200).toNat) ∧
    (let s := { swept resting 17700 with
        port := { Port.reset with attention := List.replicate 63 ⟨5, .stale⟩ } };
      (∀ e ∈ s.port.attention, e.tag ≠ 130) ∧ s.port.attention.length < 64 ∧
        0 < resting.outstanding ∧ s.inForce.staleLimit.toNat < (s.time.beat - 10000).toNat ∧
        7500 ≤ (s.time.beat - 10200).toNat) ∧
    (¬ 2500 < ((12400 : Beat) - 10000).toNat ∧ ¬ 7500 ≤ ((12400 : Beat) - 10200).toNat) := by
  decide +kernel

theorem witness_PortExchange :
    answered.port.slot = .answered ⟨0x0F, .done, []⟩ ∧ base.port.slot = .ready ∧
      (frameFault ⟨0x14, 0, [], 0⟩).isSome = true ∧
      ((7 : BitVec 16) ≠ crc16 (frameBytes ⟨0x14, 1, [9], 7⟩)) ∧
      (requiredLength (0x14 : Byte).toNat = none) ∧
      (requiredLength (0x0D : Byte).toNat = some 0 ∧ (0 : Nat) ≠ (1 : BitVec 16).toNat) := by
  decide +kernel

theorem witness_HostCommandsTurnedAway :
    hostCode .readPeers = some 0x0C ∧ answered.port.slot = .answered ⟨0x0F, .done, []⟩ ∧
      (State.reset.port.slot = .ready ∧ State.reset.life = .start) ∧
      hostCode (.loadStart record) = some 0x01 ∧ (base.port.slot = .ready ∧ base.life ≠ .start) := by
  decide +kernel

def noChannels : StartRecord := { record with channels := Quad.all noChannelPart }

/-- The channels of 2.5 with the profiles at 3,000 bytes: a good record that 4,000 bytes would not be. -/
def snug : StartRecord :=
  { record with
    channels := ⟨uc0, { uc0 with q := 16 }, { uc0 with q := 16, periodSlots := 384, wMax := 48 },
      noChannelPart⟩
    profiles := Vector.replicate 16 { profileA with maxTurn := 3000 } }

theorem witness_LoadStartEntersListen :
    (State.reset.port.slot = .ready ∧ State.reset.life = .start ∧
      firstFailure noChannels = some ⟨false, .channelField, 4⟩) ∧
    (firstFailure record = none ∧ State.reset.time.timed = false) ∧
    (restarted.life = .start ∧ restarted.port.slot = .ready ∧ restarted.time.timed = true) ∧
    ((983040 : Tick).toNat % 65536 = 0 ∧ held.time.timed = false ∧ held.accepted = some record) ∧
    (record.channels.get 0).enabled = true ∧
    (firstFailure snug = none ∧ snug.minGrant.toNat ≤ (4000 : BitVec 16).toNat ∧
      (snug.channels.get 2).periodSlots.toNat - (snug.channels.get 2).wMax.toNat -
          (snug.channels.get 2).joinSlots.toNat <
        slotsFor { snug.profiles[5] with maxTurn := 4000 } (snug.channels.get 2).q.toNat 4000) ∧
    (64 ≤ (255 : BitVec 16).toNat ∧ (255 : BitVec 16).toNat < record.minGrant.toNat ∧
      (20479 : BitVec 32).toNat < record.deliverLead.toNat + 8192 ∧
      record.buildLead.toNat < (32769 : BitVec 32).toNat + 8192 ∧
      (7 : BitVec 16).toNat < (record.channels.get 0).wMin.toNat ∧
      (record.channels.get 0).backoffEnd.toNat < (7 : BitVec 4).toNat ∧
      (1 : BitVec 4).toNat < (record.channels.get 0).backoffStart.toNat ∧
      12 < (13 : BitVec 8).toNat ∧ (15 : BitVec 8).toNat < 16 ∧ 32 < (33 : BitVec 8).toNat ∧
      (31 : BitVec 8).toNat % 2 = 1 ∧ record.profiles[0].maxTurn.toNat < (4001 : BitVec 16).toNat) := by
  decide +kernel

/-- Every record in use. -/
def inUse {α : Type} (a : α) (k n : Nat) : List (Nat × α) := (List.range' k n).map fun i => (i, a)

def fullModems : State := { base with store := { FlowStore.reset with modems := inUse modem 0 4096 } }

theorem inUse_get {α : Type} (a : α) (n k j : Nat) (h : k ≤ j) (hn : j < k + n) :
    tabGet (inUse a k n) j = some a := by
  induction n generalizing k with
  | zero => omega
  | succ n ih =>
    simp only [inUse, List.range'_succ, List.map_cons, tabGet]
    split
    · rfl
    · exact ih (k + 1) (by omega) (by omega)

theorem inUse_wf {α : Type} (a : α) (n k : Nat) : tabWf (inUse a k n) = true := by
  induction n generalizing k with
  | zero => rfl
  | succ n ih =>
    cases n with
    | zero => rfl
    | succ n =>
      have := ih (k + 1)
      simp only [inUse, List.range'_succ, List.map_cons, tabWf, Bool.and_eq_true,
        decide_eq_true_eq] at this ⊢
      exact ⟨by omega, this⟩

theorem inUse_full {α : Type} (a : α) (n k : Nat) : lowestFree (inUse a k n) k = k + n := by
  induction n generalizing k with
  | zero => rfl
  | succ n ih =>
    have := ih (k + 1)
    simp only [inUse, List.range'_succ, List.map_cons, lowestFree, if_pos] at this ⊢
    omega

theorem noFree {α : Type} (a : α) (n : Nat) : freeRecord (inUse a 0 n) n = none := by
  unfold freeRecord
  rw [inUse_full, if_neg (by omega)]

theorem witness_AdmitModemFillsTheLowestRecord :
    (base.port.slot = .ready ∧ base.life ≠ .start ∧ tabWf base.store.modems = true) ∧
    (∃ e ∈ (withFlow (flow 11)).store.modems, e.2.key = 4800) ∧
    (fullModems.port.slot = .ready ∧ tabWf fullModems.store.modems = true ∧
      (∀ e ∈ fullModems.store.modems, e.2.key ≠ 5) ∧ ∀ i < 4096, fullModems.modemAt i ≠ none) ∧
    ((withFlow (flow 11)).modemAt 1 = none ∧ ∀ j < 1, (withFlow (flow 11)).modemAt j ≠ none) := by
  refine ⟨by decide +kernel, by decide +kernel, ⟨rfl, inUse_wf modem 4096 0, fun e h => ?_, fun i h => ?_⟩,
    by decide +kernel⟩
  · obtain ⟨i, _, rfl⟩ := List.mem_map.1 h
    exact (by decide : modem.key ≠ 5)
  · show tabGet (inUse modem 0 4096) i ≠ none
    rw [inUse_get modem 4096 0 i (Nat.zero_le i) (by omega)]
    exact Option.some_ne_none _

/-- `rich` with no map open: one pending entry of the flow, and its record by the store law. -/
def removing : State := { rich with planner := { rich.planner with building := none } }

theorem witness_ModemRemovedPinnedAndRead :
    (base.port.slot = .ready ∧ base.life ≠ .start ∧ base.modemIx 5 = none) ∧
    (let s := withFlow (flow 130);
      s.modemIx 4800 = some 0 ∧ s.modemAt 0 = some { modem with flowCount := 1 }) ∧
    (let s := { base with store := { FlowStore.reset with modems := [(0, modem)] } };
      s.modemIx 4800 = some 0 ∧ s.modemAt 0 = some modem ∧ ∀ e ∈ s.store.flows, e.2.modemIx ≠ 0) ∧
    StoreLaw removing ∧
    (removing.modemIx 4800 = some 0 ∧ (∃ e ∈ removing.store.flows, e.2.modemIx = 0) ∧
      removing.planner.building = none ∧ removing.planner.sealing = []) :=
  ⟨by decide +kernel, by decide +kernel, by decide +kernel, witness_StepKeepsStoreLaw,
    by decide +kernel⟩

theorem witness_AdmitFlowFillsARecord :
    let s := withFlow (flow 130)
    (s.port.slot = .ready ∧ s.life ≠ .start ∧ s.modemIx 5 = none) ∧
      (admission.tag ≠ 0 ∧ s.modemIx admission.key = some 0 ∧
        s.modemAt 0 = some { modem with flowCount := 1 }) ∧
      s.tagState 130 = some (.bound 0) ∧
      State.tagState { s with store := { s.store with tagMap := [(77, .draining 3)] } } 77 =
        some (.draining 3) ∧
      (s.tagState admission.tag = none ∧ s.takeInTx admission.tag = false ∧
        (∃ c : Chan, admission.chanMask.getLsbD c.val = true ∧ s.enabled c = true) ∧
        freeRecord s.store.flows 8192 = some 1 ∧ 15 < 16) ∧
      State.takeInTx { s with link := { Link.reset with
        inTx := some ⟨⟨.take 77 5, none⟩, false, false⟩ } } 77 = true ∧
      (∀ c : Chan, ({ admission with chanMask := 0xC }).chanMask.getLsbD c.val = true →
        s.enabled c = false) ∧
      16 ≤ ({ modem with flowCount := 16 }).flowCount ∧
      freeRecord (inUse (flow 130) 0 8192) 8192 = none := by
  refine ⟨by decide +kernel, by decide +kernel, by decide +kernel, by decide +kernel,
    by decide +kernel, by decide +kernel, by decide +kernel, by decide, ?_⟩
  exact noFree _ 8192

/-- R42, checks 4, 5 and 11: a TAKE of the tag in transmission, no enabled channel, a modem with 16 flows. -/
theorem test_admit_flow_checks :
    let s := withFlow (flow 130)
    let answer (a : AdmitFlow) (s : State) := (after (.admitFlow a) s).port.slot
    answer admission { s with link := { Link.reset with
        inTx := some ⟨⟨.take 77 5, none⟩, false, false⟩ } } = .answered ⟨0x07, .tagDraining, []⟩ ∧
      answer { admission with chanMask := 0xC } s = .answered ⟨0x07, .badField, [0, 7]⟩ ∧
      answer admission { s with store := { s.store with
        modems := [(0, { modem with flowCount := 16 })] } } = .answered ⟨0x07, .noRoom, []⟩ := by
  decide +kernel

def cadenceAdmission (c : Chan) (interval : BitVec 8) (bytes phase : BitVec 16) : AdmitFlow :=
  { admission with cadence := true, cadChan := c, interval := interval, cadBytes := bytes, phase := phase }

theorem witness_AdmitCadenceFlow :
    let s := withFlow (flow 130)
    (s.port.slot = .ready ∧ s.life ≠ .start ∧ s.tagState 77 = none ∧
      (s.chans.get 0).clock = some ⟨1000, 1000, 1000, []⟩) ∧
      s.enabled (cadenceAdmission 2 1 16 0).cadChan = false ∧
      (cadenceAdmission 0 0 16 0).interval = 0 ∧
      (cadenceAdmission 0 1 15 0).cadBytes.toNat < 16 ∧
      2048 < (cadenceAdmission 0 1 2049 0).cadBytes.toNat ∧
      (s.part 0).periodSlots.toNat ≤ (cadenceAdmission 0 1 16 512).phase.toNat ∧
      (16 ≤ (cadenceAdmission 0 1 16 511).cadBytes.toNat ∧
        (cadenceAdmission 0 1 2048 511).cadBytes.toNat ≤ 2048 ∧
        (cadenceAdmission 0 1 2048 511).phase.toNat < (s.part 0).periodSlots.toNat ∧
        freeRecord s.store.flows 8192 = some 1) ∧
      16 ≤ ({ modem with flowCount := 16 }).flowCount := by decide +kernel

/-- `removing` with flow 11's turn at slot 46, its TAKE with hold waiting, and the local hold of it. -/
def strandedMap (fate : Fate) : TurnMap :=
  ⟨⟨0, 1000⟩, [entry 11 46 74 3000 .queued true, entry 11 120 74 3000 .standing true,
    entry 12 194 74 3000 fate true], false⟩

def stranding (p : Planner) : State :=
  { removing with
    planner := { p with
      ready := removing.planner.ready
      localHolds := [⟨4800, 1, 2, ⟨0, 1000, 46⟩⟩, ⟨4800, 2, 3, ⟨0, 1000, 120⟩⟩] }
    tracker := ⟨[pendingAt 11 46 3000 33824256, pendingAt 11 120 3000 33824256], 0⟩
    link := { removing.link with
      queue := [⟨.takeHold 11 3000 4800 1 2, some ⟨0, 1000, 46⟩⟩, ⟨.bid 11 5, none⟩,
        ⟨.give 11 5, none⟩] } }

def strandedBuild : State :=
  stranding { Planner.reset with
    building := some ⟨strandedMap .inTx, 20, .walk 300 [11] [], false⟩ }

def strandedSealing (fate : Fate) : State :=
  stranding { Planner.reset with sealing := [strandedMap fate] }

theorem storeLaw_of_store {s : State} (h : s.store = removing.store) : StoreLaw s := by
  have := witness_StepKeepsStoreLaw
  simp only [StoreLaw, TablesLaw, State.tagState] at this ⊢
  rw [h]
  exact this

/-- R46 and R47: in a SEALING map whose other hold stands, the withdrawal of the waiting turn hands the
map over; the BID stays queued, the TAKE with hold and the GIVE go. -/
theorem test_remove_flow_withdraws_waiting_turns :
    let t := after (.removeFlow 11) (strandedSealing .standing)
    t.planner.sealing = [] ∧ t.mapPort.queue.getLast?.map (·.entries.map (·.start)) = some [120, 194] ∧
      t.tagState 11 = some (.draining 1) ∧ t.link.queue = [⟨.bid 11 5, none⟩] ∧
      t.planner.localHolds.map (·.turn.slot) = [120] := by decide +kernel

theorem witness_RemoveFlowFreesTheRecord :
    removing.hostReady ∧ removing.flowIx 12 = none ∧ StoreLaw removing ∧
      removing.flow 11 = some { flow 11 with outstanding := 500 } ∧
      removing.modemAt 0 =
        some { modem with flowCount := 1, state := .degraded, presence := 100 } ∧
      removing.planner.building = none ∧ removing.planner.sealing = [] ∧
      removing.sweep.step = none ∧ (swept (flow 11) 0).sweep.step = some ⟨some 11⟩ ∧
      (swept (flow 11) 0).sweep.state = .running ∧
      (∀ s ∈ [strandedBuild, strandedSealing .inTx, strandedSealing .standing],
        s.hostReady ∧ StoreLaw s ∧ s.flow 11 = some { flow 11 with outstanding := 500 } ∧
          s.modemAt 0 = removing.modemAt 0) ∧
      ((∃ b, strandedBuild.planner.building = some b ∧ b.map = strandedMap .inTx) ∧
        strandedBuild.planner.sealing = []) ∧
      (∀ fate, (strandedSealing fate).planner.building = none ∧
        (strandedSealing fate).planner.sealing = [strandedMap fate] ∧
        (strandedSealing fate).mapPort.queue.length < 4) := by
  refine ⟨⟨rfl, by decide⟩, by decide +kernel, witness_StepKeepsStoreLaw, by decide +kernel,
    by decide +kernel, rfl, rfl, rfl, rfl, rfl, fun s h => ?_, ⟨⟨_, rfl, rfl⟩, rfl⟩,
    fun _ => ⟨rfl, rfl, (by decide : 1 < 4)⟩⟩
  simp only [List.mem_cons, List.not_mem_nil, or_false] at h
  obtain rfl | rfl | rfl := h <;>
    exact ⟨⟨rfl, by decide⟩, storeLaw_of_store rfl, by decide +kernel, rfl⟩

theorem witness_FlowRevivedAndRead :
    (let s := withFlow { flow 130 with state := .dormant };
      s.port.slot = .ready ∧ s.life ≠ .start ∧ s.flow 131 = none ∧ s.tagState 131 = none ∧
        s.flowIx 130 = some 0 ∧
        tabGet s.store.flows 0 = some { flow 130 with state := .dormant } ∧
        s.isReady { flow 130 with state := .dormant } = false) ∧
    (flow 130).state ≠ .dormant ∧
    State.tagState { base with store := { FlowStore.reset with tagMap := [(21, .draining 3)] } } 21 =
      some (.draining 3) := by decide +kernel

/-- The ring of `rich` holds 7 and 8, and its counter stands at 9; the number 7 + 2^31 + 1 is before both
and not before 9 (log 46). -/
theorem witness_ReadsAnswerFromTheState :
    (rich.port.slot = .ready ∧ rich.life ≠ .start ∧ 3 < (4 : Byte).toNat ∧
      (3 : Byte).toNat = (3 : Chan).val) ∧
    RingLaw rich ∧ State.reset.health.ring = [] ∧
    ((7 : BitVec 32) = rich.health.seq - BitVec.ofNat 32 (rich.health.ring.length - 0) ∧
      (8 : BitVec 32) = rich.health.seq - BitVec.ofNat 32 (rich.health.ring.length - 1)) ∧
    before 6 (7 : BitVec 32) = true ∧ rich.health.seq = 9 ∧
    (before 2147483656 (7 : BitVec 32) = true ∧ before 2147483656 (9 : BitVec 32) = false) ∧
    ∀ r ∈ rich.health.ring, before 9 r.seq = false :=
  ⟨by decide +kernel, witness_StepKeepsRingLaw, rfl, by decide +kernel, by decide, rfl,
    by decide, by decide +kernel⟩

theorem witness_HostQueuesMaskAndSweepRestart :
    (base.port.slot = .ready ∧ base.life ≠ .start ∧ base.sweep.step = none ∧
      base.sweep.state ≠ .running) ∧
      (swept resting 0).sweep.step = some ⟨some 130⟩ ∧ (swept resting 0).sweep.state = .running ∧
      (swept resting 0).planner.building = none := by decide +kernel

theorem witness_ClearFaultsEmptiesTheRing :
    State.reset.port.slot = .ready ∧ State.reset.life = .start ∧ rich.port.slot = .ready ∧
      rich.life ≠ .start := by decide +kernel

end Sys2Proof.Tests
end

section
/-! SUPPORT. A quiet station (the law of START): no deadline but the beat stands, so counting meets
nothing else. And both resets leave the station quiet (R8, R16). -/

namespace Sys2Proof.Machine

/-! ### What stands in a quiet station -/

theorem stored_of_absent_roster {s : State}
    (h : s.link.roster = Vector.replicate 8 RosterEntry.absent) (k : StationNo) :
    s.stored k = RosterEntry.absent := by
  simp [State.stored, h]

theorem Quiet.chanDeadlines {s : State} (h : Quiet s) (c : Chan) : s.chanDeadlines c = [] := by
  obtain ⟨hclock, -⟩ := h.chans c
  simp only [State.chanDeadlines, hclock]

theorem Quiet.absenceDeadlines {s : State} (h : Quiet s) : s.absenceDeadlines = [] := by
  simp [State.absenceDeadlines, stored_of_absent_roster h.roster, RosterEntry.absent]

/-- Beats alone are counted to in START (R5, R13). -/
theorem Quiet.deadlines_timed {s : State} (h : Quiet s) (ht : s.time.timed = true) :
    s.deadlines = [.beat s.time.nextBeat] := by
  have hchans : quadIndexes.flatMap s.chanDeadlines = [] :=
    List.flatMap_eq_nil_iff.2 fun c _ => h.chanDeadlines c
  simp [State.deadlines, ht, hchans, h.absenceDeadlines, h.listenEnd, h.pendings, h.planner,
    Planner.reset, h.holds, h.presence]

/-- Only the entries of the pending list follow node time (R134). -/
theorem passing_of_no_entries {tr : Tracker} (h : tr.list = []) (base : Tick) (span : Nat) :
    tr.passing base span = tr := by
  cases tr
  simp_all [Tracker.passing]

/-- A quiet station has no pending entry, so counting moves node time alone (R1). -/
theorem Quiet.setNow_eq {s : State} (h : Quiet s) (t : Tick) :
    s.setNow t = { s with time := { s.time with nodeTime := t } } := by
  simp [State.setNow, State.modTracker, State.modTime, passing_of_no_entries h.pendings]

theorem Quiet.with_pending {s : State} (h : Quiet s) (cs : List Instr) :
    Quiet { s with pending := cs } := { h with }

/-! ### The node clock and the next beat -/

/-- A deadline lies within one tick exactly when it falls at node time itself. -/
theorem distance_lt_one_iff (s : State) (d : Deadline) :
    s.distance d < 1 ↔ s.tickOf d = s.time.nodeTime := by
  unfold State.distance ahead
  bv_omega

/-- An untimed station counts no ticks (R1). -/
theorem idle_untimed {s : State} (ht : s.time.timed = false) : s.idle = s := by
  simp [State.idle, ht]

/-- A timed station counts one tick when no deadline stands at the present one (R1, log 3). -/
theorem idle_of_no_deadline_now {s : State} (ht : s.time.timed = true)
    (hd : ∀ d ∈ s.deadlines, s.tickOf d ≠ s.time.nodeTime) :
    s.idle = s.setNow (s.time.nodeTime + 1) := by
  have hnone : s.within 1 = [] :=
    List.filter_eq_nil_iff.2 fun d hm hlt =>
      hd d hm ((distance_lt_one_iff s d).1 (of_decide_eq_true hlt))
  simp [State.idle, ht, hnone, State.draw]

theorem step_of_no_command {s : State} (h : s.pending = []) : step s = .next s.idle := by
  simp only [step, h]

theorem Quiet.idle_counts {s : State} (h : Quiet s) (ht : s.time.timed = true)
    (hbeat : s.time.nextBeat ≠ s.time.nodeTime) :
    s.idle = { s with time := { s.time with nodeTime := s.time.nodeTime + 1 } } := by
  have hd : ∀ d ∈ s.deadlines, s.tickOf d ≠ s.time.nodeTime := by
    simpa [h.deadlines_timed ht, State.tickOf] using hbeat
  rw [idle_of_no_deadline_now ht hd, h.setNow_eq]

theorem Quiet.beat_due {s : State} (h : Quiet s) (ht : s.time.timed = true) :
    s.due (.beat s.time.nextBeat) := by
  simp [State.due, h.deadlines_timed ht]

/-- R5: every beat event adds 1 to the beat counter, whether or not it loses the line (R7). -/
theorem fallBeat_beat (s : State) : s.fallBeat.time.beat = s.time.beat + 1 := by
  unfold State.fallBeat
  dsimp only
  split <;> rfl

/-- BEAT_EVENT of the next beat, when counting meets nothing before it. -/
theorem exec_beatEvent_due {s : State} (h : s.due (.beat s.time.nextBeat)) :
    exec (.beatEvent s.time.nextBeat) s = .next (s.setNow s.time.nextBeat).fallBeat :=
  congrArg Host.Outcome.next (atDeadline_due h)

/-! ### The two resets -/

theorem exec_hardReset (straps : StationNo) (s : State) :
    exec (.hardReset straps) s = .next (s.hardReset straps) := rfl

@[simp] theorem hardReset_time (s : State) (straps : StationNo) :
    (s.hardReset straps).time = TimeUnit.reset := rfl

/-- The state that RESTART leaves, with its DONE response in the slot (R16, R169). -/
def State.afterRestart (s : State) : State := s.takeFrame.restart.1.answer 0x02 (plain .done)

theorem exec_restart_ready {s : State} (h : s.port.slot = .ready) :
    exec .restart s = .next s.afterRestart := by
  change Host.Outcome.next (s.hostCommand 0x02 inAnyLife fun s => s.restart) = _
  simp only [State.hostCommand, h, inAnyLife, if_true]
  rfl

@[simp] theorem afterRestart_time (s : State) : s.afterRestart.time = s.time.restarted := rfl

theorem quad_get_all {α : Type} (a : α) (i : Fin 4) : (Quad.all a).get i = a := by
  match i with
  | 0 => rfl
  | 1 => rfl
  | 2 => rfl
  | 3 => rfl

/-- A channel of either reset has no clock and no window (R12, R94). -/
theorem chanQuiet_all_reset (c : Chan) : chanQuiet ((Quad.all Channel.reset).get c) := by
  rw [quad_get_all]
  exact ⟨rfl, rfl⟩

theorem left_no_contender (m : Medium) (q : Queued) (b : Bool) : m.left ≠ .idle (some q) b := by
  cases m <;> simp [Medium.left]

theorem hardReset_no_contender (l : Link) (q : Queued) (b : Bool) :
    l.hardReset.medium ≠ .idle (some q) b := by
  unfold Link.hardReset
  dsimp only
  split <;> simp

theorem quiet_hardReset (s : State) (straps : StationNo) : Quiet (s.hardReset straps) where
  chans := chanQuiet_all_reset
  listenEnd := rfl
  store := rfl
  planner := rfl
  mapPort := rfl
  queue := rfl
  roster := rfl
  holds := rfl
  presence := rfl
  contender := hardReset_no_contender s.link
  pendings := rfl
  sweep := ⟨rfl, rfl, rfl⟩
  attention := rfl
  arrivals := rfl

theorem quiet_afterRestart (s : State) : Quiet s.afterRestart where
  chans := chanQuiet_all_reset
  listenEnd := rfl
  store := rfl
  planner := rfl
  mapPort := rfl
  queue := rfl
  roster := rfl
  holds := rfl
  presence := rfl
  contender := left_no_contender s.link.medium
  pendings := rfl
  sweep := ⟨rfl, rfl, rfl⟩
  attention := rfl
  arrivals := rfl

/-! ### R8 -/

/-- After a hard reset node time is held: the station is untimed. -/
theorem step_after_hardReset (s : State) (straps : StationNo) :
    step { s.hardReset straps with pending := [] } =
      .next { s.hardReset straps with pending := [] } := by
  rw [step_of_no_command rfl, idle_untimed rfl]

/-- After RESTART a timed node time counts on. -/
theorem step_after_restart {s : State} (ht : s.time.timed = true)
    (hbeat : s.time.nextBeat ≠ s.time.nodeTime) :
    step { s.afterRestart with pending := [] } = .next
      { s.afterRestart with
        pending := []
        time := { s.afterRestart.time with nodeTime := s.afterRestart.time.nodeTime + 1 } } := by
  have hq : Quiet { s.afterRestart with pending := [] } := (quiet_afterRestart s).with_pending []
  rw [step_of_no_command rfl, hq.idle_counts ht hbeat]

/-- After RESTART the next beat event finds the beat counter 0 and makes it 1. -/
theorem beat_after_restart {s : State} (ht : s.time.timed = true) :
    ∃ u, exec (.beatEvent s.afterRestart.time.nextBeat) s.afterRestart = .next u ∧
      u.time.beat = 1 := by
  refine ⟨_, exec_beatEvent_due ((quiet_afterRestart s).beat_due ht), ?_⟩
  rw [fallBeat_beat]
  rfl

/-- Settles O19: the values of R8's table are read off the two reset states; that node time counts on
after RESTART, and that the next beat falls, holds because the reset station is quiet. -/
theorem resetsSetTheTimeUnit : Obligations.ResetsSetTheTimeUnit := by
  unfold Obligations.ResetsSetTheTimeUnit
  refine ⟨fun straps s => ?hard, fun s hready => ?restart⟩
  case hard =>
    refine ⟨_, exec_hardReset straps s, rfl, rfl, rfl, rfl, rfl, rfl, rfl, rfl, fun c => ?_,
      step_after_hardReset s straps⟩
    exact ((quiet_hardReset s straps).chans c).1
  case restart =>
    refine ⟨_, exec_restart_ready hready, afterRestart_time s, fun c => ?_,
      step_after_restart, beat_after_restart⟩
    exact ((quiet_afterRestart s).chans c).1

end Sys2Proof.Machine
end

section
/-! SUPPORT. Burst arithmetic (02): slots does not decrease with the byte count (R21), so the fourteen
decisions of the fit search (R22) decide, for every byte count, whether it fits; R23 follows. -/

namespace Sys2Proof.Machine

/-! ### Slots does not decrease (R19 to R21) -/

/-- R18's lower bound on k: a full codeword holds the 16 bytes that a shortened one is stretched to
(R19). -/
theorem sixteen_le_k {pr : ProfilePart} (h : profileFieldsOk pr = true) : 16 ≤ pr.k.toNat := by
  simp only [profileFieldsOk, inRange, Bool.and_eq_true, decide_eq_true_eq] at h
  obtain ⟨⟨⟨⟨⟨-, hk, -⟩, -⟩, -⟩, -⟩, -⟩ := h
  exact hk

theorem ceilDiv_mono {a a' : Nat} (h : a ≤ a') (d : Nat) : ceilDiv a d ≤ ceilDiv a' d :=
  Nat.div_le_div_right (by omega)

@[simp] theorem lastCodeword_zero (pr : ProfilePart) : lastCodeword pr 0 = 0 := rfl

theorem lastCodeword_shortened {pr : ProfilePart} {r : Nat} (hs : pr.shortening = true)
    (hr : r ≠ 0) : lastCodeword pr r = max r 16 + pr.p.toNat := by
  simp only [lastCodeword, hr, hs, if_true, if_false]

theorem lastCodeword_whole {pr : ProfilePart} {r : Nat} (hs : pr.shortening = false)
    (hr : r ≠ 0) : lastCodeword pr r = pr.k.toNat + pr.p.toNat := by
  simp [lastCodeword, hr, hs]

/-- Within one codeword count, L grows with the bytes left over. -/
theorem lastCodeword_mono (pr : ProfilePart) {r r' : Nat} (h : r ≤ r') :
    lastCodeword pr r ≤ lastCodeword pr r' := by
  by_cases hr : r = 0
  · simp [hr]
  have hr' : r' ≠ 0 := by omega
  cases hs : pr.shortening
  case true =>
    rw [lastCodeword_shortened hs hr, lastCodeword_shortened hs hr']
    omega
  case false => rw [lastCodeword_whole hs hr, lastCodeword_whole hs hr']

/-- The last codeword is never longer than a full one. -/
theorem lastCodeword_le_full {pr : ProfilePart} (hk : 16 ≤ pr.k.toNat) {r : Nat}
    (hr : r < pr.k.toNat) : lastCodeword pr r ≤ pr.k.toNat + pr.p.toNat := by
  by_cases h0 : r = 0
  · simp [h0]
  cases hs : pr.shortening
  case true =>
    rw [lastCodeword_shortened hs h0]
    omega
  case false => rw [lastCodeword_whole hs h0]

/-- R21: the two byte counts have the same count of full codewords, or a codeword boundary lies
between them. -/
theorem bytesOnAir_mono {pr : ProfilePart} (hk : 16 ≤ pr.k.toNat) {b b' : Nat} (h : b ≤ b') :
    bytesOnAir pr b ≤ bytesOnAir pr b' := by
  unfold bytesOnAir
  obtain hsame | hless := (Nat.div_le_div_right (c := pr.k.toNat) h).eq_or_lt
  · have hrest : b % pr.k.toNat ≤ b' % pr.k.toNat := by
      have hb := Nat.div_add_mod b pr.k.toNat
      have hb' := Nat.div_add_mod b' pr.k.toNat
      rw [hsame] at hb
      omega
    rw [hsame]
    exact Nat.add_le_add_left (lastCodeword_mono pr hrest) _
  · have hlast := lastCodeword_le_full hk (Nat.mod_lt b (by omega : 0 < pr.k.toNat))
    calc b / pr.k.toNat * (pr.k.toNat + pr.p.toNat) + lastCodeword pr (b % pr.k.toNat)
        ≤ (b / pr.k.toNat + 1) * (pr.k.toNat + pr.p.toNat) := by rw [Nat.succ_mul]; omega
      _ ≤ b' / pr.k.toNat * (pr.k.toNat + pr.p.toNat) := Nat.mul_le_mul_right _ hless
      _ ≤ _ := Nat.le_add_right _ _

theorem slotsFor_mono {pr : ProfilePart} (hk : 16 ≤ pr.k.toNat) (q : Nat) {b b' : Nat}
    (h : b ≤ b') : slotsFor pr q b ≤ slotsFor pr q b' := by
  have hair := bytesOnAir_mono hk h
  have hsymbols : burstSymbols pr b ≤ burstSymbols pr b' := by
    have hpayload := ceilDiv_mono (Nat.mul_le_mul_left 8 hair) pr.bitsPerSymbol.toNat
    unfold burstSymbols
    omega
  exact ceilDiv_mono hsymbols q

/-! ### The search by its bits (R22) -/

/-- The weights of `n` bits, the highest first. -/
def bitWeights : Nat → List Nat
  | 0 => []
  | n + 1 => 2 ^ n :: bitWeights n

theorem fitFor_eq_foldl_bitWeights (pr : ProfilePart) (q s : Nat) :
    fitFor pr q s = (bitWeights 14).foldl (fitStep pr q s) 0 := rfl

theorem fitStep_taken {pr : ProfilePart} {q s t w : Nat} (h : slotsFor pr q (t + w) ≤ s) :
    fitStep pr q s t w = t + w := if_pos h

theorem fitStep_refused {pr : ProfilePart} {q s t w : Nat} (h : s < slotsFor pr q (t + w)) :
    fitStep pr q s t w = t := if_neg (Nat.not_le.mpr h)

/-- The `n` lowest bits raise the trial result by less than `2 ^ n`. -/
theorem foldl_fitStep_bounds (pr : ProfilePart) (q s n t : Nat) :
    t ≤ (bitWeights n).foldl (fitStep pr q s) t ∧
      (bitWeights n).foldl (fitStep pr q s) t < t + 2 ^ n := by
  induction n generalizing t with
  | zero => simp [bitWeights]
  | succ n ih =>
    rw [bitWeights, List.foldl_cons, Nat.pow_succ]
    obtain hfits | hover := le_or_gt (slotsFor pr q (t + 2 ^ n)) s
    · rw [fitStep_taken hfits]
      have := ih (t + 2 ^ n)
      omega
    · rw [fitStep_refused hover]
      have := ih t
      omega

/-- The idea of the search: a taken candidate shows that every count up to it fits, a refused one that
no count from it on does, and the bits below decide the counts in between. -/
theorem le_foldl_fitStep_iff {pr : ProfilePart} (hk : 16 ≤ pr.k.toNat) (q s : Nat) {n t b : Nat}
    (hlo : t < b) (hhi : b < t + 2 ^ n) :
    b ≤ (bitWeights n).foldl (fitStep pr q s) t ↔ slotsFor pr q b ≤ s := by
  induction n generalizing t with
  | zero => omega
  | succ n ih =>
    rw [Nat.pow_succ] at hhi
    rw [bitWeights, List.foldl_cons]
    obtain hfits | hover := le_or_gt (slotsFor pr q (t + 2 ^ n)) s
    · rw [fitStep_taken hfits]
      obtain hbelow | habove := le_or_gt b (t + 2 ^ n)
      · have hreached := (foldl_fitStep_bounds pr q s n (t + 2 ^ n)).1
        exact iff_of_true (hbelow.trans hreached) ((slotsFor_mono hk q hbelow).trans hfits)
      · exact ih habove (by omega)
    · rw [fitStep_refused hover]
      obtain hbelow | habove := Nat.lt_or_ge b (t + 2 ^ n)
      · exact ih hlo hbelow
      · have hshort := (foldl_fitStep_bounds pr q s n t).2
        exact iff_of_false (hshort.trans_le habove).not_ge
          (hover.trans_le (slotsFor_mono hk q habove)).not_ge

/-! ### The answer (R23) -/

theorem fitFor_le (pr : ProfilePart) (q s : Nat) : fitFor pr q s ≤ 16383 := by
  have := (foldl_fitStep_bounds pr q s 14 0).2
  rw [fitFor_eq_foldl_bitWeights]
  omega

/-- A byte count is within the answer exactly when its turn fits the run. -/
theorem le_fitFor_iff {pr : ProfilePart} (hk : 16 ≤ pr.k.toNat) (q s : Nat) {b : Nat}
    (hlo : 1 ≤ b) (hhi : b ≤ 16383) : b ≤ fitFor pr q s ↔ slotsFor pr q b ≤ s := by
  rw [fitFor_eq_foldl_bitWeights]
  exact le_foldl_fitStep_iff hk q s hlo (by omega)

theorem fitFor_lt_iff {pr : ProfilePart} (hk : 16 ≤ pr.k.toNat) (q s : Nat) {b : Nat}
    (hlo : 1 ≤ b) (hhi : b ≤ 16383) : fitFor pr q s < b ↔ s < slotsFor pr q b := by
  simpa only [Nat.not_le] using not_congr (le_fitFor_iff hk q s hlo hhi)

theorem slotsFor_fitFor_le {pr : ProfilePart} (hk : 16 ≤ pr.k.toNat) {q s : Nat}
    (h : fitFor pr q s ≠ 0) : slotsFor pr q (fitFor pr q s) ≤ s :=
  (le_fitFor_iff hk q s (Nat.pos_of_ne_zero h) (fitFor_le pr q s)).mp (Nat.le_refl _)

theorem lt_slotsFor_fitFor_succ {pr : ProfilePart} (hk : 16 ≤ pr.k.toNat) {q s : Nat}
    (h : fitFor pr q s ≠ 16383) : s < slotsFor pr q (fitFor pr q s + 1) := by
  have := fitFor_le pr q s
  exact (fitFor_lt_iff hk q s (by omega) (by omega)).mp (Nat.lt_succ_self _)

theorem fitFor_mono {pr : ProfilePart} (hk : 16 ≤ pr.k.toNat) (q : Nat) {s s' : Nat}
    (h : s ≤ s') : fitFor pr q s ≤ fitFor pr q s' := by
  by_cases h0 : fitFor pr q s = 0
  · omega
  · exact (le_fitFor_iff hk q s' (Nat.pos_of_ne_zero h0) (fitFor_le pr q s)).mpr
      ((slotsFor_fitFor_le hk h0).trans h)

/-- Settles O17: every clause reads off `le_fitFor_iff`, that a byte count is within the answer exactly
when its turn fits the run. -/
theorem fitSearchFindsTheLargestTurn : Obligations.FitSearchFindsTheLargestTurn := by
  unfold Obligations.FitSearchFindsTheLargestTurn
  intro pr q s hfields _ _ _ _
  have hk := sixteen_le_k hfields
  have hmax := fitFor_le pr q s
  refine ⟨?largest, ?none, ?noCount, ?all, fun s' hle _ => fitFor_mono hk q hle,
    fun want hlo hhi hneed => (fitFor_lt_iff hk q s hlo hhi).mpr hneed⟩
  case largest =>
    by_cases h0 : fitFor pr q s = 0
    · exact .inl h0
    by_cases hall : fitFor pr q s = 16383
    · exact .inr ⟨hmax, slotsFor_fitFor_le hk h0, .inl hall⟩
    · exact .inr ⟨hmax, slotsFor_fitFor_le hk h0, .inr (lt_slotsFor_fitFor_succ hk hall)⟩
  case none =>
    rw [← fitFor_lt_iff hk q s (Nat.le_refl 1) (by omega)]
    omega
  case noCount =>
    intro h0 b hlo hhi
    exact (fitFor_lt_iff hk q s hlo hhi).mp (by omega)
  case all =>
    rw [← le_fitFor_iff hk q s (by omega) (Nat.le_refl 16383)]
    omega

end Sys2Proof.Machine
end

section
/-! SUPPORT. The free record of a table, a modem's key among the records in use, the reply of a command
taken in READY; and ADMIT MODEM (03). -/

namespace Sys2Proof.Machine

/-! ### The free record (R34, R44) -/

/-- Every index that the search for a free record passes over is listed. -/
theorem tabGet_ne_none_of_lt_lowestFree {α : Type} {t : List (Nat × α)} {k j : Nat} (hlo : k ≤ j)
    (hhi : j < lowestFree t k) : tabGet t j ≠ none := by
  induction t generalizing k with
  | nil => exact absurd hhi (Nat.not_lt.mpr hlo)
  | cons e r ih =>
    obtain ⟨i, x⟩ := e
    rw [lowestFree] at hhi
    split at hhi
    case isTrue hik =>
      rw [tabGet]
      split
      · exact Option.some_ne_none x
      · exact ih (by omega) hhi
    case isFalse => exact absurd hhi (Nat.not_lt.mpr hlo)

theorem tabGet_lowestFree {α : Type} {t : List (Nat × α)} (hw : tabWf t = true) :
    tabGet t (lowestFree t 0) = none :=
  (lowestFree_none t 0 hw fun _ _ => Nat.zero_le _).1

/-- The lowest free index is the unlisted one below which every index is listed. -/
theorem lowestFree_eq {α : Type} {t : List (Nat × α)} {i : Nat} (hw : tabWf t = true)
    (hfree : tabGet t i = none) (hbelow : ∀ j < i, tabGet t j ≠ none) : lowestFree t 0 = i := by
  obtain hlt | heq | hgt := Nat.lt_trichotomy (lowestFree t 0) i
  · exact absurd (tabGet_lowestFree hw) (hbelow _ hlt)
  · exact heq
  · exact absurd hfree (tabGet_ne_none_of_lt_lowestFree (Nat.zero_le i) hgt)

theorem freeRecord_eq_some {α : Type} {t : List (Nat × α)} {size i : Nat} (hw : tabWf t = true)
    (hi : i < size) (hfree : tabGet t i = none) (hbelow : ∀ j < i, tabGet t j ≠ none) :
    freeRecord t size = some i := by
  rw [freeRecord, lowestFree_eq hw hfree hbelow, if_pos hi]

theorem freeRecord_eq_none {α : Type} {t : List (Nat × α)} {size : Nat} (hw : tabWf t = true)
    (hfull : ∀ i < size, tabGet t i ≠ none) : freeRecord t size = none :=
  if_neg fun hlt => hfull _ hlt (tabGet_lowestFree hw)

/-! ### The key of a modem (R32) -/

theorem modemIxIn_isSome_iff {key : Key} {t : List (Nat × Modem)} :
    (modemIxIn key t).isSome = true ↔ ∃ e ∈ t, e.2.key = key := by
  induction t with
  | nil => simp [modemIxIn]
  | cons e r ih =>
    rw [modemIxIn, List.exists_mem_cons_iff]
    split
    case isTrue hkey => exact iff_of_true rfl (.inl hkey)
    case isFalse hkey => rw [ih, or_iff_right hkey]

theorem modemIx_isSome_iff {s : State} {key : Key} :
    (s.modemIx key).isSome = true ↔ ∃ e ∈ s.store.modems, e.2.key = key :=
  modemIxIn_isSome_iff

theorem modemIx_not_isSome {s : State} {key : Key} (hnew : ∀ e ∈ s.store.modems, e.2.key ≠ key) :
    ¬ (s.modemIx key).isSome = true := by
  rw [modemIx_isSome_iff]
  exact fun ⟨e, he, hkey⟩ => hnew e he hkey

/-! ### The exchange of a command taken in READY (R166, R167, R177) -/

theorem answer_takeFrame {s : State} (h : s.port.slot = .ready) (code : Byte) (r : Reply) :
    s.takeFrame.answer code r = s.replied code r.result r.body := by
  simp [State.takeFrame, State.answer, State.shiftStatus, State.modPort, State.replied, h,
    slotAnswered]

theorem hostCommand_not_taken {s : State} {takenIn : Life → Bool} (h : s.port.slot = .ready)
    (hlife : takenIn s.life = false) (code : Byte) (run : State → State × Reply) :
    s.hostCommand code takenIn run = s.replied code .notServing [] := by
  have hanswer := answer_takeFrame h code (plain .notServing)
  simpa [State.hostCommand, h, hlife, plain] using hanswer

/-- A block that answers and makes of the taken frame what it makes of `t`: the exchange is that of
`t`. -/
theorem hostCommand_taken {s t : State} {takenIn : Life → Bool} {run : State → State × Reply}
    {result : ResultCode} {body : List Byte} (h : s.port.slot = .ready)
    (hlife : takenIn s.life = true) (ht : t.port.slot = .ready)
    (hrun : run s.takeFrame = (t.takeFrame, ⟨result, body⟩)) (code : Byte) :
    s.hostCommand code takenIn run = t.replied code result body := by
  have hanswer := answer_takeFrame ht code ⟨result, body⟩
  simpa [State.hostCommand, h, hlife, hrun] using hanswer

theorem inService_eq_true {l : Life} (h : l ≠ .start) : inService l = true :=
  bne_iff_ne.mpr h

theorem takeFrame_writeModem (s : State) (i : Nat) (m : Modem) :
    s.takeFrame.writeModem i m = (s.writeModem i m).takeFrame := rfl

/-! ### ADMIT MODEM past R167, one check at a time (R34) -/

section
variable (s : State) {key : Key} (single : Bool) (normal fallback : ProfileIx)

theorem admitModem_zero_key : s.admitModem 0 single normal fallback = (s, badField 3) := rfl

theorem admitModem_used_key (h0 : key ≠ 0) (hused : ∃ e ∈ s.store.modems, e.2.key = key) :
    s.admitModem key single normal fallback = (s, plain .duplicate) := by
  rw [State.admitModem, if_neg h0, if_pos (modemIx_isSome_iff.mpr hused)]

theorem admitModem_no_record (h0 : key ≠ 0) (hnew : ∀ e ∈ s.store.modems, e.2.key ≠ key)
    (hnone : freeRecord s.store.modems Config.modemRecords = none) :
    s.admitModem key single normal fallback = (s, plain .noRoom) := by
  rw [State.admitModem, if_neg h0, if_neg (modemIx_not_isSome hnew), hnone]

theorem admitModem_free_record (h0 : key ≠ 0) (hnew : ∀ e ∈ s.store.modems, e.2.key ≠ key) {i : Nat}
    (hsome : freeRecord s.store.modems Config.modemRecords = some i) :
    s.admitModem key single normal fallback =
      (s.writeModem i (newModem key single normal fallback), doneBody (be2 i)) := by
  rw [State.admitModem, if_neg h0, if_neg (modemIx_not_isSome hnew), hsome]

theorem newModem_profileInForce (key : Key) :
    (newModem key single normal fallback).profileInForce = normal := rfl

theorem exec_admitModem (key : Key) :
    exec (.admitModem key single normal fallback) s =
      .next (s.hostCommand 0x03 inService fun s => s.admitModem key single normal fallback) := rfl

end

theorem exec_admitModem_taken {s t : State} {key : Key} {single : Bool}
    {normal fallback : ProfileIx} {result : ResultCode} {body : List Byte}
    (h : s.port.slot = .ready) (hlife : s.life ≠ .start) (ht : t.port.slot = .ready)
    (hrun : s.takeFrame.admitModem key single normal fallback = (t.takeFrame, ⟨result, body⟩)) :
    exec (.admitModem key single normal fallback) s = .next (t.replied 0x03 result body) := by
  rw [exec_admitModem, hostCommand_taken h (inService_eq_true hlife) ht hrun]

/-- Settles O52: past the exchange each clause is one branch of ADMIT MODEM, and the record that the
search finds is the lowest FREE one because the table is canonical. -/
theorem admitModemFillsTheLowestRecord : Obligations.AdmitModemFillsTheLowestRecord := by
  unfold Obligations.AdmitModemFillsTheLowestRecord
  intro s key single normal fallback hready hwf
  refine ⟨fun hstart => ?start, fun hlife hzero => ?zero, fun hlife h0 hused => ?used,
    fun hlife h0 hnew => ⟨fun hfull => ?full, fun i hi hfree hbelow => ⟨?inForce, ?filled⟩⟩⟩
  case start => rw [exec_admitModem, hostCommand_not_taken hready (hstart ▸ rfl)]
  case zero =>
    subst hzero
    exact exec_admitModem_taken hready hlife hready
      (admitModem_zero_key s.takeFrame single normal fallback)
  case used =>
    exact exec_admitModem_taken hready hlife hready
      (admitModem_used_key s.takeFrame single normal fallback h0 hused)
  case full =>
    have hnone := freeRecord_eq_none hwf hfull
    exact exec_admitModem_taken hready hlife hready
      (admitModem_no_record s.takeFrame single normal fallback h0 hnew hnone)
  case inForce => exact newModem_profileInForce single normal fallback key
  case filled =>
    have hsome := freeRecord_eq_some hwf hi hfree hbelow
    have hrun := admitModem_free_record s.takeFrame single normal fallback h0 hnew hsome
    rw [takeFrame_writeModem] at hrun
    exact exec_admitModem_taken (t := s.writeModem i _) hready hlife hready hrun

end Sys2Proof.Machine
end

section
/-! SUPPORT. The bid counters of a channel, a bid record taken in LISTEN or SERVING; and the bid of an
ACTIVE cadence flow (04). -/

namespace Sys2Proof.Machine

/-! ### The bid counters of a channel -/

@[simp] theorem modBids_enabled (s : State) (c d : Chan) (g : BidCounters → BidCounters) :
    (s.modBids c g).enabled d = s.enabled d := rfl

@[simp] theorem modBids_flow (s : State) (c : Chan) (g : BidCounters → BidCounters) (tag : Tag) :
    (s.modBids c g).flow tag = s.flow tag := rfl

/-- Two counts of one channel are one change of its counters. -/
theorem modBids_modBids (s : State) (c : Chan) (g k : BidCounters → BidCounters) :
    (s.modBids c g).modBids c k = s.modBids c (k ∘ g) := by
  simp [State.modBids, State.modChan]

/-! ### A bid record past its checks (R13, R53) -/

theorem record_taken {s : State} (h : s.life ≠ .start) (take : State → State) :
    s.record take = take s := if_neg h

theorem exec_bidRecord_taken {s : State} (h : s.life ≠ .start) (r : BidRecord) :
    exec (.bidRecord r) s = .next (s.takeBid r) :=
  congrArg Host.Outcome.next (record_taken h _)

/-- A well-formed bid of a flow of this station is counted as taken and handled by R54. -/
theorem takeBid_of_flow {s : State} {r : BidRecord} {f : Flow} (hchan : s.enabled r.chan = true)
    (htag : r.tag ≠ 0) (hbytes : r.bytes ≠ 0) (hflow : s.flow r.tag = some f) :
    s.takeBid r =
      (s.modBids r.chan fun k => { k with taken := bump k.taken 1 }).bidForFlow f r.bytes.toNat
        r.chan := by
  have hwellFormed : (!s.enabled r.chan || r.tag == 0 || r.bytes == 0) = false := by
    rw [hchan, beq_false_of_ne htag, beq_false_of_ne hbytes]
    rfl
  simp only [State.takeBid, modBids_enabled, modBids_flow, hwellFormed, hflow, Bool.false_eq_true,
    if_false]

/-! ### R66 -/

/-- A cadence flow that does not sleep ignores a bid. -/
theorem bidForFlow_cadence_awake {f : Flow} (hcad : f.cadence.isSome = true)
    (hawake : f.state ≠ .sleep) (s : State) (b : Nat) (c : Chan) :
    s.bidForFlow f b c =
      s.modBids c fun k => { k with cadenceIgnored := bump k.cadenceIgnored 1 } := by
  obtain ⟨cad, hsome⟩ := Option.isSome_iff_exists.mp hcad
  simp only [State.bidForFlow, hsome, if_neg hawake]

/-- Settles O33: the record passes its checks, an ACTIVE flow does not sleep, and the two counts are one
change of the channel's bid counters. -/
theorem activeCadenceIgnoresBids : Obligations.ActiveCadenceIgnoresBids := by
  unfold Obligations.ActiveCadenceIgnoresBids
  intro s r f hlife hchan htag hbytes hflow hcad hactive
  have hawake : f.state ≠ .sleep := by simp [hactive]
  rw [exec_bidRecord_taken hlife, takeBid_of_flow hchan htag hbytes hflow,
    bidForFlow_cadence_awake hcad hawake, modBids_modBids]
  rfl

end Sys2Proof.Machine
end

section
/-! SUPPORT. CLEAR FAULTS and the fault ring (09). -/

namespace Sys2Proof.Machine

/-! ### CLEAR FAULTS past R167 (R156) -/

/-- Taking the frame writes the port and the status byte, and a change of the Health Monitor neither. -/
theorem takeFrame_modHealth (s : State) (g : Health → Health) :
    s.takeFrame.modHealth g = (s.modHealth g).takeFrame := rfl

theorem clearFaults_takeFrame (s : State) :
    s.takeFrame.clearFaults =
      ((s.modHealth fun h => { h with ring := [] }).takeFrame, plain .done) := by
  rw [State.clearFaults, takeFrame_modHealth]

theorem exec_clearFaults (s : State) :
    exec .clearFaults s = .next (s.hostCommand 0x0F inService fun s => s.clearFaults) := rfl

/-- Settles O60: the two life clauses are the two exchanges of a READY slot, and the block's own change,
the empty ring, passes the taking of the frame. -/
theorem clearFaultsEmptiesTheRing : Obligations.ClearFaultsEmptiesTheRing := by
  unfold Obligations.ClearFaultsEmptiesTheRing
  intro s hready
  refine ⟨fun hstart => ?start, fun hlife => ?inService⟩
  case start => rw [exec_clearFaults, hostCommand_not_taken hready (hstart ▸ rfl)]
  case inService =>
    have hcleared : (s.modHealth fun h => { h with ring := [] }).port.slot = .ready := hready
    rw [exec_clearFaults, hostCommand_taken hready (inService_eq_true hlife) hcleared
      (clearFaults_takeFrame s)]
    rfl

end Sys2Proof.Machine
end

section
/-! SUPPORT. What a step can do to the fields that the laws of Safety.lean read. A calm move takes
something out of the queues, lists and maps or adds one thing under the guard its rule sets; a move is a
calm one, a hand-over, an admission or removal, the beginning of a build, a placement or an entry to
LISTEN. A law kept by every move is kept by every step. -/

namespace Sys2Proof.Machine

-- One proof after another: side by side, as many as stand here need more threads than the check gives.
set_option Elab.async false

open Relation (ReflTransGen)

/-! ### Maps that come from maps (R72) -/

/-- The slots of an entry, which the layout of a map is about. -/
def Entry.span (e : Entry) : Nat × Nat := (e.start, e.len)

/-- The map with some entries taken out, and what is left marked but not moved. -/
structure TurnMap.From (m m0 : TurnMap) : Prop where
  name : m.name = m0.name
  spans : (m.entries.map Entry.span).Sublist (m0.entries.map Entry.span)

theorem TurnMap.From.refl (m : TurnMap) : m.From m := ⟨rfl, .refl _⟩

theorem TurnMap.From.trans {m m1 m2 : TurnMap} (h : m.From m1) (h' : m1.From m2) : m.From m2 :=
  ⟨h.name.trans h'.name, h.spans.trans h'.spans⟩

/-- Every map of `t` comes from one of `s`. -/
def MapsFrom (s t : State) : Prop := ∀ m ∈ t.maps, ∃ m0 ∈ s.maps, m.From m0

theorem MapsFrom.of_subset {s t : State} (h : t.maps ⊆ s.maps) : MapsFrom s t :=
  fun m hm => ⟨m, h hm, .refl m⟩

theorem MapsFrom.of_eq {s t : State} (h : t.maps = s.maps) : MapsFrom s t :=
  .of_subset (h ▸ List.Subset.refl _)

theorem MapsFrom.trans {s t u : State} (h : MapsFrom s t) (h' : MapsFrom t u) : MapsFrom s u := by
  intro m hm
  obtain ⟨m1, hm1, h1⟩ := h' m hm
  obtain ⟨m0, hm0, h0⟩ := h m1 hm1
  exact ⟨m0, hm0, h1.trans h0⟩

/-- The same change of every map of a station. -/
theorem MapsFrom.of_map {s t : State} (g : TurnMap → TurnMap) (hg : ∀ m, (g m).From m)
    (h : t.maps = s.maps.map g) : MapsFrom s t := by
  intro m hm
  rw [h, List.mem_map] at hm
  obtain ⟨m0, hm0, rfl⟩ := hm
  exact ⟨m0, hm0, hg m0⟩

/-! ### Nothing joins -/

/-- The tags that the walk of the build has still to visit in its class. -/
def State.visits (s : State) : List Tag :=
  match s.planner.building with
  | none => []
  | some b => b.phase.visits

/-- Nothing joins a queue, list or map, and the record in force stays. -/
structure Dwindles (s t : State) : Prop where
  life : t.life = s.life ∨ t.life = .serving := by simp
  timed : s.time.timed = true → t.time.timed = true := by simp
  accepted : t.accepted = s.accepted := by simp
  station : t.station = s.station := by simp
  roster : t.link.roster = s.link.roster := by simp
  ring : t.health.ring = s.health.ring ∨ t.health.ring = [] := by simp
  seq : t.health.seq = s.health.seq := by simp
  attention : t.port.attention.Sublist s.port.attention := by simp
  arrivals : t.port.arrivals.length ≤ s.port.arrivals.length := by simp
  queue : t.link.queue.Sublist s.link.queue := by simp
  holds : t.link.holds.Sublist s.link.holds := by simp
  requests : t.planner.requests.length ≤ s.planner.requests.length := by simp
  localHolds : t.planner.localHolds.length ≤ s.planner.localHolds.length := by simp
  handed : t.mapPort.queue.length ≤ s.mapPort.queue.length := by simp
  pendings : t.tracker.list.length ≤ s.tracker.list.length := by simp
  maps : MapsFrom s t := by exact MapsFrom.of_eq (by simp [State.maps])

/-- Besides, the store, the ready lists and the visits stay. -/
structure Wanes (s t : State) : Prop extends Dwindles s t where
  store : t.store = s.store := by simp
  ready : t.planner.ready = s.planner.ready := by simp
  visits : t.visits.Sublist s.visits := by simp [State.visits]

theorem Dwindles.trans {s t u : State} (h : Dwindles s t) (h' : Dwindles t u) : Dwindles s u where
  life := by
    obtain hl | hl := h'.life
    · rw [hl]
      exact h.life
    · exact .inr hl
  timed := h'.timed ∘ h.timed
  accepted := h'.accepted.trans h.accepted
  station := h'.station.trans h.station
  roster := h'.roster.trans h.roster
  ring := by
    obtain hr | hr := h'.ring
    · rw [hr]
      exact h.ring
    · exact .inr hr
  seq := h'.seq.trans h.seq
  attention := h'.attention.trans h.attention
  arrivals := h'.arrivals.trans h.arrivals
  queue := h'.queue.trans h.queue
  holds := h'.holds.trans h.holds
  requests := h'.requests.trans h.requests
  localHolds := h'.localHolds.trans h.localHolds
  handed := h'.handed.trans h.handed
  pendings := h'.pendings.trans h.pendings
  maps := h.maps.trans h'.maps

theorem Wanes.refl (s : State) : Wanes s s := {}

theorem Wanes.trans {s t u : State} (h : Wanes s t) (h' : Wanes t u) : Wanes s u where
  toDwindles := h.toDwindles.trans h'.toDwindles
  store := h'.store.trans h.store
  ready := h'.ready.trans h.ready
  visits := h'.visits.trans h.visits

theorem Wanes.foldl {α : Type} {g : State → α → State} (hg : ∀ s a, Wanes s (g s a)) (l : List α)
    (s : State) : Wanes s (l.foldl g s) := by
  induction l generalizing s with
  | nil => exact .refl s
  | cons a l ih => exact (hg s a).trans (ih _)

/-! ### Changes of one record -/

/-- A change of a flow record that opens no turn of it: no tag, class or bound changes. -/
structure FlowMove (f f' : Flow) : Prop where
  tag : f'.tag = f.tag := by rfl
  cls : f'.cls = f.cls := by rfl
  ceiling : f'.ceiling = f.ceiling := by rfl
  credit : f.credit ≤ f.ceiling → f'.credit ≤ f.ceiling := by exact id
  outstanding : f.outstanding ≤ 1048575 → f'.outstanding ≤ 1048575 := by exact id
  pendings : f'.pendingCount ≤ f.pendingCount := by exact Nat.le_refl _

/-- The thresholds R168 accepts, in the form the law of health has them. -/
def thresholdsOk (r : StartRecord) : Prop :=
  r.t1.toNat < 200 ∧ r.t2.toNat < 200 ∧ r.t3.toNat < 200 ∧ 1 ≤ r.recover.toNat

def modemBounds (m : Modem) : Prop :=
  m.presence ≤ 200 ∧ m.integrity ≤ 200 ∧ m.margin ≤ 200 ∧ m.trail.length ≤ 4 ∧ m.lifetime ≤ 65535

/-- A modem with a score at or below its threshold is DEGRADED (R147). -/
def modemHealthy (r : StartRecord) (m : Modem) : Prop := m.failing r = true → m.state = .degraded

/-- A change of a modem record that keeps its bounds and the law of health. -/
structure ModemMove (r : StartRecord) (m m' : Modem) : Prop where
  bounds : modemBounds m → modemBounds m'
  healthy : thresholdsOk r → modemHealthy r m → modemHealthy r m'

/-! ### Calm moves -/

/-- One thing joins a queue, a list, the fault ring or the roster, under the guard that its rule sets. -/
inductive Adds : State → State → Prop where
  | attend {s : State} (e : AttentionEntry) (hroom : s.port.attention.length < 64)
      (hnew : e.tag ∉ s.port.attention.map (·.tag)) :
      Adds s (s.modPort fun p => { p with attention := p.attention ++ [e] })
  | arrive {s : State} (e : ArrivalEntry) (hroom : s.port.arrivals.length < 32) :
      Adds s (s.modPort fun p => { p with arrivals := p.arrivals ++ [e] })
  | fault {s : State} (r : FaultRecord) (hseq : r.seq = s.health.seq) :
      Adds s (s.modHealth (·.append r))
  | hold {s : State} (h : SharedHold) (hjudge : s.judge h.key h.start h.stop = .stands) :
      Adds s (s.modLink fun l => { l with holds := l.holds ++ [h] })
  | notice {s : State} (q : Queued)
      (hone : isPresence q = true → s.link.queue.any isPresence = false) : Adds s (s.enqueue q)
  | request {s : State} (m : MapName) (hroom : s.planner.requests.length < 4) :
      Adds s (s.modPlanner fun p => { p with requests := p.requests ++ [m] })
  | peer {s : State} (k : StationNo) (e : RosterEntry) (hok : rosterEntryOk e)
      (hown : k = s.station → e = .absent) : Adds s (s.setRoster k e)

inductive Calm : State → State → Prop where
  | wane {s t : State} (h : Wanes s t) : Calm s t
  | adds {s t : State} (h : Adds s t) : Calm s t
  | flow {s : State} (tag : Tag) (g : Flow → Flow)
      (hg : ∀ f, s.flow tag = some f → FlowMove f (g f)) : Calm s (s.updFlow tag g)
  | record {s : State} {i : Nat} {f f' : Flow} (hf : tabGet s.store.flows i = some f)
      (hmove : FlowMove f f') : Calm s (s.updFlow f.tag fun _ => f')
  | orphan {s : State} (tag : Tag) : Calm s (s.orphanGone tag)
  | modem {s : State} {i : Nat} {m m' : Modem} (hm : s.modemAt i = some m)
      (hmove : ModemMove s.inForce m m') : Calm s (s.writeModem i m')
  | noModem {s : State} (i : Nat) : Calm s (s.freeModem i)

abbrev Calms : State → State → Prop := ReflTransGen Calm

/-- What a removal does to the tables and the ready lists, beside taking things out (R46). -/
structure Removes (s t : State) (tag : Tag) (ix : Nat) (f : Flow) : Prop extends Dwindles s t where
  named : s.flowIx tag = some ix ∧ s.flow tag = some f ∨ tabGet s.store.flows ix = some f ∧ f.tag = tag
  modems : t.store.modems = s.store.modems
  flows : t.store.flows = tabDel s.store.flows ix
  tagMap : t.store.tagMap = tabDel s.store.tagMap tag.toNat ∨
    ∃ n, t.store.tagMap = tabPut s.store.tagMap tag.toNat (.draining n)
  ready : t.planner.ready = s.planner.ready.set f.cls ((s.planner.ready.get f.cls).filter (· ≠ f.tag))
  visits : t.visits.Sublist (s.visits.filter (· ≠ f.tag))

/-- The record of an admission: nothing owed, within its bounds (R44, R45). -/
structure FreshFlow (f : Flow) : Prop where
  bytes : flowBytesOk f
  outstanding : f.outstanding = 0
  pendings : f.pendingCount = 0

inductive Move : State → State → Prop where
  | calm {s t : State} (h : Calm s t) : Move s t
  | hand {s t : State} (m : TurnMap) (h : Calms s t) (hroom : t.mapPort.queue.length < 4)
      (hm : ∃ m0 ∈ s.maps, m.From m0) :
      Move s { t with mapPort := { t.mapPort with queue := t.mapPort.queue ++ [m] } }
  | begin {s : State} (b : Build) (hentries : b.map.entries = []) (hvisits : b.phase.visits = []) :
      Move s (s.modPlanner fun p => { p with building := some b })
  | place {s : State} : Move s s.placeOne
  | enrol {s : State} {i : Nat} (key : Key) (single : Bool) (normal fallback : ProfileIx)
      (hlife : s.life ≠ .start) (hfree : freeRecord s.store.modems Config.modemRecords = some i) :
      Move s (s.writeModem i (newModem key single normal fallback))
  | bind {s : State} {ix : Nat} {f : Flow} (hfresh : FreshFlow f) (htag : s.tagState f.tag = none)
      (hfree : freeRecord s.store.flows Config.flowRecords = some ix) :
      Move s (s.modStore fun st =>
        { st with flows := tabPut st.flows ix f, tagMap := tabPut st.tagMap f.tag.toNat (.bound ix) })
  | remove {s t : State} {tag : Tag} {ix : Nat} {f : Flow} (h : Removes s t tag ix f) : Move s t
  | accept {s : State} {r : StartRecord} (hlife : s.life = .start) (hok : thresholdsOk r) :
      Move s { s with accepted := some r }
  | listen {s : State} {r : StartRecord} (hlife : s.life = .start)
      (haccepted : s.accepted = some r ∨ thresholdsOk r) :
      Move s { s with life := .listen, accepted := some r }

abbrev Moves : State → State → Prop := ReflTransGen Move

theorem Calms.trans {s t u : State} (h : Calms s t) (h' : Calms t u) : Calms s u :=
  ReflTransGen.trans h h'

theorem Moves.trans {s t u : State} (h : Moves s t) (h' : Moves t u) : Moves s u :=
  ReflTransGen.trans h h'

theorem Wanes.calms {s t : State} (h : Wanes s t) : Calms s t := .single (.wane h)

theorem Calm.calms {s t : State} (h : Calm s t) : Calms s t := .single h

theorem Adds.calms {s t : State} (h : Adds s t) : Calms s t := .single (.adds h)

theorem Move.moves {s t : State} (h : Move s t) : Moves s t := .single h

theorem Calms.moves {s t : State} (h : Calms s t) : Moves s t := ReflTransGen.mono (fun _ _ => .calm) _ _ h

/-- One calm thing after another. -/
theorem Calms.foldl {α : Type} {g : State → α → State} (hg : ∀ s a, Calms s (g s a)) (l : List α)
    (s : State) : Calms s (l.foldl g s) := by
  induction l generalizing s with
  | nil => exact .refl
  | cons a l ih => exact (hg s a).trans (ih _)

theorem Moves.foldl {α : Type} {g : State → α → State} (hg : ∀ s a, Moves s (g s a)) (l : List α)
    (s : State) : Moves s (l.foldl g s) := by
  induction l generalizing s with
  | nil => exact .refl
  | cons a l ih => exact (hg s a).trans (ih _)

end Sys2Proof.Machine
end

section
/-! SUPPORT. The shared operations of the blocks are calm moves: counters, the flow store, the link, the
Health Monitor, Bid Intake and the withdrawal of turns. -/

namespace Sys2Proof.Machine

-- One proof after another: side by side, as many as stand here need more threads than the check gives.
set_option Elab.async false

open Relation (ReflTransGen)

/-! ### Free choices and counters -/

theorem draw_eq {α : Type} {s t : State} {l : List α} {d : α} (h : s.draw l = some (d, t)) :
    d ∈ l ∧ ∃ n, t = { s with free := n } := by
  unfold State.draw at h
  split at h
  · cases h
  · cases h
    exact ⟨List.mem_singleton_self _, s.free, rfl⟩
  · cases h
    refine ⟨?_, _, rfl⟩
    have hlt (k : Nat) {a b : α} {r : List α} : k % (r.length + 2) < (a :: b :: r).length :=
      Nat.mod_lt _ (Nat.succ_pos _)
    rw [List.getD_eq_getElem _ _ (hlt _)]
    exact List.getElem_mem _

theorem draw_calms {α : Type} {s t : State} {l : List α} {d : α} (h : s.draw l = some (d, t)) :
    Calms s t := by
  obtain ⟨-, n, rfl⟩ := draw_eq h
  exact Wanes.calms {}

theorem order_eq {α : Type} (n : Nat) (l : List α) (s : State) :
    ∃ k, (State.order n l s).2 = { s with free := k } := by
  induction n generalizing l s with
  | zero => exact ⟨s.free, rfl⟩
  | succ n ih =>
    match l with
    | [] => exact ⟨s.free, rfl⟩
    | [_] => exact ⟨s.free, rfl⟩
    | a :: b :: r =>
      obtain ⟨k, hk⟩ := ih ((a :: b :: r).eraseIdx (Config.freeChoice s.free % (r.length + 2)))
        { s with free := s.free + 1 }
      exact ⟨k, hk⟩

theorem order_calms {α : Type} (n : Nat) (l : List α) (s : State) :
    Calms s (State.order n l s).2 := by
  obtain ⟨k, hk⟩ := order_eq n l s
  rw [hk]
  exact Wanes.calms {}

section
variable (s : State) (c : Chan)

theorem modChan_calms (g : Channel → Channel) : Calms s (s.modChan c g) := Wanes.calms {}

theorem modBids_calms (g : BidCounters → BidCounters) : Calms s (s.modBids c g) := Wanes.calms {}

theorem modMaps_calms (g : MapCounters → MapCounters) : Calms s (s.modMaps c g) := Wanes.calms {}

theorem modCadence_calms (g : CadenceCounters → CadenceCounters) : Calms s (s.modCadence c g) :=
  Wanes.calms {}

theorem modOutcomes_calms (g : OutcomeCounters → OutcomeCounters) : Calms s (s.modOutcomes c g) :=
  Wanes.calms {}

theorem modLinkCounters_calms (g : LinkCounters → LinkCounters) : Calms s (s.modLinkCounters g) :=
  Wanes.calms {}

theorem modSweep_calms (g : Sweep → Sweep) : Calms s (s.modSweep g) := Wanes.calms {}

theorem raise_calms (e : Cause) : Calms s (s.raise e) := Wanes.calms {}

end

theorem modTime_calms (s : State) {g : TimeUnit → TimeUnit} (h : (g s.time).timed = s.time.timed) :
    Calms s (s.modTime g) := Wanes.calms { timed := fun ht => h.trans ht }

/-- A change of the port that leaves its two queues. -/
theorem modPort_calms (s : State) {g : Port → Port} (ha : (g s.port).attention = s.port.attention)
    (hr : (g s.port).arrivals = s.port.arrivals) : Calms s (s.modPort g) :=
  Wanes.calms { attention := by simp [ha], arrivals := by simp [hr] }

/-- A change of the link that leaves its queue, holds and roster. -/
theorem modLink_calms (s : State) {g : Link → Link} (hq : (g s.link).queue.Sublist s.link.queue)
    (hh : (g s.link).holds.Sublist s.link.holds) (hr : (g s.link).roster = s.link.roster) :
    Calms s (s.modLink g) :=
  Wanes.calms { queue := hq, holds := hh, roster := hr }

theorem modTracker_calms (s : State) {g : Tracker → Tracker}
    (h : (g s.tracker).list.length ≤ s.tracker.list.length) : Calms s (s.modTracker g) :=
  Wanes.calms { pendings := h }

theorem modHealth_calms (s : State) {g : Health → Health} (hring : (g s.health).ring = s.health.ring)
    (hseq : (g s.health).seq = s.health.seq) : Calms s (s.modHealth g) :=
  Wanes.calms { ring := .inl hring, seq := hseq }

/-- The list of requests or of local holds loses entries. -/
theorem modPlanner_calms (s : State) {g : Planner → Planner}
    (hr : (g s.planner).requests.length ≤ s.planner.requests.length)
    (hl : (g s.planner).localHolds.length ≤ s.planner.localHolds.length)
    (hb : (g s.planner).building = s.planner.building)
    (hs : (g s.planner).sealing = s.planner.sealing)
    (hready : (g s.planner).ready = s.planner.ready) : Calms s (s.modPlanner g) :=
  Wanes.calms
    { requests := hr, localHolds := hl, ready := hready
      maps := MapsFrom.of_eq (by simp [State.maps, hb, hs])
      visits := by simp [State.visits, hb] }

/-! ### The flow store -/

theorem updFlow_calms (s : State) (tag : Tag) {g : Flow → Flow} (hg : ∀ f, FlowMove f (g f)) :
    Calms s (s.updFlow tag g) := (Calm.flow tag g fun f _ => hg f).calms

theorem dropLocalHold_calms (s : State) (t : TurnKey) : Calms s (s.dropLocalHold t) :=
  modPlanner_calms s (Nat.le_refl _) (List.length_filter_le _ _) rfl rfl rfl

theorem dropPending_calms (s : State) (t : TurnKey) : Calms s (s.dropPending t) :=
  modTracker_calms s (List.length_filter_le _ _)

theorem erasePending_calms (s : State) (e : PendingEntry) : Calms s (s.erasePending e) :=
  modTracker_calms s List.length_erase_le

theorem orphanGone_calms (s : State) (tag : Tag) : Calms s (s.orphanGone tag) :=
  (Calm.orphan tag).calms

theorem offerAttention_calms (s : State) (tag : Tag) (reason : AttentionReason) :
    Calms s (s.offerAttention tag reason) := by
  unfold State.offerAttention
  split
  · exact modPort_calms s rfl rfl
  · rename_i hnew
    split
    · exact modPort_calms s rfl rfl
    · rename_i hroom
      refine (Adds.attend ⟨tag, reason⟩ (Nat.lt_of_not_le hroom) ?_).calms.trans (raise_calms _ _)
      simpa using hnew

/-! ### The Health Monitor (09) -/

theorem faultRecord_seq (s : State) (kind : FaultKind) (key : Key) (tag : Tag)
    (found : Option Modem) : (s.faultRecord kind key tag found).seq = s.health.seq := by
  cases found <;> rfl

theorem faulted_move (r : StartRecord) (m : Modem) : ModemMove r m m.faulted where
  bounds := fun ⟨hp, hi, hm, ht, _⟩ => ⟨hp, hi, hm, ht, Nat.min_le_right _ _⟩
  healthy := fun _ h => h

theorem appendFault_calms (s : State) (kind : FaultKind) (key : Key) (tag : Tag) :
    Calms s (s.appendFault kind key tag) := by
  have happend (found : Option Modem) :
      Calms s (s.modHealth (·.append (s.faultRecord kind key tag found))) :=
    (Adds.fault _ (faultRecord_seq s kind key tag found)).calms
  unfold State.appendFault
  split
  · split
    · rename_i m hm
      exact (happend (some m)).tail (.modem (m := m) hm (faulted_move _ m))
    · exact happend none
  · exact happend none

/-- The scores after an outcome lie within 0 to 200 (R146). -/
theorem scored_bounds {m : Modem} (o : TurnOutcome) (floor : BitVec 6) (h : modemBounds m) :
    modemBounds (m.scored o floor) := by
  have hrise (n : Nat) : rise n ≤ 200 := Nat.min_le_right _ _
  have hfall {n : Nat} (k : Nat) (hn : n ≤ 200) : fall n k ≤ 200 := (Nat.sub_le n k).trans hn
  obtain ⟨hp, hi, hm, ht, hl⟩ := h
  unfold Modem.scored
  dsimp only
  split
  · refine ⟨hrise _, ?_, ?_, ht, hl⟩
    · split
      · exact hrise _
      · exact hfall _ hi
    · change (if _ then fall m.margin 4 else rise m.margin) ≤ 200
      split
      · exact hfall _ hm
      · exact hrise _
  · split
    · exact ⟨hp, hi, hm, ht, hl⟩
    · exact ⟨hfall _ hp, hi, hm, ht, hl⟩
  · refine ⟨hrise _, hfall _ hi, ?_, ht, hl⟩
    split
    · exact hfall _ hm
    · exact hm
  · exact ⟨hp, hi, hm, ht, hl⟩

theorem trailed_bounds {m : Modem} (o : TurnOutcome) (h : modemBounds m) :
    modemBounds (m.trailed o) := by
  obtain ⟨hp, hi, hm, ht, hl⟩ := h
  refine ⟨hp, hi, hm, ?_, hl⟩
  unfold Modem.trailed Config.trailEntries
  dsimp only
  split <;> simp <;> omega

theorem trailed_move (r : StartRecord) (m : Modem) (o : TurnOutcome) : ModemMove r m (m.trailed o) :=
  ⟨trailed_bounds o, fun _ h => h⟩

/-- At or above every recovery level no score is at or below its threshold (R144, R148). -/
theorem not_failing_of_recovered {r : StartRecord} {m : Modem} (hr : thresholdsOk r)
    (h : m.recovered r = true) : m.failing r = false := by
  obtain ⟨h1, h2, h3, h4⟩ := hr
  have habove {t n : Nat} (ht : t < 200) (hn : min 200 (t + r.recover.toNat) ≤ n) : ¬ n ≤ t := by
    omega
  simp only [Modem.recovered, Bool.and_eq_true, decide_eq_true_eq] at h
  obtain ⟨⟨hp, hi⟩, hm⟩ := h
  simp only [Modem.failing, Bool.or_eq_false_iff, decide_eq_false_iff_not]
  exact ⟨⟨habove h1 hp, habove h2 hi⟩, habove h3 hm⟩

/-- What taking a scored outcome makes of the modem record. -/
theorem scored_move {r : StartRecord} {m m' : Modem} {o : TurnOutcome}
    {floor : BitVec 6} (st : ModemState) (hm : m' = (m.scored o floor).trailed o)
    (hst : thresholdsOk r → modemHealthy r { m' with state := st }) :
    ModemMove r m { m' with state := st } where
  bounds := fun h => by
    have hbounds : modemBounds m' := hm ▸ trailed_bounds o (scored_bounds o floor h)
    exact hbounds
  healthy := fun hr _ => hst hr

/-- The transition's changes of the monitor and the port, once the record is written (R149). -/
theorem transition_calms {s : State} {i : Nat} {m0 : Modem} (h0 : s.modemAt i = some m0)
    (o : TurnOutcome) {m' : Modem} (hm : m' = (m0.scored o s.inForce.floor).trailed o)
    (g : Health → Health) (hg : ∀ h, (g h).ring = h.ring ∧ (g h).seq = h.seq) :
    Calms s (((s.writeModem i m').modHealth g).transition i m' o) := by
  have hwritten (st : ModemState) (hst : thresholdsOk s.inForce → modemHealthy s.inForce
      { m' with state := st }) : Calms s ((s.writeModem i { m' with state := st }).modHealth g) :=
    (Calm.modem h0 (scored_move st hm hst)).calms.trans
      (modHealth_calms _ (hg _).1 (hg _).2)
  have hagain (st : ModemState) : ((s.writeModem i m').modHealth g).writeModem i
      { m' with state := st } = (s.writeModem i { m' with state := st }).modHealth g := by
    simp [State.writeModem, State.modHealth, State.modStore]
  unfold State.transition
  split
  · rename_i hactive
    split
    · rename_i hfailing
      rw [hagain]
      refine (hwritten .degraded fun _ _ => rfl).trans ?_
      exact ((modHealth_calms _ rfl rfl).trans (appendFault_calms _ _ _ _)).trans (raise_calms _ _)
    · rename_i hnot
      have hsame : m' = { m' with state := m'.state } := rfl
      rw [hsame]
      exact hwritten m'.state fun _ hf => absurd hf hnot
  · rename_i hdegraded
    split
    · rename_i hrecovered
      rw [hagain]
      refine (hwritten .active fun hr hf => ?_).trans ?_
      · exact absurd hf (by
          rw [Bool.not_eq_true]
          exact not_failing_of_recovered (m := { m' with state := .active }) hr hrecovered)
      · exact ((modHealth_calms _ rfl rfl).trans (appendFault_calms _ _ _ _)).trans (raise_calms _ _)
    · have hsame : m' = { m' with state := m'.state } := rfl
      rw [hsame]
      exact hwritten m'.state fun _ _ => hdegraded

theorem takeOutcome_calms (s : State) (i : Nat) (key : Key) (o : TurnOutcome) :
    Calms s (s.takeOutcome i key o) := by
  unfold State.takeOutcome
  split
  · exact .refl
  · rename_i m hm
    split
    · exact .refl
    · split
      · exact (Calm.modem hm (trailed_move _ m o)).calms.trans (modHealth_calms _ rfl rfl)
      · exact transition_calms hm o rfl _ fun _ => ⟨rfl, rfl⟩

/-! ### The link (07) -/

theorem enqueue_calms (s : State) {q : Queued} (h : isPresence q = false) : Calms s (s.enqueue q) :=
  (Adds.notice q fun hp => by rw [h] at hp; cases hp).calms

theorem removeQueued_calms (s : State) (gone : Queued → Bool) : Calms s (s.removeQueued gone) :=
  modLink_calms s List.filter_sublist (.refl _) rfl

theorem markWithdrawn_calms (s : State) (t : TurnKey) : Calms s (s.markWithdrawn t) :=
  modLink_calms s (.refl _) (.refl _) rfl

theorem queueBid_calms (s : State) (tag : Tag) (b : Nat) (c : Chan) :
    Calms s (s.queueBid tag b c) := by
  unfold State.queueBid
  split
  · exact modBids_calms s c _
  · exact enqueue_calms s rfl

theorem queueGive_calms (s : State) (tag : Tag) (b : Nat) : Calms s (s.queueGive tag b) := by
  unfold State.queueGive
  split
  · exact modLinkCounters_calms s _
  · exact enqueue_calms s rfl

theorem queuePresence_calms (s : State) : Calms s s.queuePresence := by
  unfold State.queuePresence
  split
  · exact .refl
  · rename_i hnone
    split
    · exact modLinkCounters_calms s _
    · exact (Adds.notice _ fun _ => Bool.not_eq_true _ ▸ hnone).calms

/-- Outstanding bytes are held at 1,048,575 (R36). -/
theorem saturate_le (n : Nat) : saturate n ≤ 1048575 := Nat.min_le_right _ _

theorem addHeard_calms (s : State) (tag : Tag) (b : Nat) : Calms s (s.addHeard tag b) := by
  unfold State.addHeard
  split
  · exact .refl
  · exact (updFlow_calms s tag fun _ => { outstanding := fun _ => saturate_le _ }).trans
      (modLinkCounters_calms _ _)

theorem addIdleBytes_calms (s : State) (b : Nat) : Calms s (s.addIdleBytes b) := modSweep_calms s _

theorem giveBack_calms (s : State) (tag : Tag) (b : Nat) : Calms s (s.giveBack tag b) := by
  unfold State.giveBack
  split
  · exact .refl
  · split
    · exact (queueGive_calms s tag b).trans (addIdleBytes_calms _ b)
    · exact (queueGive_calms s tag b).trans (addHeard_calms _ tag b)

/-- Every map keeps its name and, but for entries taken out, its slots. -/
theorem wanes_of_maps (s : State) {t : State} (g : TurnMap → TurnMap)
    (hg : ∀ m, (g m).From m)
    (h : t = { s with
      planner := { s.planner with
        building := s.planner.building.map fun b => { b with map := g b.map }
        sealing := s.planner.sealing.map g }
      mapPort := { s.mapPort with
        queue := s.mapPort.queue.map g
        delivered := s.mapPort.delivered.map g } }) : Wanes s t := by
  subst h
  refine { maps := MapsFrom.of_map g hg ?_, visits := ?_ }
  · cases hb : s.planner.building <;> simp [State.maps, hb]
  · cases hb : s.planner.building <;> simp [State.visits, hb]

theorem setFate_from (m : TurnMap) (t : TurnKey) (fate : Fate) : (m.setFate t fate).From m := by
  unfold TurnMap.setFate
  split
  · refine ⟨rfl, ?_⟩
    have hspan : (fun e : Entry => (if e.start = t.slot then e.withFate fate else e).span) =
        Entry.span := by
      funext e
      split <;> rfl
    simp only [List.map_map, Function.comp_def, hspan]
    exact .refl _
  · exact .refl m

theorem setFate_calms (s : State) (t : TurnKey) (fate : Fate) : Calms s (s.setFate t fate) :=
  (wanes_of_maps s (·.setFate t fate) (setFate_from · t fate) rfl).calms

theorem setLinkedFate_calms (s : State) (t : Option TurnKey) (fate : Fate) :
    Calms s (s.setLinkedFate t fate) := by
  unfold State.setLinkedFate
  split
  · exact setFate_calms s _ fate
  · exact .refl

theorem judge_stands {s : State} {key : Key} {a z : Tick} (h : s.judge key a z = .stands) :
    s.link.holds.any (fun x => x.key == key && overlaps a z x.start x.stop) = false ∧
      s.link.holds.length < 256 := by
  unfold State.judge at h
  split at h
  · cases h
  · rename_i hover
    split at h
    · cases h
    · rename_i hroom
      exact ⟨Bool.not_eq_true _ ▸ hover, Nat.lt_of_not_le hroom⟩

theorem applyVerdict_calms (s : State) (h : SharedHold) :
    Calms s (s.applyVerdict (s.judge h.key h.start h.stop) h) := by
  unfold State.applyVerdict
  split
  · rename_i hstands
    refine Calms.trans ?_ (modLinkCounters_calms _ _)
    split
    · exact (Adds.hold h hstands).calms
    · exact .refl
  · exact modLinkCounters_calms s _
  · exact modLinkCounters_calms s _

theorem refreshRoster_calms (s : State) {k : StationNo} (n : Notice) (hk : k ≠ s.station) :
    Calms s (s.refreshRoster k n) := by
  unfold State.refreshRoster
  dsimp only
  have hset (a : Announced) (t : Tick) : Calms s (s.setRoster k ⟨true, a, some t⟩) :=
    (Adds.peer k _ (by simp [rosterEntryOk]) fun h => absurd h hk).calms
  split
  · exact hset _ _
  · exact (hset _ _).trans (raise_calms _ _)

theorem markAbsent_calms (s : State) (k : StationNo) : Calms s (s.markAbsent k) :=
  (Adds.peer k .absent (by simp [rosterEntryOk, RosterEntry.absent]) fun _ => rfl).calms.trans (raise_calms _ _)

/-! ### Bid Intake (04) -/

theorem addBid_calms (s : State) (tag : Tag) (b : Nat) (c : Chan) : Calms s (s.addBid tag b c) := by
  unfold State.addBid
  split
  · exact .refl
  · have hadded (g : BidCounters → BidCounters) : Calms s
        ((s.updFlow tag fun f => { f with outstanding := saturate (f.outstanding + b) }).modBids
          c g) :=
      (updFlow_calms s tag fun _ => { outstanding := fun _ => saturate_le _ }).trans
        (modBids_calms _ c g)
    dsimp only
    split
    · exact (hadded _).trans (queueBid_calms _ tag b c)
    · exact hadded _

theorem applyDeferred_calms (s : State) (tag : Tag) : Calms s (s.applyDeferred tag) := by
  unfold State.applyDeferred
  split
  · exact .refl
  · split
    · exact .refl
    · exact ((updFlow_calms s tag fun _ => {}).trans (addBid_calms _ tag _ _)).trans
        (modBids_calms _ _ _)

theorem deferredAtZero_calms (s : State) (tag : Tag) : Calms s (s.deferredAtZero tag) := by
  unfold State.deferredAtZero
  split
  · exact .refl
  · split
    · exact applyDeferred_calms s tag
    · exact .refl

theorem lowerPending_calms (s : State) (tag : Tag) : Calms s (s.lowerPending tag) :=
  updFlow_calms s tag fun _ => { pendings := Nat.sub_le _ _ }

theorem bidApplied_calms (s : State) (tag : Tag) (b : Nat) (c : Chan) :
    Calms s (s.bidApplied tag b c) :=
  ((updFlow_calms s tag fun _ => {}).trans (addBid_calms _ tag b c)).trans (modBids_calms _ c _)

theorem bidDeferred_calms (s : State) (tag : Tag) (b : Nat) (c : Chan) (held : Bool) :
    Calms s (s.bidDeferred tag b c held) :=
  (updFlow_calms s tag fun _ => {}).trans (modBids_calms _ c _)

theorem bidDormant_calms (s : State) (tag : Tag) (c : Chan) : Calms s (s.bidDormant tag c) :=
  (modBids_calms s c _).trans (offerAttention_calms _ tag _)

theorem bidWakes_calms (s : State) (tag : Tag) (cad : Cadence) (c : Chan) :
    Calms s (s.bidWakes tag cad c) :=
  (updFlow_calms s tag fun _ => {}).trans (modBids_calms _ c _)

theorem bidForFlow_calms (s : State) (f : Flow) (b : Nat) (c : Chan) :
    Calms s (s.bidForFlow f b c) := by
  unfold State.bidForFlow
  split
  · split
    · exact bidWakes_calms s f.tag _ c
    · exact modBids_calms s c _
  · split
    · exact bidDormant_calms s f.tag c
    · split
      · exact bidApplied_calms s f.tag b c
      · split
        · exact modBids_calms s c _
        · exact bidDeferred_calms s f.tag b c _

theorem discardRecord_calms (s : State) : Calms s s.discardRecord := modPort_calms s rfl rfl

theorem takeBid_calms (s : State) (r : BidRecord) : Calms s (s.takeBid r) := by
  unfold State.takeBid
  dsimp only
  refine (modBids_calms s r.chan fun k => { k with taken := bump k.taken 1 }).trans ?_
  split
  · exact modBids_calms _ r.chan _
  · split
    · exact modBids_calms _ r.chan _
    · exact bidForFlow_calms _ _ _ r.chan

theorem tailDropped_calms (s : State) (c : Chan) : Calms s (s.tailDropped c) := modBids_calms s c _

theorem tailForFlow_calms (s : State) (f : Flow) (b : Nat) (c : Chan) :
    Calms s (s.tailForFlow f b c) := by
  unfold State.tailForFlow
  split
  · exact (tailDropped_calms s c).trans (modBids_calms _ c _)
  · split
    · exact (tailDropped_calms s c).trans (bidDormant_calms _ f.tag c)
    · exact (addBid_calms s f.tag b c).trans (modBids_calms _ c _)

/-! ### Withdrawal (05, 5.5) -/

theorem withdrawTake_calms (s : State) (t : TurnKey) (fate : Fate) :
    Calms s (s.withdrawTake t fate) := by
  unfold State.withdrawTake
  split
  · exact removeQueued_calms s _
  · exact markWithdrawn_calms s t
  · exact .refl

theorem returnBytes_calms (s : State) (t : TurnKey) (f : Flow) (e : Entry) :
    Calms s (s.returnBytes t f e) := by
  unfold State.returnBytes
  split
  · split
    · exact addIdleBytes_calms s _
    · exact (updFlow_calms s e.tag fun _ => { outstanding := fun _ => saturate_le _ }).trans
        (modBids_calms _ t.chan _)
  · exact (withdrawTake_calms s t _).trans (updFlow_calms _ e.tag fun _ => {})
  · exact withdrawTake_calms s t _
  · exact giveBack_calms s e.tag e.bytes
  · exact .refl

theorem unpend_calms (s : State) (t : TurnKey) (tag : Tag) : Calms s (s.unpend t tag) := by
  unfold State.unpend
  split
  · exact ((dropPending_calms s t).trans (lowerPending_calms _ tag)).trans
      (deferredAtZero_calms _ tag)
  · exact .refl

/-- Credit given back is held at the ceiling (R30). -/
theorem refund_move (f : Flow) (b : Nat) : FlowMove f (f.refund b) := by
  unfold Flow.refund
  split
  · exact {}
  · exact { credit := fun _ => Nat.min_le_left _ _ }

theorem withdrawData_calms (s : State) (t : TurnKey) (e : Entry) : Calms s (s.withdrawData t e) := by
  unfold State.withdrawData
  dsimp only
  have hrefund : Calms (s.unpend t e.tag) ((s.unpend t e.tag).updFlow e.tag (·.refund e.bytes)) :=
    updFlow_calms _ e.tag fun f => refund_move f e.bytes
  refine ((unpend_calms s t e.tag).trans hrefund).trans ?_
  refine Calms.trans ?_ (dropLocalHold_calms _ t)
  split
  · exact .refl
  · exact returnBytes_calms _ t _ e

theorem owedAgain_move (f : Flow) : FlowMove f f.owedAgain := {}

theorem withdrawCadence_calms (s : State) (t : TurnKey) (e : Entry) (late : Bool) :
    Calms s (s.withdrawCadence t e late) := by
  have hunpended : Calms s
      (if (s.pendingEntry t).isSome then (s.dropPending t).lowerPending e.tag else s) := by
    split
    · exact (dropPending_calms s t).trans (lowerPending_calms _ e.tag)
    · exact .refl
  unfold State.withdrawCadence
  dsimp only
  refine ((hunpended.trans (dropLocalHold_calms _ t)).trans (withdrawTake_calms _ t e.fate)).trans ?_
  cases late
  case true =>
    rw [if_pos rfl]
    exact modCadence_calms _ t.chan _
  case false => exact updFlow_calms _ e.tag fun f => owedAgain_move f

theorem withdrawOrphan_calms (s : State) (t : TurnKey) (e : Entry) :
    Calms s (s.withdrawOrphan t e) := by
  have hunpended : Calms s
      (if (s.pendingEntry t).isSome then (s.dropPending t).orphanGone e.tag else s) := by
    split
    · exact (dropPending_calms s t).trans (orphanGone_calms _ e.tag)
    · exact .refl
  exact (hunpended.trans (dropLocalHold_calms _ t)).trans (withdrawTake_calms _ t e.fate)

theorem withdrawTurn_calms (s : State) (m : MapName) (e : Entry) (late : Bool) :
    Calms s (s.withdrawTurn m e late) := by
  unfold State.withdrawTurn
  split
  · split
    · exact withdrawOrphan_calms s _ e
    · exact withdrawData_calms s _ e
  · split
    · exact withdrawOrphan_calms s _ e
    · exact withdrawCadence_calms s _ e late
  · exact .refl
  · exact .refl

theorem withdrawAll_calms (s : State) (m : MapName) (late : Bool) (es : List Entry) :
    Calms s (s.withdrawAll m late es) :=
  Calms.foldl (fun s e => withdrawTurn_calms s m e late) es s

theorem discardLate_calms (s : State) (m : TurnMap) : Calms s (s.discardLate m) :=
  ((modMaps_calms s m.name.chan _).trans (raise_calms _ _)).trans (withdrawAll_calms _ m.name true _)

end Sys2Proof.Machine
end

section
/-! SUPPORT. Hand-overs, removals, the deadlines, the planner's build, what is heard and what the sweep
does are moves. -/

namespace Sys2Proof.Machine

-- One proof after another: side by side, as many as stand here need more threads than the check gives.
set_option Elab.async false

open Relation (ReflTransGen)

/-! ### Hand-over (05, 5.4) -/

/-- A map of the station, with calm things happening to it and before it: its hand-over is a move. -/
theorem handOver_moves {s t : State} {m : TurnMap} (h : Calms s t) (hm : ∃ m0 ∈ s.maps, m.From m0) :
    Moves s (t.handOver m) := by
  unfold State.handOver
  split
  · rename_i hroom
    exact (Move.hand m h hroom hm).moves.trans (modMaps_calms _ _ _).moves
  · exact (h.trans (discardLate_calms t m)).moves

theorem filter_from (m : TurnMap) (p : Entry → Bool) :
    TurnMap.From { m with entries := m.entries.filter p } m :=
  ⟨rfl, List.filter_sublist.map _⟩

theorem sealAtDeadline_moves {s t : State} {m : TurnMap} (h : Calms s t)
    (hm : ∃ m0 ∈ s.maps, m.From m0) : Moves s (t.sealAtDeadline m) := by
  unfold State.sealAtDeadline
  obtain ⟨m0, hm0, hfrom⟩ := hm
  exact handOver_moves ((h.trans (order_calms _ _ _)).trans (withdrawAll_calms _ _ _ _))
    ⟨m0, hm0, (filter_from m _).trans hfrom⟩

theorem mem_maps_of_building {s : State} {b : Build} (h : s.planner.building = some b) :
    b.map ∈ s.maps := by
  simp [State.maps, h]

theorem mem_maps_of_sealing {s : State} {m : TurnMap} (h : m ∈ s.planner.sealing) : m ∈ s.maps := by
  simp [State.maps, h]

/-- SEALING maps leave their list. -/
theorem filterSealing_wanes (s : State) (p : TurnMap → Bool) :
    Wanes s (s.modPlanner fun pl => { pl with sealing := pl.sealing.filter p }) where
  maps := MapsFrom.of_subset fun m hm => by
    simp only [State.maps, modPlanner_planner, modPlanner_mapPort, List.mem_append,
      List.mem_filter] at hm ⊢
    obtain ((hb | ⟨hs, -⟩) | hq) | hd := hm
    · exact .inl (.inl (.inl hb))
    · exact .inl (.inl (.inr hs))
    · exact .inl (.inr hq)
    · exact .inr hd

theorem handIfSettled_moves (s : State) (name : MapName) : Moves s (s.handIfSettled name) := by
  unfold State.handIfSettled
  split
  · exact .refl
  · rename_i m hfound
    split
    · have hm := mem_maps_of_sealing (List.mem_of_find?_eq_some hfound)
      exact handOver_moves (filterSealing_wanes s _).calms ⟨m, hm, .refl m⟩
    · exact .refl

theorem handAll_moves (s : State) (names : List MapName) : Moves s (s.handAll names) :=
  (order_calms _ names s).moves.trans (Moves.foldl handIfSettled_moves _ _)

theorem without_from (m : TurnMap) (t : TurnKey) : (m.without t).From m := by
  unfold TurnMap.without
  split
  · exact filter_from m _
  · exact .refl m

theorem dropEntry_wanes (s : State) (t : TurnKey) : Wanes s (s.dropEntry t) where
  maps := by
    have hsame (m : TurnMap) (h : m ∈ s.maps) : ∃ m0 ∈ s.maps, m.From m0 := ⟨m, h, .refl m⟩
    intro m hm
    simp only [State.maps, State.dropEntry, modPlanner_planner, modPlanner_mapPort,
      List.mem_append, Option.mem_toList, Option.map_map, Option.map_eq_some_iff,
      Function.comp_apply, List.mem_map] at hm
    obtain ((⟨b, hb, rfl⟩ | ⟨m0, hs, rfl⟩) | hq) | hd := hm
    · exact ⟨b.map, mem_maps_of_building hb, without_from _ t⟩
    · exact ⟨m0, mem_maps_of_sealing hs, without_from _ t⟩
    · exact hsame m (by simp [State.maps, hq])
    · exact hsame m (by simp [State.maps, hd])
  visits := by
    cases hb : s.planner.building <;> simp [State.visits, State.dropEntry, hb]
  requests := Nat.le_refl _
  localHolds := Nat.le_refl _
  ready := rfl

/-! ### The sweep's steps (10) -/

theorem beginStep_calms (s : State) : Calms s s.beginStep := by
  unfold State.beginStep
  split
  · exact modSweep_calms s _
  · exact .refl

theorem abandonStep_calms (s : State) (tag : Tag) : Calms s (s.abandonStep tag) := by
  unfold State.abandonStep
  split
  · split
    · exact (modSweep_calms s _).trans (beginStep_calms _)
    · exact .refl
  · exact .refl

/-! ### Removing a flow (R46, R47) -/

theorem orphaned_from (m : TurnMap) (tag : Tag) : (m.orphaned tag).From m := by
  have hspan : (fun e : Entry => (if e.tag = tag ∧ (e.kind = .data ∨ e.kind = .cadence) then
      { e with orphan := true } else e).span) = Entry.span := by
    funext e
    split <;> rfl
  refine ⟨rfl, ?_⟩
  simp only [TurnMap.orphaned, List.map_map, Function.comp_def, hspan]
  exact .refl _

theorem orphanTurns_wanes (s : State) (tag : Tag) : Wanes s (s.orphanTurns tag) := by
  have hmaps := wanes_of_maps s (·.orphaned tag) (orphaned_from · tag) rfl
  refine hmaps.trans ?_
  exact { pendings := by simp [State.orphanTurns], requests := Nat.le_refl _
          localHolds := Nat.le_refl _, handed := Nat.le_refl _, ready := rfl, visits := .refl _
          maps := MapsFrom.of_eq rfl }

theorem withdrawStranded_wanes (s : State) (t : TurnKey) : Wanes s (s.withdrawStranded t) := by
  have hpend : Wanes s (s.dropPending t) := { pendings := List.length_filter_le _ _ }
  have hhold : Wanes (s.dropPending t) ((s.dropPending t).dropLocalHold t) :=
    { localHolds := List.length_filter_le _ _, requests := Nat.le_refl _, ready := rfl
      maps := MapsFrom.of_eq rfl, visits := .refl _ }
  exact (hpend.trans hhold).trans (dropEntry_wanes _ t)

theorem visits_dropVisit (tag : Tag) (p : Phase) :
    (p.dropVisit tag).visits = p.visits.filter (· ≠ tag) := by
  cases p <;> rfl

theorem visits_dropCadence (tag : Tag) (p : Phase) : (p.dropCadence tag).visits = p.visits := by
  cases p <;> rfl

/-- A change of the phase of the build and of nothing else of it. -/
theorem maps_modPhase (s : State) (g : Phase → Phase) (h : Planner → Planner)
    (hb : (h s.planner).building = s.planner.building.map (·.modPhase g))
    (hs : (h s.planner).sealing = s.planner.sealing) : (s.modPlanner h).maps = s.maps := by
  cases hbuild : s.planner.building <;> simp [State.maps, hb, hs, hbuild, Build.modPhase]

theorem leaveReady_maps (s : State) (f : Flow) : (s.leaveReady f).maps = s.maps :=
  maps_modPhase s (Phase.dropVisit f.tag) _ rfl rfl

theorem leaveReady_visits (s : State) (f : Flow) :
    (s.leaveReady f).visits = s.visits.filter (· ≠ f.tag) := by
  cases hb : s.planner.building <;>
    simp [State.visits, State.leaveReady, hb, Build.modPhase, visits_dropVisit]

theorem leaveReady_dwindles (s : State) (f : Flow) : Dwindles s (s.leaveReady f) where
  requests := Nat.le_refl _
  localHolds := Nat.le_refl _
  maps := MapsFrom.of_eq (leaveReady_maps s f)

theorem dropCadence_wanes (s : State) (tag : Tag) : Wanes s (s.modPlanner fun p =>
    { p with building := p.building.map (·.modPhase (Phase.dropCadence tag)) }) where
  maps := MapsFrom.of_eq (maps_modPhase s (Phase.dropCadence tag) _ rfl rfl)
  visits := by
    cases hb : s.planner.building <;>
      simp [State.visits, hb, Build.modPhase, visits_dropCadence]

/-- The removal up to the tables: what waits for the flow goes, its turns become orphans, and the ones
R47 withdraws leave their maps. -/
def State.cleared (s : State) (tag : Tag) (f : Flow) : State :=
  (s.stranded tag).foldl State.withdrawStranded
    (State.orphanTurns
      ((((s.leaveReady f).modPlanner fun p =>
        { p with building := p.building.map (·.modPhase (Phase.dropCadence tag)) }).modPort
          fun p => { p with attention := p.attention.filter (·.tag ≠ tag) }).removeQueued
            (isTakeOrGive tag)) tag)

theorem removeFlow_eq (s : State) (tag : Tag) (ix : Nat) (f : Flow) : s.removeFlow tag ix f =
    ((((s.cleared tag f).unbind tag ix).lowerFlowCount f.modemIx).abandonStep tag).handAll
      ((s.planner.sealing.filter fun m => m.entries.any (·.strandedBy tag)).map (·.name)) := rfl

theorem leaveReady_wanes_cleared (s : State) (tag : Tag) (f : Flow) :
    Wanes (s.leaveReady f) (s.cleared tag f) := by
  have hcadence := dropCadence_wanes (s.leaveReady f) tag
  refine hcadence.trans ?_
  have hport (u : State) : Wanes u (u.modPort fun p =>
      { p with attention := p.attention.filter (·.tag ≠ tag) }) :=
    { attention := List.filter_sublist }
  refine (hport _).trans ?_
  have hqueue (u : State) : Wanes u (u.removeQueued (isTakeOrGive tag)) :=
    { queue := List.filter_sublist, roster := rfl, holds := .refl _ }
  refine (hqueue _).trans ((orphanTurns_wanes _ tag).trans ?_)
  exact Wanes.foldl withdrawStranded_wanes _ _

theorem unbind_removes {s : State} {tag : Tag} {ix : Nat} {f : Flow}
    (h : s.flowIx tag = some ix ∧ s.flow tag = some f ∨
      tabGet s.store.flows ix = some f ∧ f.tag = tag) :
    Removes s ((s.cleared tag f).unbind tag ix) tag ix f := by
  have hleft := leaveReady_wanes_cleared s tag f
  have hunbind : Dwindles (s.cleared tag f) ((s.cleared tag f).unbind tag ix) :=
    { requests := Nat.le_refl _, localHolds := Nat.le_refl _, maps := MapsFrom.of_eq rfl }
  have hstore : (s.cleared tag f).store = s.store := by simpa using hleft.store
  have hvisits : (s.cleared tag f).visits.Sublist (s.visits.filter (· ≠ f.tag)) :=
    leaveReady_visits s f ▸ hleft.visits
  refine { (leaveReady_dwindles s f).trans (hleft.toDwindles.trans hunbind) with
    named := h, modems := ?_, flows := ?_, tagMap := ?_, ready := hleft.ready, visits := hvisits }
  · simp [State.unbind, hstore]
  · simp [State.unbind, hstore]
  · by_cases h0 : (s.cleared tag f).orphans tag = 0
    · exact .inl (by simp [State.unbind, hstore, h0])
    · exact .inr ⟨(s.cleared tag f).orphans tag, by simp [State.unbind, hstore, h0]⟩

theorem lowerFlowCount_calms (s : State) (i : Nat) : Calms s (s.lowerFlowCount i) := by
  unfold State.lowerFlowCount
  split
  · rename_i m hm
    exact (Calm.modem (m' := { m with flowCount := m.flowCount - 1 }) hm
      ⟨fun h => h, fun _ h => h⟩).calms
  · exact .refl

theorem removeFlow_moves {s : State} {tag : Tag} {ix : Nat} {f : Flow}
    (h : s.flowIx tag = some ix ∧ s.flow tag = some f ∨
      tabGet s.store.flows ix = some f ∧ f.tag = tag) : Moves s (s.removeFlow tag ix f) := by
  rw [removeFlow_eq]
  refine (Move.remove (unbind_removes h)).moves.trans ?_
  have hlowered (u : State) : Calms u ((u.lowerFlowCount f.modemIx).abandonStep tag) :=
    (lowerFlowCount_calms u _).trans (abandonStep_calms _ tag)
  exact (hlowered _).moves.trans (handAll_moves _ _)

/-! ### The Outcome Tracker (08) -/

theorem reported_move (f : Flow) (res : TurnResult) (now : Beat) : FlowMove f (f.reported res now) :=
  { pendings := Nat.sub_le _ _ }

theorem countSleep_calms (s : State) (f : Flow) (res : TurnResult) : Calms s (s.countSleep f res) := by
  unfold State.countSleep
  split
  · split
    · exact modCadence_calms s _ _
    · exact .refl
  · exact .refl

theorem reportForFlow_calms (s : State) (f : Flow) (r : OutcomeReport) (res : TurnResult) :
    Calms s (s.reportForFlow f r res) := by
  have hreported : Calms s ((s.updFlow f.tag (·.reported res s.time.beat)).countSleep f res) :=
    (updFlow_calms s f.tag fun g => reported_move g res _).trans (countSleep_calms _ f res)
  have hdeferred (u : State) : Calms u (if f.isBid then u.deferredAtZero f.tag else u) := by
    split
    · exact deferredAtZero_calms u f.tag
    · exact .refl
  unfold State.reportForFlow
  dsimp only
  refine (hreported.trans (hdeferred _)).trans ?_
  cases reportTail r res
  case none => exact .refl
  case some b => exact tailForFlow_calms _ f b r.chan

theorem reportForOrphan_calms (s : State) (e : PendingEntry) (r : OutcomeReport) (res : TurnResult) :
    Calms s (s.reportForOrphan e r res) := by
  unfold State.reportForOrphan
  dsimp only
  refine (orphanGone_calms s e.tag).trans ?_
  split
  · exact tailDropped_calms _ r.chan
  · exact .refl

theorem consume_calms (s : State) (e : PendingEntry) (r : OutcomeReport) (res : TurnResult) :
    Calms s (s.consume e r res) := by
  have herased : Calms s ((s.erasePending e).modOutcomes r.chan (·.consumed e r res)) :=
    (erasePending_calms s e).trans (modOutcomes_calms _ r.chan _)
  unfold State.consume
  dsimp only
  refine (herased.trans ?_).trans (takeOutcome_calms _ _ _ _)
  split
  · exact reportForOrphan_calms _ e r res
  · split
    · exact reportForFlow_calms _ _ r res
    · exact .refl

theorem stray_calms (s : State) (r : OutcomeReport) (res : TurnResult) : Calms s (s.stray r res) := by
  unfold State.stray
  dsimp only
  refine (modOutcomes_calms s r.chan fun k => { k with strays := bump k.strays 1 }).trans ?_
  split
  · exact tailDropped_calms _ r.chan
  · exact .refl

theorem takeReport_calms (s : State) (r : OutcomeReport) : Calms s (s.takeReport r) := by
  unfold State.takeReport
  dsimp only
  refine (modOutcomes_calms s r.chan fun k => { k with taken := bump k.taken 1 }).trans ?_
  split
  · exact modOutcomes_calms _ r.chan _
  · split
    · exact modOutcomes_calms _ r.chan _
    · split
      · exact stray_calms _ r _
      · split
        · exact consume_calms _ _ r _
        · exact modOutcomes_calms _ r.chan _

theorem expireEntry_calms (s : State) (e : PendingEntry) : Calms s (s.expireEntry e) := by
  have herased : Calms s
      ((s.erasePending e).modOutcomes e.chan fun k => { k with lost := bump k.lost 1 }) :=
    (erasePending_calms s e).trans (modOutcomes_calms _ e.chan _)
  unfold State.expireEntry
  dsimp only
  refine (herased.trans ?_).trans (takeOutcome_calms _ _ _ _)
  split
  · exact orphanGone_calms _ e.tag
  · exact (lowerPending_calms _ e.tag).trans (deferredAtZero_calms _ e.tag)

theorem expire_calms (s : State) (t : Tick) : Calms s (s.expire t) :=
  Calms.foldl expireEntry_calms _ s

theorem takeTally_calms (s : State) (r : WindowTally) : Calms s (s.takeTally r) := by
  unfold State.takeTally
  split
  · exact modOutcomes_calms s r.chan _
  · split
    · exact modOutcomes_calms s r.chan _
    · exact modChan_calms s r.chan _

theorem takeArrival_calms (s : State) (r : ArrivalRecord) : Calms s (s.takeArrival r) := by
  unfold State.takeArrival
  split
  · exact modOutcomes_calms s r.chan _
  · split
    · rename_i hroom
      exact (Adds.arrive _ hroom).calms.trans (raise_calms _ _)
    · exact modTracker_calms s (Nat.le_refl _)

/-! ### The planner's build (05) -/

theorem dropOccurrences_calms (s : State) (m : MapName) (f : Flow) :
    Calms s (s.dropOccurrences m f) :=
  ((updFlow_calms s f.tag fun _ => {}).trans (modCadence_calms _ _ _)).trans
    (appendFault_calms _ _ _ _)

theorem dropLate_calms (s : State) (m : MapName) : Calms s (s.dropLate m) :=
  (order_calms _ _ s).trans (Calms.foldl (fun s f => dropOccurrences_calms s m f) _ _)

theorem suspendSweep_calms (s : State) : Calms s s.suspendSweep := by
  unfold State.suspendSweep
  split
  · exact modSweep_calms s _
  · exact .refl

theorem resumeSweep_wanes (s : State) : Wanes s s.resumeSweep := by
  unfold State.resumeSweep
  split
  · exact {}
  · exact .refl s

theorem freePlanner_wanes (s : State) : Wanes s s.freePlanner := by
  refine Wanes.trans (t := s.modPlanner fun p => { p with building := none }) ?_ (resumeSweep_wanes _)
  refine { maps := MapsFrom.of_subset ?_, visits := List.nil_sublist _ }
  intro m hm
  simp only [State.maps, modPlanner_planner, modPlanner_mapPort, Option.map_none, Option.toList_none,
    List.nil_append] at hm
  simp only [State.maps, List.append_assoc] at hm ⊢
  exact List.mem_append_right _ hm

/-- Requests leave their queue. -/
theorem dropRequests_calms (s : State) {l : List MapName} (h : l.length ≤ s.planner.requests.length) :
    Calms s (s.modPlanner fun p => { p with requests := l }) :=
  modPlanner_calms s h (Nat.le_refl _) rfl rfl rfl

theorem takeRequest_moves {s : State} {m : MapName} {rest : List MapName}
    (h : s.planner.requests = m :: rest) : Moves s (s.takeRequest m rest) := by
  have hrest : rest.length ≤ s.planner.requests.length := by simp [h]
  unfold State.takeRequest
  dsimp only
  refine (((dropRequests_calms s hrest).trans (suspendSweep_calms _)).trans
    (dropLate_calms _ m)).moves.trans ?_
  exact (Move.begin _ rfl rfl).moves

theorem placeSteps_moves (n : Nat) (s : State) : Moves s (State.placeSteps n s) := by
  induction n generalizing s with
  | zero => exact .refl
  | succ n ih => exact Move.place.moves.trans (ih s.placeOne)

theorem placeUpTo_moves (s : State) (upTo : Option Nat) : Moves s (s.placeUpTo upTo) := by
  cases upTo
  case none => exact placeSteps_moves _ s
  case some n => exact placeSteps_moves n s

/-- The map joins the SEALING ones as it leaves the planner. -/
theorem seal_wanes {s : State} {b : Build} (h : s.planner.building = some b) :
    Wanes s (s.freePlanner.modPlanner fun p => { p with sealing := p.sealing ++ [b.map] }) := by
  have hfree := freePlanner_wanes s
  have hsame : s.freePlanner.planner = { s.planner with building := none } := by
    unfold State.freePlanner State.resumeSweep
    split <;> rfl
  have hport : s.freePlanner.mapPort = s.mapPort := by simp
  refine { hfree with maps := MapsFrom.of_subset ?_, visits := ?_ }
  · intro m hm
    simp only [State.maps, modPlanner_planner, modPlanner_mapPort, hsame, hport, Option.map_none,
      Option.toList_none, List.nil_append, List.mem_append, List.mem_singleton] at hm
    obtain ((hs | rfl) | hq) | hd := hm
    · exact mem_maps_of_sealing hs
    · exact mem_maps_of_building h
    · simp [State.maps, hq]
    · simp [State.maps, hd]
  · simp [State.visits, hsame]

theorem endBuild_moves {s : State} {b : Build} (h : s.planner.building = some b) :
    Moves s (s.endBuild b) := by
  unfold State.endBuild
  split
  · exact handOver_moves (freePlanner_wanes s).calms ⟨b.map, mem_maps_of_building h, .refl _⟩
  · exact (seal_wanes h).calms.moves

theorem finishBuild_moves (s : State) : Moves s s.finishBuild := by
  unfold State.finishBuild
  split
  · rename_i b hb
    exact (placeSteps_moves _ s).trans (endBuild_moves hb)
  · exact .refl

theorem framerTakes_calms (s : State) : Calms s s.framerTakes := by
  unfold State.framerTakes
  split
  · exact .refl
  · rename_i m rest hq
    refine (Wanes.calms (t := { s with
      mapPort := ⟨rest, s.mapPort.delivered ++ [m]⟩
      out := { s.out with turnMap := s.mapBytes m } }) ?_).trans (modMaps_calms _ _ _)
    refine { handed := by simp [hq], maps := MapsFrom.of_subset ?_ }
    intro x hx
    simp only [State.maps, hq, List.mem_append, List.mem_cons] at hx ⊢
    tauto

/-! ### Deadlines (01) -/

theorem fallBeat_calms (s : State) : Calms s s.fallBeat := by
  have htime (w : Nat) : Calms s (s.modTime fun t =>
      { t with beat := t.beat + 1, nextBeat := t.nextBeat + 65536, watch := w }) :=
    modTime_calms s rfl
  unfold State.fallBeat
  dsimp only
  split
  · exact ((htime _).trans (modTime_calms _ rfl)).trans (raise_calms _ _)
  · exact htime _

theorem missMap_calms (s : State) (c : Chan) : Calms s (s.missMap c) :=
  (modMaps_calms s c _).trans (raise_calms _ _)

theorem modClock_calms (s : State) (c : Chan) (g : PeriodClock → PeriodClock) :
    Calms s (s.modClock c g) := modChan_calms s c _

theorem fallBuildStart_calms (s : State) (m : MapName) : Calms s (s.fallBuildStart m) := by
  unfold State.fallBuildStart
  dsimp only
  refine (modClock_calms s m.chan fun k => { k with build := m.period + 1 }).trans ?_
  split
  · rename_i hroom
    exact (Adds.request m hroom).calms
  · exact missMap_calms _ m.chan

theorem cutBuild_moves {s : State} {b : Build} (h : s.planner.building = some b) :
    Moves s (s.cutBuild b) :=
  sealAtDeadline_moves
    (((modMaps_calms s _ _).trans (raise_calms _ _)).trans (freePlanner_wanes _).calms)
    ⟨b.map, mem_maps_of_building h, rfl, .refl _⟩

theorem deadlineOfSealing_moves (s : State) (m : MapName) : Moves s
    (match s.sealingMap m with
      | some x => (s.dropSealing m).sealAtDeadline x
      | none => s) := by
  split
  · rename_i x hx
    have hm := mem_maps_of_sealing (List.mem_of_find?_eq_some hx)
    exact sealAtDeadline_moves (filterSealing_wanes s _).calms ⟨x, hm, .refl x⟩
  · exact .refl

theorem deadlineOfMap_moves (s : State) (m : MapName) : Moves s (s.deadlineOfMap m) := by
  unfold State.deadlineOfMap
  split
  · rename_i b hb
    split
    · exact cutBuild_moves hb
    · exact deadlineOfSealing_moves s m
  · exact deadlineOfSealing_moves s m

theorem fallDeliver_moves (s : State) (m : MapName) : Moves s (s.fallDeliver m) := by
  unfold State.fallDeliver
  dsimp only
  refine (modClock_calms s m.chan fun k => { k with deadline := m.period + 1 }).moves.trans ?_
  split
  · refine Calms.moves ?_
    have hdrop (u : State) : Calms u
        (u.modPlanner fun p => { p with requests := p.requests.filter (· ≠ m) }) :=
      modPlanner_calms u (List.length_filter_le _ _) (Nat.le_refl _) rfl rfl rfl
    exact ((hdrop _).trans (missMap_calms _ _)).trans (resumeSweep_wanes _).calms
  · exact deadlineOfMap_moves _ m

theorem fallStart_calms (s : State) (m : MapName) : Calms s (s.fallStart m) := by
  unfold State.fallStart
  dsimp only
  refine (modClock_calms s m.chan (·.started m.period)).trans ?_
  generalize s.modClock m.chan _ = u
  split
  · refine (Wanes.calms (t := { u with mapPort := { u.mapPort with
      queue := u.mapPort.queue.filter (·.name ≠ m) } }) ?_).trans (discardLate_calms _ _)
    refine { handed := List.length_filter_le _ _, maps := MapsFrom.of_subset ?_ }
    intro x hx
    simp only [State.maps, List.mem_append, List.mem_filter] at hx ⊢
    tauto
  · refine Wanes.calms { maps := MapsFrom.of_subset ?_ }
    intro x hx
    simp only [State.maps, List.mem_append, List.mem_filter] at hx ⊢
    tauto

theorem fallSkip_calms (s : State) (m : MapName) : Calms s (s.fallSkip m) := modChan_calms s _ _

theorem fallListenEnd_calms (s : State) : Calms s s.fallListenEnd := by
  have hserving : Calms s { s with life := .serving, listenEnd := none } :=
    Wanes.calms { life := .inr rfl }
  exact hserving.trans (raise_calms _ _)

theorem fallLocalEnd_calms (s : State) (t : Tick) : Calms s (s.fallLocalEnd t) :=
  modPlanner_calms s (Nat.le_refl _) (List.length_filter_le _ _) rfl rfl rfl

theorem fallSharedEnd_calms (s : State) (t : Tick) : Calms s (s.fallSharedEnd t) :=
  modLink_calms s (.refl _) List.filter_sublist rfl

theorem fallPresence_calms (s : State) (t : Tick) : Calms s (s.fallPresence t) :=
  (queuePresence_calms s).trans (modLink_calms _ (.refl _) (.refl _) rfl)

theorem fall_moves (s : State) (d : Deadline) : Moves s (s.fall d) := by
  cases d
  case beat t => exact (fallBeat_calms s).moves
  case buildStart m => exact (fallBuildStart_calms s m).moves
  case deliver m => exact fallDeliver_moves s m
  case start m => exact (fallStart_calms s m).moves
  case skip m => exact (fallSkip_calms s m).moves
  case listenEnd t => exact (fallListenEnd_calms s).moves
  case expiry t => exact (expire_calms s t).moves
  case localEnd t => exact (fallLocalEnd_calms s t).moves
  case sharedEnd t => exact (fallSharedEnd_calms s t).moves
  case presence t => exact (fallPresence_calms s t).moves
  case absence k t => exact (markAbsent_calms s k).moves

theorem passing_calms (s : State) (base : Tick) (span : Nat) :
    Calms s (s.modTracker (·.passing base span)) :=
  modTracker_calms s (by simp [Tracker.passing])

theorem setNow_calms (s : State) (t : Tick) : Calms s (s.setNow t) :=
  (passing_calms s _ _).trans (modTime_calms _ rfl)

theorem countLoop_moves (n : Nat) (t : Tick) (s : State) : Moves s (State.countLoop n t s) := by
  induction n generalizing s with
  | zero => exact (setNow_calms s t).moves
  | succ n ih =>
    unfold State.countLoop
    split
    · exact (setNow_calms s t).moves
    · rename_i d s' hdraw
      exact (((draw_calms hdraw).trans (setNow_calms _ _)).moves.trans (fall_moves _ d)).trans (ih _)

theorem countTo_moves (s : State) (t : Tick) : Moves s (s.countTo t) := countLoop_moves _ t s

theorem atDeadline_moves (s : State) (d : Deadline) : Moves s (s.atDeadline d) := by
  unfold State.atDeadline
  dsimp only
  split
  · split
    · exact (countTo_moves s _).trans (fall_moves _ d)
    · exact countTo_moves s _
  · exact .refl

theorem reloadLoop_moves (n : Nat) (base : Tick) (span : Nat) (s : State) :
    Moves s (State.reloadLoop n base span s) := by
  induction n generalizing s with
  | zero => exact .refl
  | succ n ih =>
    unfold State.reloadLoop
    split
    · exact .refl
    · rename_i d s' hdraw
      exact ((draw_calms hdraw).moves.trans (fall_moves _ d)).trans (ih _)

theorem presentLoop_moves (n : Nat) (s : State) : Moves s (State.presentLoop n s) := by
  induction n generalizing s with
  | zero => exact .refl
  | succ n ih =>
    unfold State.presentLoop
    split
    · exact .refl
    · rename_i d s' hdraw
      exact ((draw_calms hdraw).moves.trans (fall_moves _ d)).trans (ih _)

/-- A good record has its thresholds in the range of R168. -/
theorem thresholdsOk_of_passes {r : StartRecord} (h : firstFailure r = none) : thresholdsOk r := by
  have hall : ∀ k ∈ startChecks r, k.passes = true := by simpa [firstFailure] using h
  have h1 := hall ⟨inRange r.t1.toNat 1 199, .healthField, 0⟩ (by simp [startChecks])
  have h2 := hall ⟨inRange r.t2.toNat 1 199, .healthField, 1⟩ (by simp [startChecks])
  have h3 := hall ⟨inRange r.t3.toNat 1 199, .healthField, 2⟩ (by simp [startChecks])
  have h4 := hall ⟨inRange r.recover.toNat 1 100, .healthField, 3⟩ (by simp [startChecks])
  simp only [inRange, Bool.and_eq_true, decide_eq_true_eq] at h1 h2 h3 h4
  exact ⟨by omega, by omega, by omega, h4.1⟩

theorem raiseEntryBuilds_calms (s : State) : Calms s s.raiseEntryBuilds :=
  (order_calms _ _ s).trans (Calms.foldl fallBuildStart_calms _ _)

/-- The life state and the record in force at entry to LISTEN; the rest of the entry is calm (R14). -/
theorem enterListen_calms (s : State) (r : StartRecord) :
    Calms { s with life := .listen, accepted := some r } (s.enterListen r) := by
  unfold State.enterListen
  dsimp only
  refine Calms.trans ?_ (raiseEntryBuilds_calms _)
  refine Calms.trans ?_ (modLink_calms _ (.refl _) (.refl _) rfl)
  refine Calms.trans ?_ (queuePresence_calms _)
  refine Calms.trans ?_ (modSweep_calms _ _)
  exact Wanes.calms {}

theorem enterListen_moves {s : State} {r : StartRecord} (hlife : s.life = .start)
    (h : s.accepted = some r ∨ thresholdsOk r) : Moves s (s.enterListen r) :=
  (Move.listen hlife h).moves.trans (enterListen_calms s r).moves

theorem firstWord_moves (s : State) (v : Tick) : Moves s (s.firstWord v) := by
  unfold State.firstWord
  dsimp only
  have htimed : Calms s (s.modTime fun t =>
      { t with timed := true, nodeTime := v, beat := 0, watch := 0, line := .arriving,
               nextBeat := v + 65536 }) := Wanes.calms { timed := fun _ => rfl }
  refine htimed.moves.trans ?_
  split
  · rename_i r hlife haccepted
    exact enterListen_moves hlife (.inl haccepted)
  · exact .refl

theorem slipForward_calms (s : State) (v : Tick) : Calms s (s.slipForward v).2 := by
  unfold State.slipForward
  split
  · exact Wanes.calms {}
  · exact .refl

theorem slip_moves (s : State) (v : Tick) : Moves s (s.slip v) := by
  unfold State.slip
  dsimp only
  have hpresent : Moves s s.fallPresent := presentLoop_moves _ s
  refine hpresent.trans ?_
  generalize s.fallPresent = u
  have hreloaded (w : State) : Calms w ((w.modTime fun t =>
      { t.heardWord with nodeTime := v, slips := bump t.slips 1 }).raise .time) :=
    (modTime_calms w rfl).trans (raise_calms _ .time)
  refine ((slipForward_calms u v).trans (hreloaded _)).moves.trans ?_
  split
  · exact ((passing_calms _ _ _).trans (modTime_calms _ rfl)).moves.trans (reloadLoop_moves _ _ _ _)
  · exact .refl

theorem takeTimeWord_moves (s : State) (v : Tick) (check : BitVec 16) :
    Moves s (s.takeTimeWord v check) := by
  unfold State.takeTimeWord
  split
  · exact (modTime_calms s rfl).moves
  · split
    · exact firstWord_moves s v
    · split
      · exact (modTime_calms s rfl).moves
      · exact slip_moves s v

/-! ### Arbitration and hearing (07) -/

theorem winContention_calms (s : State) (q : Queued) : Calms s (s.winContention q) :=
  (modLink_calms s List.erase_sublist (.refl _) rfl).trans (setLinkedFate_calms _ _ _)

theorem otherSends_calms (s : State) : Calms s s.otherSends :=
  modLink_calms s (.refl _) (.refl _) rfl

theorem decideContention_calms (s : State) (others : List (BitVec 6)) (joined : Bool) :
    Calms s (s.decideContention others joined) := by
  unfold State.decideContention
  split
  · exact .refl
  · split
    · exact .refl
    · exact otherSends_calms s
  · split
    · split
      · exact winContention_calms s _
      · exact (otherSends_calms s).trans (modLinkCounters_calms _ _)
    · exact otherSends_calms s

theorem FlowMove.trans {f g h : Flow} (hfg : FlowMove f g) (hgh : FlowMove g h) : FlowMove f h where
  tag := hgh.tag.trans hfg.tag
  cls := hgh.cls.trans hfg.cls
  ceiling := hgh.ceiling.trans hfg.ceiling
  credit := fun hf => hfg.ceiling ▸ hgh.credit (hfg.ceiling ▸ hfg.credit hf)
  outstanding := hgh.outstanding ∘ hfg.outstanding
  pendings := hgh.pendings.trans hfg.pendings

theorem taken_move (f : Flow) (b : Nat) (own : Bool) : FlowMove f (f.taken b own) := by
  have htentative : FlowMove f (if own then { f with tentative := f.tentative - b } else f) := by
    split <;> exact {}
  unfold Flow.taken
  dsimp only
  generalize (if own = true then { f with tentative := f.tentative - b } else f) = g at htentative ⊢
  split
  · exact htentative
  · exact htentative.trans { outstanding := (Nat.sub_le _ _).trans }

theorem deferredAfterTake_calms (s : State) (tag : Tag) (n : Nat) :
    Calms s (s.deferredAfterTake tag n) := by
  unfold State.deferredAfterTake
  split
  · exact .refl
  · split
    · exact applyDeferred_calms s tag
    · exact .refl

theorem applyTake_calms (s : State) (f : Flow) (b : Nat) (own : Bool) :
    Calms s (s.applyTake f b own) :=
  (updFlow_calms s f.tag fun g => taken_move g b own).trans (deferredAfterTake_calms _ _ _)

theorem byteEffects_calms (s : State) (n : Notice) (f : Flow) (own : Bool) (v : Option Verdict) :
    Calms s (s.byteEffects n f own v) := by
  cases n <;> unfold State.byteEffects
  case takeHold tag b key a z =>
    dsimp only
    split
    · exact applyTake_calms s f _ own
    · split
      · exact updFlow_calms s tag fun _ => {}
      · exact .refl
  case take tag b => exact applyTake_calms s f _ own
  case give tag b =>
    dsimp only
    split
    · exact .refl
    · exact addHeard_calms s tag _
  case bid tag b =>
    dsimp only
    split
    · exact .refl
    · exact addHeard_calms s tag _
  case presence => exact .refl

theorem applyBytes_calms (s : State) (n : Notice) (own : Bool) (sender : StationNo)
    (v : Option Verdict) : Calms s (s.applyBytes n own sender v) := by
  unfold State.applyBytes
  split
  · exact .refl
  · split
    · exact modLinkCounters_calms s _
    · split
      · exact byteEffects_calms s n _ own v
      · exact modLinkCounters_calms s _

theorem enterVerdict_calms (s : State) (n : Notice) (sender : StationNo) :
    Calms s (s.enterVerdict n sender) := by
  unfold State.enterVerdict
  split
  · exact applyVerdict_calms s ⟨_, _, _, sender⟩
  · exact .refl

theorem lateStanding_calms (s : State) (tag : Tag) (b : Nat) : Calms s (s.lateStanding tag b) := by
  unfold State.lateStanding
  split
  · exact .refl
  · split
    · exact (giveBack_calms s tag b).trans (modLinkCounters_calms _ _)
    · exact .refl

theorem confirmTurn_moves (s : State) (t : TurnKey) : Moves s (s.confirmTurn t) :=
  (setFate_calms s t _).moves.trans (handIfSettled_moves _ _)

theorem voidTurn_moves (s : State) (t : TurnKey) : Moves s (s.voidTurn t) := by
  unfold State.voidTurn
  split
  · exact .refl
  · exact (((dropEntry_wanes s t).calms.trans (modMaps_calms _ _ _)).trans
      (withdrawTurn_calms _ _ _ _)).moves.trans (handIfSettled_moves _ _)

theorem standingFate_moves (s : State) (x : InTx) (tag : Tag) (b : Nat) :
    Moves s (s.standingFate x tag b) := by
  unfold State.standingFate
  split
  · exact (lateStanding_calms s tag b).moves
  · split
    · exact confirmTurn_moves s _
    · exact .refl

theorem voidFate_moves (s : State) (x : InTx) (tag : Tag) (key : Key) :
    Moves s (s.voidFate x tag key) := by
  unfold State.voidFate
  dsimp only
  refine Moves.trans ?_ (appendFault_calms _ _ _ _).moves
  split
  · exact .refl
  · split
    · exact voidTurn_moves s _
    · exact .refl

theorem ownFate_moves (s : State) (x : InTx) (v : Option Verdict) : Moves s (s.ownFate x v) := by
  unfold State.ownFate
  split
  · split
    · exact standingFate_moves s x _ _
    · exact voidFate_moves s x _ _
  · exact standingFate_moves s x _ _
  · exact .refl

theorem hearOwn_moves (s : State) (x : InTx) : Moves s (s.hearOwn x) :=
  (((modLinkCounters_calms s _).trans (enterVerdict_calms _ _ _)).trans
    (applyBytes_calms _ _ _ _ _)).moves.trans (ownFate_moves _ x _)

theorem hearPeer_calms (s : State) {k : StationNo} (n : Notice) (hk : k ≠ s.station) :
    Calms s (s.hearPeer k n) :=
  ((refreshRoster_calms s n hk).trans (enterVerdict_calms _ _ _)).trans (applyBytes_calms _ _ _ _ _)

theorem hearBytes_calms (s : State) (bs : List Byte) : Calms s (s.hearBytes bs) := by
  unfold State.hearBytes
  split
  · exact modLinkCounters_calms s _
  · dsimp only
    refine (modLinkCounters_calms s fun c => { c with heard := bump c.heard 1 }).trans ?_
    split
    · exact (modLinkCounters_calms _ _).trans (raise_calms _ _)
    · rename_i hk
      exact hearPeer_calms _ _ hk

theorem openAtEnd_calms (s : State) : Calms s s.openAtEnd :=
  modLink_calms s (.refl _) (.refl _) rfl

theorem endTransmission_moves (s : State) (bs : List Byte) : Moves s (s.endTransmission bs) := by
  unfold State.endTransmission
  split
  · rename_i x hx
    dsimp only
    have hended : Calms s (s.modLink fun l => { l with inTx := none }) :=
      modLink_calms s (.refl _) (.refl _) rfl
    refine hended.moves.trans ?_
    split
    · exact (hearOwn_moves _ x).trans (openAtEnd_calms _).moves
    · exact (openAtEnd_calms _).moves
  · split
    · exact ((hearBytes_calms s bs).trans (openAtEnd_calms _)).moves
    · exact (openAtEnd_calms s).moves

/-! ### The sweep (10) -/

/-- A refresh holds credit at the ceiling (R28). -/
theorem refresh_move (f : Flow) (now : Beat) : FlowMove f (f.refresh now) where
  credit := fun h => by
    unfold Flow.refresh
    dsimp only
    split
    · exact h
    · exact Nat.min_le_left _ _

theorem staleDiscard_calms (s : State) (f : Flow) : Calms s (s.staleDiscard f) := by
  unfold State.staleDiscard
  dsimp only
  refine Calms.trans ?_ (appendFault_calms _ _ _ _)
  refine Calms.trans ?_ (offerAttention_calms _ _ _)
  exact (updFlow_calms s f.tag fun _ => { outstanding := fun _ => Nat.zero_le _ }).trans
    (modSweep_calms _ _)

theorem idleExpiry_calms (s : State) (f : Flow) : Calms s (s.idleExpiry f) := by
  unfold State.idleExpiry
  dsimp only
  refine Calms.trans ?_ (offerAttention_calms _ _ _)
  exact (updFlow_calms s f.tag fun _ => { outstanding := fun _ => Nat.zero_le _ }).trans
    (modSweep_calms _ _)

theorem sweepTests_calms (s : State) (f : Flow) : Calms s (s.sweepTests f) := by
  unfold State.sweepTests
  dsimp only
  split
  · split
    · exact (staleDiscard_calms s f).trans (idleExpiry_calms _ _)
    · exact staleDiscard_calms s f
  · split
    · exact idleExpiry_calms s f
    · exact .refl

theorem sweepFlow_calms {s : State} {i : Nat} {f : Flow} (hf : tabGet s.store.flows i = some f) :
    Calms s (s.sweepFlow f) := by
  unfold State.sweepFlow
  split
  · exact (Calm.record hf (refresh_move f _)).calms.trans (sweepTests_calms _ _)
  · exact .refl

theorem completeStep_calms (s : State) : Calms s s.completeStep := by
  unfold State.completeStep
  split
  · exact .refl
  · dsimp only
    refine Calms.trans ?_ (beginStep_calms _)
    refine Calms.trans ?_ (modSweep_calms _ _)
    split
    · rename_i f hf
      exact sweepFlow_calms hf
    · exact .refl

end Sys2Proof.Machine
end

section
/-! SUPPORT. Every command but the two resets is made of moves, and so is a step. -/

namespace Sys2Proof.Machine

-- One proof after another: side by side, as many as stand here need more threads than the check gives.
set_option Elab.async false

open Relation (ReflTransGen)

/-! ### The Management Port (11) -/

theorem shiftStatus_calms (s : State) : Calms s s.shiftStatus := by
  unfold State.shiftStatus
  exact Wanes.calms {}

theorem refuseBusy_calms (s : State) : Calms s s.refuseBusy :=
  (shiftStatus_calms s).trans (modPort_calms _ rfl rfl)

theorem takeFrame_calms (s : State) : Calms s s.takeFrame :=
  (shiftStatus_calms s).trans (modPort_calms _ rfl rfl)

theorem answer_calms (s : State) (code : Byte) (r : Reply) : Calms s (s.answer code r) :=
  modPort_calms s rfl rfl

theorem malformed_calms (s : State) : Calms s s.malformed :=
  (shiftStatus_calms s).trans (modPort_calms _ rfl rfl)

theorem readResponse_calms (s : State) (n : Nat) : Calms s (s.readResponse n) := by
  unfold State.readResponse
  dsimp only
  refine (shiftStatus_calms s).trans (Calms.trans ?_ (modPort_calms _ rfl rfl))
  generalize s.shiftStatus = u
  exact Wanes.calms {}

theorem takeBadFrame_calms (s : State) (f : CommandFrame) (offset : Nat) :
    Calms s (s.takeBadFrame f offset) := by
  unfold State.takeBadFrame
  split
  · exact refuseBusy_calms s
  · exact (takeFrame_calms s).trans (answer_calms _ _ _)

/-- The exchange is calm, so a host command makes the moves of its block (R166, R167). -/
theorem hostCommand_moves {s : State} (code : Byte) {takenIn : Life → Bool}
    {run : State → State × Reply}
    (hrun : ∀ u, takenIn u.life = true → Moves u (run u).1) :
    Moves s (s.hostCommand code takenIn run) := by
  unfold State.hostCommand
  split
  · exact (refuseBusy_calms s).moves
  · split
    · rename_i hlife
      exact ((takeFrame_calms s).moves.trans (hrun s.takeFrame hlife)).trans (answer_calms _ _ _).moves
    · exact ((takeFrame_calms s).trans (answer_calms _ _ _)).moves

theorem life_ne_of_inService {l : Life} (h : inService l = true) : l ≠ .start := bne_iff_ne.mp h

theorem loadStart_moves {s : State} (hlife : s.life = .start) (r : StartRecord) :
    Moves s (s.loadStart r).1 := by
  unfold State.loadStart
  split
  · exact .refl
  · rename_i hpasses
    have hok := thresholdsOk_of_passes hpasses
    split
    · exact enterListen_moves hlife (.inr hok)
    · exact (Move.accept hlife hok).moves

theorem admitModem_moves {s : State} (hlife : s.life ≠ .start) (key : Key) (single : Bool)
    (normal fallback : ProfileIx) : Moves s (s.admitModem key single normal fallback).1 := by
  unfold State.admitModem
  split
  · exact .refl
  · split
    · exact .refl
    · split
      · exact .refl
      · rename_i i hfree
        exact (Move.enrol key single normal fallback hlife hfree).moves

theorem removeRecord_moves (s : State) (ix : Nat) : Moves s (s.removeRecord ix) := by
  unfold State.removeRecord
  split
  · rename_i f hf
    exact removeFlow_moves (.inr ⟨hf, rfl⟩)
  · exact .refl

theorem removeModem_moves (s : State) (key : Key) : Moves s (s.removeModem key).1 := by
  unfold State.removeModem
  split
  · exact .refl
  · rename_i i _
    exact (Moves.foldl removeRecord_moves _ s).trans (Calm.noModem i).calms.moves

theorem pinModem_calms (s : State) (key : Key) (p : BitVec 2) : Calms s (s.pinModem key p).1 := by
  unfold State.pinModem
  split
  · exact .refl
  · split
    · exact .refl
    · split
      · exact .refl
      · rename_i hm
        refine Calm.calms ?_
        dsimp only
        exact .modem hm ⟨fun h => h, fun _ h => h⟩

theorem freshFlow_bid (s : State) (a : AdmitFlow) (mi : Nat) : FreshFlow (s.newBidFlow a mi) where
  bytes := ⟨Nat.le_refl _, Nat.min_le_right _ _, Nat.zero_le _⟩
  outstanding := rfl
  pendings := rfl

theorem freshFlow_cadence (s : State) (a : AdmitFlow) (mi : Nat) (x y : BitVec 32) :
    FreshFlow (s.newCadenceFlow a mi x y) where
  bytes := ⟨Nat.le_refl _, Nat.zero_le _, Nat.zero_le _⟩
  outstanding := rfl
  pendings := rfl

/-- The new record carries the command's tag, and free values are all that making it uses. -/
theorem newFlow_fresh (s : State) (a : AdmitFlow) (mi : Nat) :
    FreshFlow (s.newFlow a mi).1 ∧ (s.newFlow a mi).1.tag = a.tag ∧
      ∃ n, (s.newFlow a mi).2 = { s with free := n } := by
  unfold State.newFlow
  split
  · exact ⟨freshFlow_cadence _ a mi _ _, rfl, _, rfl⟩
  · exact ⟨freshFlow_bid s a mi, rfl, s.free, rfl⟩

theorem bindFlow_moves {s : State} {ix mi : Nat} {f : Flow} {m : Modem} (hfresh : FreshFlow f)
    (htag : s.tagState f.tag = none)
    (hfree : freeRecord s.store.flows Config.flowRecords = some ix) (hm : s.modemAt mi = some m) :
    Moves s (s.bindFlow ix f mi m) := by
  unfold State.bindFlow
  refine (Move.bind hfresh htag hfree).moves.trans (Calms.moves (Calm.calms ?_))
  exact Calm.modem (m := m) hm ⟨fun h => h, fun _ h => h⟩

theorem placeFlow_moves {s : State} {a : AdmitFlow} {mi : Nat} {m : Modem}
    (htag : s.tagState a.tag = none) (hm : s.modemAt mi = some m) :
    Moves s (s.placeFlow a mi m).1 := by
  unfold State.placeFlow
  split
  · exact .refl
  · rename_i ix hfree
    split
    · exact .refl
    · obtain ⟨hfresh, hsame, n, hn⟩ := newFlow_fresh s a mi
      have hdrawn : Calms s (s.newFlow a mi).2 := by
        rw [hn]
        exact Wanes.calms {}
      refine hdrawn.moves.trans (bindFlow_moves hfresh ?_ ?_ ?_)
      · rw [hsame, hn]
        exact htag
      · rw [hn]
        exact hfree
      · rw [hn]
        exact hm

theorem admitFlow_moves (s : State) (a : AdmitFlow) : Moves s (s.admitFlow a).1 := by
  unfold State.admitFlow
  split
  · exact .refl
  · split
    · exact .refl
    · split
      · exact .refl
      · rename_i m hm
        unfold State.admitFor
        split
        · exact .refl
        · exact .refl
        · rename_i htag
          split
          · exact .refl
          · split
            · exact .refl
            · exact placeFlow_moves htag hm

theorem removeTag_moves (s : State) (tag : Tag) : Moves s (s.removeTag tag).1 := by
  unfold State.removeTag
  split
  · rename_i ix f hix hf
    exact removeFlow_moves (.inl ⟨hix, hf⟩)
  · exact .refl

theorem reviveFlow_calms (s : State) (tag : Tag) : Calms s (s.reviveFlow tag).1 := by
  have hrevived (f : Flow) : FlowMove f (f.revived s.time.beat) := { credit := fun _ => Nat.le_refl _ }
  unfold State.reviveFlow
  split
  · exact .refl
  · split
    · exact updFlow_calms s tag hrevived
    · exact .refl

theorem readChannel_calms (s : State) (b : Byte) : Calms s (s.readChannel b).1 := by
  unfold State.readChannel
  split
  · exact .refl
  · exact order_calms _ _ s

theorem takeAttention_calms (s : State) : Calms s s.takeAttention.1 := by
  unfold State.takeAttention
  exact Wanes.calms { attention := List.drop_sublist 8 _ }

theorem takeArrivals_calms (s : State) : Calms s s.takeArrivals.1 := by
  unfold State.takeArrivals
  exact Wanes.calms { arrivals := (List.drop_sublist 4 _).length_le }

theorem clearFaults_calms (s : State) : Calms s s.clearFaults.1 := by
  unfold State.clearFaults
  exact Wanes.calms { ring := .inr rfl }

theorem readStatus_calms (s : State) : Calms s s.readStatus.1 := by
  unfold State.readStatus
  exact Wanes.calms {}

theorem setMask_calms (s : State) (b : Byte) : Calms s (s.setMask b).1 := by
  unfold State.setMask
  exact Wanes.calms {}

theorem restartSweep_calms (s : State) : Calms s s.restartSweep.1 :=
  (modSweep_calms s _).trans (beginStep_calms _)

/-! ### The commands -/

theorem record_moves {s : State} {take : State → State} (h : ∀ u, Calms u (take u)) :
    Moves s (s.record take) := by
  unfold State.record
  split
  · exact (discardRecord_calms s).moves
  · exact (h s).moves

theorem plannerTakesRequest_moves {s t : State} {upTo : Option Nat}
    (h : execPlannerTakesRequest upTo s = .next t) : Moves s t := by
  unfold execPlannerTakesRequest at h
  split at h <;> injection h with ht <;> subst ht
  · exact placeUpTo_moves s upTo
  · rename_i hrequests
    exact (takeRequest_moves hrequests).trans (placeUpTo_moves _ upTo)
  · exact .refl

/-- A hard reset, or a RESTART taken in READY, of `s`. -/
def Resets (s t : State) : Prop := (∃ straps, t = s.hardReset straps) ∨ t = s.afterRestart

theorem hostRestart_moves (s : State) :
    Moves s (s.hostCommand 0x02 inAnyLife fun s => s.restart) ∨
      s.hostCommand 0x02 inAnyLife (fun s => s.restart) = s.afterRestart := by
  unfold State.hostCommand
  split
  · exact .inl (refuseBusy_calms s).moves
  · exact .inr rfl

/-- What a command can do: the moves of its block, or a reset. -/
theorem exec_moves {i : Instr} {s t : State} (h : exec i s = .next t) : Moves s t ∨ Resets s t := by
  have hnext {u : State} (hu : Moves s u) (he : exec i s = .next u) : Moves s t ∨ Resets s t := by
    rw [he] at h
    injection h with h
    exact .inl (h ▸ hu)
  have hhost (code : Byte) (takenIn : Life → Bool) (run : State → State × Reply)
      (hrun : ∀ u, takenIn u.life = true → Moves u (run u).1)
      (he : exec i s = .next (s.hostCommand code takenIn run)) : Moves s t ∨ Resets s t :=
    hnext (hostCommand_moves code hrun) he
  cases i
  case hardReset straps =>
    injection h with h
    exact .inr (.inl ⟨straps, h.symm⟩)
  case timeWord v check => exact hnext (takeTimeWord_moves s v check) rfl
  case beatEvent t => exact hnext (atDeadline_moves s _) rfl
  case buildStart c n => exact hnext (atDeadline_moves s _) rfl
  case deliverDeadline c n => exact hnext (atDeadline_moves s _) rfl
  case periodStart c n => exact hnext (atDeadline_moves s _) rfl
  case listenEnd t => exact hnext (atDeadline_moves s _) rfl
  case pendingExpiry t => exact hnext (atDeadline_moves s _) rfl
  case localHoldEnd t => exact hnext (atDeadline_moves s _) rfl
  case sharedHoldEnd t => exact hnext (atDeadline_moves s _) rfl
  case presenceTimer t => exact hnext (atDeadline_moves s _) rfl
  case absenceTick k t => exact hnext (atDeadline_moves s _) rfl
  case bidRecord r => exact hnext (record_moves fun u => takeBid_calms u r) rfl
  case outcomeReport r => exact hnext (record_moves fun u => takeReport_calms u r) rfl
  case windowTally r => exact hnext (record_moves fun u => takeTally_calms u r) rfl
  case arrivalRecord r => exact hnext (record_moves fun u => takeArrival_calms u r) rfl
  case burstRecordDiscard kind ended =>
    change execBurstRecordDiscard kind ended s = _ at h
    unfold execBurstRecordDiscard at h
    split at h
    · injection h with h
      exact .inl (h ▸ (discardRecord_calms s).moves)
    · cases h
  case plannerTakesRequest upTo => exact .inl (plannerTakesRequest_moves h)
  case buildEnd => exact hnext (finishBuild_moves s) rfl
  case framerTakesMap => exact hnext (framerTakes_calms s).moves rfl
  case contentionDecided others joined => exact hnext (decideContention_calms s others joined).moves rfl
  case transmissionEnd heard => exact hnext (endTransmission_moves s heard) rfl
  case sweepStepBegin => exact hnext (beginStep_calms s).moves rfl
  case sweepStepCompletion => exact hnext (completeStep_calms s).moves rfl
  case commandBusy =>
    change execCommandBusy s = _ at h
    unfold execCommandBusy at h
    split at h <;> injection h with h
    · exact .inl (h ▸ (refuseBusy_calms s).moves)
    · exact .inl (h ▸ .refl)
  case responseRead n => exact hnext (readResponse_calms s n).moves rfl
  case malformedFrame => exact hnext (malformed_calms s).moves rfl
  case badDirectionByte b =>
    change execBadDirectionByte b s = _ at h
    unfold execBadDirectionByte at h
    split at h
    · cases h
    · injection h with h
      exact .inl (h ▸ (malformed_calms s).moves)
  case badCommandFrame f =>
    change execBadCommandFrame f s = _ at h
    unfold execBadCommandFrame at h
    split at h
    · cases h
    · split at h
      · injection h with h
        exact .inl (h ▸ (takeBadFrame_calms s f _).moves)
      · cases h
  case loadStart r =>
    exact hhost _ _ _ (fun u hu => loadStart_moves (eq_of_beq hu) r) rfl
  case restart =>
    injection h with h
    exact (hostRestart_moves s).imp (h ▸ ·) fun hr => .inr (h ▸ hr)
  case admitModem key single normal fallback =>
    exact hhost _ _ _ (fun u hu => admitModem_moves (life_ne_of_inService hu) key single normal fallback) rfl
  case removeModem key => exact hhost _ _ _ (fun u _ => removeModem_moves u key) rfl
  case pinModem key pin => exact hhost _ _ _ (fun u _ => (pinModem_calms u key pin).moves) rfl
  case readModem key => exact hhost _ _ _ (fun u _ => .refl) rfl
  case admitFlow a => exact hhost _ _ _ (fun u _ => admitFlow_moves u a) rfl
  case removeFlow tag => exact hhost _ _ _ (fun u _ => removeTag_moves u tag) rfl
  case reviveFlow tag => exact hhost _ _ _ (fun u _ => (reviveFlow_calms u tag).moves) rfl
  case readFlow tag => exact hhost _ _ _ (fun u _ => .refl) rfl
  case readChannel b => exact hhost _ _ _ (fun u _ => (readChannel_calms u b).moves) rfl
  case readPeers => exact hhost _ _ _ (fun u _ => .refl) rfl
  case readStatus => exact hhost _ _ _ (fun u _ => (readStatus_calms u).moves) rfl
  case readFaults asked => exact hhost _ _ _ (fun u _ => .refl) rfl
  case clearFaults => exact hhost _ _ _ (fun u _ => (clearFaults_calms u).moves) rfl
  case takeAttention => exact hhost _ _ _ (fun u _ => (takeAttention_calms u).moves) rfl
  case takeArrivals => exact hhost _ _ _ (fun u _ => (takeArrivals_calms u).moves) rfl
  case setEventMask b => exact hhost _ _ _ (fun u _ => (setMask_calms u b).moves) rfl
  case sweepRestart => exact hhost _ _ _ (fun u _ => (restartSweep_calms u).moves) rfl

/-! ### The step -/

theorem withPending_wanes (s : State) (l : List Instr) : Wanes s { s with pending := l } := {}

theorem idle_calms (s : State) : Calms s s.idle := by
  unfold State.idle
  split
  · split
    · rename_i d s' hdraw
      exact (draw_calms hdraw).trans (withPending_wanes s' _).calms
    · exact setNow_calms s _
  · exact .refl

/-- What a step can do: moves, or a reset with the rest of the command queue. -/
theorem step_moves {s t : State} (h : step s = .next t) :
    Moves s t ∨ ∃ l, Resets { s with pending := l } t := by
  unfold step at h
  split at h
  · injection h with h
    exact .inl (h ▸ (idle_calms s).moves)
  · rename_i c rest _
    obtain hm | hr := exec_moves h
    · exact .inl ((withPending_wanes s rest).calms.moves.trans hm)
    · exact .inr ⟨rest, hr⟩

/-- A law that every move keeps, and that both resets give, is kept by every step. -/
theorem step_keeps {P : State → Prop} (hmove : ∀ {s t}, Move s t → P s → P t)
    (hpending : ∀ s l, P s → P { s with pending := l })
    (hreset : ∀ s straps, P s → P (s.hardReset straps)) (hrestart : ∀ s, P s → P s.afterRestart)
    {s t : State} (hs : P s) (h : step s = .next t) : P t := by
  obtain hm | ⟨l, ⟨straps, rfl⟩ | rfl⟩ := step_moves h
  · clear h
    induction hm with
    | refl => exact hs
    | tail _ hlast ih => exact hmove hlast ih
  · exact hreset _ straps (hpending s l hs)
  · exact hrestart _ (hpending s l hs)

theorem calms_keep {P : State → Prop} (hcalm : ∀ {s t}, Calm s t → P s → P t) {s t : State}
    (h : Calms s t) (hs : P s) : P t := by
  induction h with
  | refl => exact hs
  | tail _ hlast ih => exact hcalm hlast ih

end Sys2Proof.Machine
end

section
/-! SUPPORT. Placement, step by step: what one placement of the planner is made of (05, 06). -/

namespace Sys2Proof.Machine

-- One proof after another: side by side, as many as stand here need more threads than the check gives.
set_option Elab.async false

open Relation (ReflTransGen)

/-! ### What a write to a flow record leaves of the planner -/

theorem joinReady_dwindles (s : State) (f : Flow) : Dwindles s (s.joinReady f) where
  requests := Nat.le_refl _
  localHolds := Nat.le_refl _
  maps := MapsFrom.of_eq rfl

theorem settle_dwindles (s : State) (f : Flow) : Dwindles s (s.settle f) := by
  unfold State.settle
  split
  · split
    · exact {}
    · exact joinReady_dwindles s f
  · split
    · exact leaveReady_dwindles s f
    · exact {}

theorem writeFlow_wanes (s : State) (tag : Tag) (f : Flow) : Dwindles s (s.writeFlow tag f) := by
  unfold State.writeFlow
  split
  · exact {}
  · exact {}

theorem updFlow_dwindles (s : State) (tag : Tag) (g : Flow → Flow) :
    Dwindles s (s.updFlow tag g) := by
  unfold State.updFlow
  split
  · exact {}
  · exact (writeFlow_wanes s tag _).trans (settle_dwindles _ _)

theorem orphanGone_dwindles (s : State) (tag : Tag) : Dwindles s (s.orphanGone tag) := by
  unfold State.orphanGone
  split
  · exact {}
  · exact {}

/-- The map under construction is that of `b`. -/
def State.builds (s : State) (b : Build) : Prop :=
  ∃ b', s.planner.building = some b' ∧ b'.map = b.map

theorem builds_modPhase {s : State} {b : Build} (h : s.builds b) (g : Phase → Phase)
    {p : Planner → Planner}
    (hp : (p s.planner).building = s.planner.building.map (·.modPhase g)) :
    (s.modPlanner p).builds b := by
  obtain ⟨b', hb, hmap⟩ := h
  exact ⟨b'.modPhase g, by simp [hp, hb], hmap⟩

theorem builds_settle {s : State} {b : Build} (h : s.builds b) (f : Flow) :
    (s.settle f).builds b := by
  unfold State.settle
  split
  · split
    · exact h
    · exact h
  · split
    · exact builds_modPhase h (Phase.dropVisit f.tag) rfl
    · exact h

theorem builds_updFlow {s : State} {b : Build} (h : s.builds b) (tag : Tag) (g : Flow → Flow) :
    (s.updFlow tag g).builds b := by
  unfold State.updFlow
  split
  · exact h
  · refine builds_settle ?_ _
    obtain ⟨b', hb, hmap⟩ := h
    exact ⟨b', by simpa using hb, hmap⟩

theorem builds_modBuild {s : State} {b : Build} (h : s.builds b) {g : Build → Build}
    (hg : ∀ b, (g b).map = b.map) : (s.modBuild g).builds b := by
  obtain ⟨b', hb, hmap⟩ := h
  exact ⟨g b', by simp [State.modBuild, hb], (hg b').trans hmap⟩

/-! ### The parts of a placement -/

/-- The entry lies in a free run of the map under construction, which is not full (R72). -/
def State.fits (s : State) (e : Entry) : Prop :=
  ∃ b, s.planner.building = some b ∧ b.map.entries.length < 240 ∧
    ∃ r ∈ s.freeRuns b, r.start ≤ e.start ∧ e.start + e.len ≤ r.start + r.len

/-- A change of a flow record that may open a turn of it. -/
structure FlowGrant (f f' : Flow) : Prop where
  tag : f'.tag = f.tag := by rfl
  cls : f'.cls = f.cls := by rfl
  ceiling : f'.ceiling = f.ceiling := by rfl
  credit : f.credit ≤ f.ceiling → f'.credit ≤ f.ceiling := by exact id
  outstanding : f.outstanding ≤ 1048575 → f'.outstanding ≤ 1048575 := by exact id

inductive Placing : State → State → Prop where
  | calm {s t : State} (h : Calm s t) : Placing s t
  | entry {s : State} (e : Entry) (h : s.fits e) : Placing s (s.placeEntry e)
  | opened {s : State} (e : PendingEntry) (hroom : s.tracker.list.length < 1024) :
      Placing s (s.openPending e)
  | grant {s : State} (tag : Tag) (g : Flow → Flow) (hg : ∀ f, FlowGrant f (g f)) :
      Placing s (s.updFlow tag g)
  | localHold {s : State} (h : LocalHold) (hroom : s.planner.localHolds.length < 256) :
      Placing s (s.modPlanner fun p => { p with localHolds := p.localHolds ++ [h] })
  | phase {s : State} (g : Build → Build) (hg : ∀ b, (g b).map = b.map) : Placing s (s.modBuild g)
  | tail {s : State} (f : Flow) : Placing s (s.toTail f)

abbrev Places : State → State → Prop := ReflTransGen Placing

theorem Places.trans {s t u : State} (h : Places s t) (h' : Places t u) : Places s u :=
  ReflTransGen.trans h h'

theorem Placing.places {s t : State} (h : Placing s t) : Places s t := .single h

theorem Calms.places {s t : State} (h : Calms s t) : Places s t :=
  ReflTransGen.mono (fun _ _ => .calm) _ _ h

theorem setPhase_places (s : State) (ph : Phase) : Places s (s.setPhase ph) :=
  (Placing.phase (fun b => { b with phase := ph }) fun _ => rfl).places

theorem builds_setPhase {s : State} {b : Build} (h : s.builds b) (ph : Phase) :
    (s.setPhase ph).builds b := builds_modBuild h fun _ => rfl

theorem fits_of_run {s : State} {b : Build} (hb : s.builds b) (hfull : b.full = false) {e : Entry}
    {r : Run} (hr : r ∈ s.freeRuns b) (hlo : r.start ≤ e.start)
    (hhi : e.start + e.len ≤ r.start + r.len) : s.fits e := by
  obtain ⟨b', hbuilding, hmap⟩ := hb
  have hroom : b.map.entries.length < 240 := Nat.lt_of_not_le (of_decide_eq_false hfull)
  have hruns : s.freeRuns b' = s.freeRuns b := by unfold State.freeRuns; rw [hmap]
  exact ⟨b', hbuilding, by rw [hmap]; exact hroom, r, hruns ▸ hr, hlo, hhi⟩

/-! ### Cadence turns -/

theorem mem_of_cadenceSlot {runs : List Run} {phase need slot : Nat}
    (h : cadenceSlot runs phase need = some slot) :
    ∃ r ∈ runs, r.start ≤ slot ∧ slot + need ≤ r.start + r.len := by
  unfold cadenceSlot at h
  split at h
  · rename_i hany
    obtain ⟨r, hr, hin⟩ := List.any_eq_true.mp hany
    rw [Bool.and_eq_true, decide_eq_true_eq, decide_eq_true_eq] at hin
    cases h
    exact ⟨r, hr, hin⟩
  · obtain ⟨r, hfound, rfl⟩ := Option.map_eq_some_iff.mp h
    have hin := List.find?_some hfound
    rw [Bool.and_eq_true, decide_eq_true_eq, decide_eq_true_eq] at hin
    exact ⟨r, List.mem_of_find?_eq_some hfound, Nat.le_refl _, Nat.add_le_add_left hin.2 _⟩

theorem queueTakeHold_calms (s : State) (n : MapName) (f : Flow) (e : Entry) (b : Nat) :
    Calms s (s.queueTakeHold n f e b) := enqueue_calms s rfl

theorem localHolds_updFlow (s : State) (tag : Tag) (g : Flow → Flow) {n : Nat}
    (h : s.planner.localHolds.length < n) : (s.updFlow tag g).planner.localHolds.length < n :=
  (updFlow_dwindles s tag g).localHolds.trans_lt h

/-- The entry and its pending entry, then the record of the flow: what a turn begins with (R82, R101). -/
theorem openTurn_places {s : State} {e : Entry} (p : PendingEntry) (tag : Tag) {g : Flow → Flow}
    (hfits : s.fits e) (hroom : s.tracker.list.length < 1024) (hg : ∀ f, FlowGrant f (g f)) :
    Places s (((s.placeEntry e).openPending p).updFlow tag g) := by
  have hentry : Places s (s.placeEntry e) := (Placing.entry e hfits).places
  have hopened : Places (s.placeEntry e) ((s.placeEntry e).openPending p) :=
    (Placing.opened p (by simpa using hroom)).places
  exact (hentry.trans hopened).trans (Placing.grant tag g hg).places

theorem localHold_places {s : State} {m : Modem} (n : MapName) (key : Key) (e : Entry)
    (hlocal : m.single = true → s.planner.localHolds.length < 256) :
    Places s (if m.single then s.addLocalHold n key e else s) := by
  split
  · rename_i hsingle
    exact (Placing.localHold _ (hlocal hsingle)).places
  · exact .refl

theorem placeCadence_places {s : State} {n : MapName} {f : Flow} {m : Modem} {c : Cadence}
    {slot need : Nat} (hfits : ∀ e : Entry, e.start = slot → e.len = need → s.fits e)
    (hroom : s.tracker.list.length < 1024)
    (hlocal : m.single = true → s.planner.localHolds.length < 256) :
    Places s (s.placeCadence n f m c slot need) := by
  have htaken (u : State) (e : Entry) (hold : Bool) :
      Places u (if hold then u.queueTakeHold n f e 0 else u) := by
    split
    · exact (queueTakeHold_calms u n f e 0).places
    · exact .refl
  unfold State.placeCadence
  extract_lets hold e u v w x
  have hopened : Places s v :=
    openTurn_places _ f.tag (hfits e rfl rfl) hroom fun _ => {}
  have hheld : Places v w := localHold_places n _ e fun h => localHolds_updFlow _ _ _ (hlocal h)
  exact ((hopened.trans hheld).trans (htaken w e hold)).trans (modCadence_calms _ _ _).places

theorem positionCadence_places {s : State} {b : Build} {f : Flow} {m : Modem} {c : Cadence}
    (hb : s.builds b) (hfull : b.full = false) (hbarred : s.cadenceBarred f m = false) :
    Places s (s.positionCadence b f m c) := by
  have hblocked : Places s (s.blocked b.map.name.chan) := (modCadence_calms s _ _).places
  simp only [State.cadenceBarred, State.pendingFull, State.localFull, Bool.or_eq_false_iff,
    decide_eq_false_iff_not, Bool.and_eq_false_imp, Nat.not_le] at hbarred
  obtain ⟨⟨⟨-, hroom⟩, hlocal⟩, -⟩ := hbarred
  unfold State.positionCadence
  dsimp only
  split
  · exact hblocked
  · rename_i slot hslot
    obtain ⟨r, hr, hlo, hhi⟩ := mem_of_cadenceSlot hslot
    split
    · exact hblocked
    · refine placeCadence_places (fun e hstart hlen => ?_) hroom hlocal
      exact fits_of_run hb hfull hr (hstart ▸ hlo) (hstart ▸ hlen ▸ hhi)

theorem handleCadence_places {s : State} {b : Build} (tag : Tag) (hb : s.builds b)
    (hfull : b.full = false) : Places s (s.handleCadence b tag) := by
  unfold State.handleCadence
  split
  · exact .refl
  · split
    · split
      · exact .refl
      · split
        · exact (modCadence_calms s _ _).places
        · rename_i hbarred
          exact positionCadence_places hb hfull (Bool.not_eq_true _ ▸ hbarred)
    · exact .refl

/-! ### Windows -/

theorem placeJoin_places {s : State} {b : Build} (hb : s.builds b) (hfull : b.full = false) :
    Places s (s.placeJoin b) := by
  unfold State.placeJoin
  dsimp only
  split
  · rename_i r hfound
    have hlen := List.find?_some hfound
    rw [decide_eq_true_eq] at hlen
    exact (Placing.entry _ (fits_of_run hb hfull (List.mem_of_find?_eq_some hfound)
      (Nat.le_refl _) (Nat.add_le_add_left hlen _))).places
  · exact (modMaps_calms s _ _).places

theorem longestRun_mem {runs : List Run} {r : Run} (h : longestRun runs = some r) : r ∈ runs := by
  induction runs generalizing r with
  | nil => cases h
  | cons x rest ih =>
    unfold longestRun at h
    split at h
    · cases h
      exact List.mem_cons_self
    · rename_i q hq
      split at h <;> cases h
      · exact List.mem_cons_of_mem _ (ih hq)
      · exact List.mem_cons_self

theorem placeBid_places {s : State} {b : Build} (hb : s.builds b) (hfull : b.full = false) :
    Places s (s.placeBid b) := by
  unfold State.placeBid
  dsimp only
  split
  · rename_i r hfound
    have hlen := List.find?_some hfound
    rw [decide_eq_true_eq] at hlen
    exact (Placing.entry _ (fits_of_run hb hfull (List.mem_of_find?_eq_some hfound)
      (Nat.le_refl _) (Nat.add_le_add_left hlen _))).places
  · split
    · rename_i r hlongest
      have hplaced : Places s (s.placeEntry (windowEntry .bid r.start r.len)) :=
        (Placing.entry _ (fits_of_run hb hfull (longestRun_mem hlongest) (Nat.le_refl _)
          (Nat.le_refl _))).places
      exact hplaced.trans (modMaps_calms _ _ _).places
    · exact (modMaps_calms s _ _).places

/-! ### The data-turn walk -/

theorem foldl_fitStep_fits (pr : ProfilePart) (q s : Nat) (l : List Nat) {t : Nat}
    (h : t = 0 ∨ slotsFor pr q t ≤ s) :
    l.foldl (fitStep pr q s) t = 0 ∨ slotsFor pr q (l.foldl (fitStep pr q s) t) ≤ s := by
  induction l generalizing t with
  | nil => exact h
  | cons w l ih =>
    refine ih ?_
    unfold fitStep
    split
    · rename_i hfits
      exact .inr hfits
    · exact h

/-- The answer of the fit search is a count that the search has found to fit (R22). -/
theorem slotsFor_fitFor {pr : ProfilePart} {q s : Nat} (h : 0 < fitFor pr q s) :
    slotsFor pr q (fitFor pr q s) ≤ s :=
  (foldl_fitStep_fits pr q s fitWeights (.inl rfl)).resolve_left (Nat.ne_of_gt h)

theorem sizeAgainst_fits {pr : ProfilePart} {q minGrant want : Nat} {runs : List Run} {k : Candidate}
    (h : sizeAgainst pr q minGrant want runs = some k) :
    ∃ r ∈ runs, k.start = r.start ∧ k.len ≤ r.len := by
  induction runs with
  | nil => cases h
  | cons r rest ih =>
    unfold sizeAgainst at h
    split at h
    · rename_i hfits
      cases h
      exact ⟨r, List.mem_cons_self, rfl, hfits⟩
    · split at h
      · rename_i hfit
        cases h
        exact ⟨r, List.mem_cons_self, rfl, slotsFor_fitFor hfit.2⟩
      · obtain ⟨x, hx, hin⟩ := ih h
        exact ⟨x, List.mem_cons_of_mem _ hx, hin⟩

/-- A run at and after the cursor is a part of a free run (R81). -/
theorem runsFrom_part {cursor : Nat} {runs : List Run} {r : Run} (h : r ∈ runsFrom cursor runs) :
    ∃ x ∈ runs, x.start ≤ r.start ∧ r.start + r.len ≤ x.start + x.len := by
  obtain ⟨x, hx, hcut⟩ := List.mem_filterMap.mp h
  split at hcut
  · cases hcut
  · cases hcut
    exact ⟨x, hx, Nat.le_max_left _ _, by dsimp only; omega⟩

theorem granted_grant (f : Flow) (b : Nat) (spans : Bool) : FlowGrant f (f.granted b spans) := by
  have hcharged : (f.charge b).credit ≤ f.credit := by
    unfold Flow.charge
    split
    · exact Nat.le_refl _
    · exact Nat.sub_le _ _
  have hsame : (f.charge b).tag = f.tag ∧ (f.charge b).cls = f.cls ∧
      (f.charge b).ceiling = f.ceiling ∧ (f.charge b).outstanding = f.outstanding := by
    unfold Flow.charge
    split <;> exact ⟨rfl, rfl, rfl, rfl⟩
  obtain ⟨htag, hcls, hceiling, hout⟩ := hsame
  cases spans
  case false =>
    exact { tag := htag, cls := hcls, ceiling := hceiling, credit := hcharged.trans
            outstanding := fun h => (Nat.sub_le _ _).trans (hout ▸ h) }
  case true =>
    exact { tag := htag, cls := hcls, ceiling := hceiling, credit := hcharged.trans
            outstanding := fun h => hout.le.trans h }

theorem queueTake_calms (s : State) (n : MapName) (f : Flow) (m : Modem) (e : Entry) :
    Calms s (s.queueTake n f m e) := by
  unfold State.queueTake
  split
  · exact queueTakeHold_calms s n f e _
  · exact enqueue_calms s rfl

theorem requeue_places (s : State) (tag : Tag) : Places s (s.requeue tag) := by
  unfold State.requeue
  split
  · split
    · exact (Placing.tail _).places
    · exact .refl
  · exact .refl

theorem queueTake_planner (s : State) (n : MapName) (f : Flow) (m : Modem) (e : Entry) :
    (s.queueTake n f m e).planner = s.planner := by simp

theorem placeData_places {s : State} {n : MapName} {f : Flow} {m : Modem} {k : Candidate}
    (left : List Tag) (classes : List ServiceClass)
    (hfits : s.fits (dataEntry f m k (s.spanningActive f)))
    (hroom : s.tracker.list.length < 1024)
    (hlocal : m.single = true → s.planner.localHolds.length < 256) :
    Places s (s.placeData n f m k left classes) := by
  unfold State.placeData
  extract_lets spans e u v w x
  have hopened : Places s v :=
    openTurn_places _ f.tag hfits hroom fun g => granted_grant g k.bytes spans
  have hroomThere : m.single = true → v.planner.localHolds.length < 256 :=
    fun h => localHolds_updFlow _ _ _ (hlocal h)
  have htaken : Places v w ∧ w.planner = v.planner := by
    cases hspans : spans
    case false => exact ⟨by simp only [w, hspans, Bool.false_eq_true, if_false]; exact .refl,
      by simp only [w, hspans, Bool.false_eq_true, if_false]⟩
    case true =>
      simp only [w, hspans, if_true]
      exact ⟨(queueTake_calms v n f m e).places, queueTake_planner v n f m e⟩
  have hheld : Places w x := localHold_places n _ e fun h => htaken.2 ▸ hroomThere h
  exact (((hopened.trans htaken.1).trans hheld).trans (requeue_places x f.tag)).trans
    (setPhase_places _ _)

theorem sizeAndPlace_places {s : State} {b : Build} {f : Flow} {m : Modem} {cursor : Nat}
    (left : List Tag) (classes : List ServiceClass) (hb : s.builds b) (hfull : b.full = false)
    (hroom : s.tracker.list.length < 1024)
    (hlocal : m.single = true → s.planner.localHolds.length < 256) :
    Places s (s.sizeAndPlace b f m cursor left classes) := by
  unfold State.sizeAndPlace
  dsimp only
  split
  · exact setPhase_places s _
  · rename_i k hk
    split
    · exact setPhase_places s _
    · obtain ⟨r, hr, hstart, hlen⟩ := sizeAgainst_fits hk
      obtain ⟨x, hx, hlo, hhi⟩ := runsFrom_part hr
      refine placeData_places left classes ?_ hroom hlocal
      refine fits_of_run hb hfull hx ?_ ?_
      · exact hlo.trans hstart.ge
      · change k.start + k.len ≤ _
        omega

theorem visit_places {s : State} {b : Build} (tag : Tag) (cursor : Nat) (left : List Tag)
    (classes : List ServiceClass) (hb : s.builds b) (hfull : b.full = false) :
    Places s (s.visit b tag cursor left classes) := by
  unfold State.visit
  split
  · exact .refl
  · rename_i f hf
    split
    · exact .refl
    · rename_i m _
      split
      · exact .refl
      · rename_i hskip
        simp only [State.skipInPlace, State.pendingFull, State.localFull, Bool.or_eq_true,
          not_or, decide_eq_true_eq, Nat.not_le, Bool.and_eq_true, not_and] at hskip
        obtain ⟨⟨⟨-, hroom⟩, hlocal⟩, -⟩ := hskip
        have hrefreshed : Places s (s.updFlow tag fun _ => f.refresh s.time.beat) := by
          refine (Calm.flow tag _ fun f' hf' => ?_).calms.places
          cases hf.symm.trans hf'
          exact refresh_move f _
        dsimp only
        refine hrefreshed.trans ?_
        split
        · exact (Placing.tail _).places
        · refine sizeAndPlace_places left classes (builds_updFlow hb _ _) hfull ?_ fun hsingle => ?_
          · simpa using hroom
          · exact localHolds_updFlow s tag _ (hlocal hsingle)

/-! ### One placement -/

theorem endWalk_places (s : State) : Places s s.endWalk := by
  unfold State.endWalk
  split
  · exact .refl
  · split
    · split
      · exact setPhase_places s _
      · exact .refl
    · exact .refl

theorem beginWalk_places (s : State) : Places s s.beginWalk := by
  unfold State.beginWalk
  split
  · exact .refl
  · split
    · exact setPhase_places s _
    · rename_i r _ _
      exact (Placing.phase (fun b => { b with
        phase := .walk r.start [] quadIndexes, barred := s.life == .listen }) fun _ => rfl).places

theorem placeOne_places (s : State) : Places s s.placeOne := by
  have hset (ph : Phase) : Places s (s.setPhase ph) := setPhase_places s ph
  unfold State.placeOne
  split
  · exact .refl
  · rename_i b hbuilding
    have hb : s.builds b := ⟨b, hbuilding, rfl⟩
    split
    · exact hset _
    · split
      · exact hset _
      · rename_i hfull
        exact (hset _).trans (handleCadence_places _ (builds_setPhase hb _) (Bool.not_eq_true _ ▸ hfull))
    · split
      · exact hset _
      · split
        · exact hset _
        · rename_i hfull
          exact (placeJoin_places hb (Bool.not_eq_true _ ▸ hfull)).trans (setPhase_places _ _)
    · split
      · exact hset _
      · rename_i hfull
        exact ((placeBid_places hb (Bool.not_eq_true _ ▸ hfull)).trans (beginWalk_places _)).trans
          (endWalk_places _)
    · exact hset _
    · split
      · exact hset _
      · exact hset _
    · split
      · exact hset _
      · rename_i hends
        have hfull : b.full = false := by
          cases hf : b.full
          · rfl
          · exact absurd (by simp [State.walkEnds, hf]) hends
        exact ((hset _).trans (visit_places _ _ _ _ (builds_setPhase hb _) hfull)).trans
          (endWalk_places _)
    · exact .refl

/-- A law that every part of a placement keeps is kept by a placement. -/
theorem placeOne_keeps {P : State → Prop} (hplace : ∀ {s t}, Placing s t → P s → P t) {s : State}
    (hs : P s) : P s.placeOne := by
  have h := placeOne_places s
  generalize s.placeOne = t at h ⊢
  induction h with
  | refl => exact hs
  | tail _ hlast ih => exact hplace hlast ih

end Sys2Proof.Machine
end

section
/-! SUPPORT. The laws of the queues, the fault ring, the holds and the roster: no move breaks them. -/

namespace Sys2Proof.Machine

-- One proof after another: side by side, as many as stand here need more threads than the check gives.
set_option Elab.async false

open Relation (ReflTransGen)

/-! ### What a move does, seen from a law of the port, the ring or the link -/

theorem writeModem_dwindles (s : State) (i : Nat) (m : Modem) : Dwindles s (s.writeModem i m) := {}

theorem freeModem_dwindles (s : State) (i : Nat) : Dwindles s (s.freeModem i) := by
  unfold State.freeModem
  exact {}

theorem Calm.dwindles_or_adds {s t : State} (h : Calm s t) : Dwindles s t ∨ Adds s t := by
  cases h with
  | wane h => exact .inl h.toDwindles
  | adds h => exact .inr h
  | flow tag g _ => exact .inl (updFlow_dwindles s tag g)
  | record _ _ => exact .inl (updFlow_dwindles s _ _)
  | orphan tag => exact .inl (orphanGone_dwindles s tag)
  | modem _ _ => exact .inl (writeModem_dwindles s _ _)
  | noModem i => exact .inl (freeModem_dwindles s i)

/-- A law of the port, the Health Monitor and the link, for the station's number: it reads nothing
else, it holds of less, and it holds of more where the rule of the part lets more join. -/
structure PartLaw (P : State → Prop) : Prop where
  reads : ∀ {s t : State}, P s → t.port = s.port → t.health = s.health → t.link = s.link →
    t.station = s.station → P t
  less : ∀ {s t : State}, Dwindles s t → P s → P t
  more : ∀ {s t : State}, Adds s t → P s → P t

theorem PartLaw.calm {P : State → Prop} (hP : PartLaw P) {s t : State} (h : Calm s t) (hs : P s) :
    P t := by
  obtain hd | ha := h.dwindles_or_adds
  · exact hP.less hd hs
  · exact hP.more ha hs

theorem PartLaw.placing {P : State → Prop} (hP : PartLaw P) {s t : State} (h : Placing s t)
    (hs : P s) : P t := by
  cases h with
  | calm h => exact hP.calm h hs
  | entry e _ => exact hP.reads hs rfl rfl rfl rfl
  | opened e _ => exact hP.reads hs rfl rfl rfl rfl
  | grant tag g _ => exact hP.less (updFlow_dwindles s tag g) hs
  | localHold h _ => exact hP.reads hs rfl rfl rfl rfl
  | phase g _ => exact hP.reads hs rfl rfl rfl rfl
  | tail f => exact hP.reads hs rfl rfl rfl rfl

theorem PartLaw.move {P : State → Prop} (hP : PartLaw P) {s t : State} (h : Move s t) (hs : P s) :
    P t := by
  cases h with
  | calm h => exact hP.calm h hs
  | hand m hcalms _ _ => exact hP.reads (calms_keep hP.calm hcalms hs) rfl rfl rfl rfl
  | begin b _ _ => exact hP.reads hs rfl rfl rfl rfl
  | place => exact placeOne_keeps hP.placing hs
  | enrol key single normal fallback _ _ => exact hP.less (writeModem_dwindles s _ _) hs
  | bind _ _ _ => exact hP.reads hs rfl rfl rfl rfl
  | remove h => exact hP.less h.toDwindles hs
  | accept _ _ => exact hP.reads hs rfl rfl rfl rfl
  | listen _ _ => exact hP.reads hs rfl rfl rfl rfl

/-- A law of the parts that both resets give is kept by every step. -/
theorem PartLaw.step {P : State → Prop} (hP : PartLaw P)
    (hreset : ∀ s straps, P (State.hardReset s straps)) (hrestart : ∀ s, P s → P s.afterRestart)
    {s t : State} (hs : P s) (h : step s = .next t) : P t :=
  step_keeps hP.move (fun _ _ hs => hP.reads hs rfl rfl rfl rfl) (fun s straps _ => hreset s straps)
    hrestart hs h

/-! ### The attention queue (R170) -/

theorem attentionLaw_partLaw : PartLaw AttentionLaw where
  reads := fun hs hport _ _ _ => by
    unfold AttentionLaw
    rw [hport]
    exact hs
  less := fun h ⟨hlen, hnodup⟩ =>
    ⟨h.attention.length_le.trans hlen, hnodup.sublist (h.attention.map _)⟩
  more := fun h ⟨hlen, hnodup⟩ => by
    cases h with
    | attend e hroom hnew =>
      refine ⟨by simpa using hroom, ?_⟩
      rw [modPort_port, List.map_append, List.nodup_append]
      refine ⟨hnodup, List.nodup_singleton _, ?_⟩
      intro a ha b hb hab
      rw [List.map_singleton, List.mem_singleton] at hb
      exact hnew (hb ▸ hab ▸ ha)
    | arrive e _ => exact ⟨hlen, hnodup⟩
    | fault r _ => exact ⟨hlen, hnodup⟩
    | hold h _ => exact ⟨hlen, hnodup⟩
    | notice q _ =>
      unfold AttentionLaw
      simpa using ⟨hlen, hnodup⟩
    | request m _ => exact ⟨hlen, hnodup⟩
    | peer k e _ _ => exact ⟨hlen, hnodup⟩

/-! ### The fault ring (R154) -/

/-- A record joins: what stays is numbered one further from the counter, and the newest is one before
it. -/
theorem ring_append {h : Health} {r : FaultRecord} (hseq : r.seq = h.seq)
    (hlen : h.ring.length ≤ 16)
    (hnumbered : ∀ i x, h.ring[i]? = some x →
      x.seq = h.seq - BitVec.ofNat 32 (h.ring.length - i)) :
    (h.append r).ring.length ≤ 16 ∧ ∀ i x, (h.append r).ring[i]? = some x →
      x.seq = (h.append r).seq - BitVec.ofNat 32 ((h.append r).ring.length - i) := by
  obtain ⟨d, hd, hring, hkept⟩ : ∃ d, d ≤ h.ring.length ∧
      (h.append r).ring = h.ring.drop d ++ [r] ∧ h.ring.length - d < 16 := by
    by_cases hfull : 16 ≤ h.ring.length
    · exact ⟨1, by omega, by simp [Health.append, hfull], by omega⟩
    · exact ⟨0, by omega, by simp [Health.append, hfull], by omega⟩
  have hcount : (h.append r).seq = h.seq + 1 := rfl
  have hnewLen : (h.append r).ring.length = h.ring.length - d + 1 := by simp [hring]
  refine ⟨by omega, fun i x hx => ?_⟩
  rw [hring, List.getElem?_append, List.length_drop, List.getElem?_drop] at hx
  rw [hcount, hnewLen]
  split at hx
  · rename_i hlt
    rw [hnumbered _ _ hx]
    have hgap : h.ring.length - d + 1 - i = h.ring.length - (d + i) + 1 := by omega
    rw [hgap, BitVec.ofNat_add]
    bv_omega
  · obtain ⟨hi, hxr⟩ := List.getElem?_eq_some_iff.mp hx
    simp only [List.length_singleton] at hi
    have hone : h.ring.length - d + 1 - i = 1 := by omega
    have hx' : x = r := by simpa using hxr.symm
    rw [hone, hx', hseq]
    bv_omega

theorem ringLaw_partLaw : PartLaw RingLaw where
  reads := fun hs _ hhealth _ _ => by
    unfold RingLaw
    rw [hhealth]
    exact hs
  less := fun h ⟨hlen, hnumbered⟩ => by
    unfold RingLaw
    obtain hring | hring := h.ring
    · rw [hring, h.seq]
      exact ⟨hlen, hnumbered⟩
    · rw [hring]
      exact ⟨Nat.zero_le _, fun i x hx => by simp at hx⟩
  more := fun h hs => by
    cases h with
    | attend e _ _ => exact hs
    | arrive e _ => exact hs
    | fault r hseq => exact ring_append hseq hs.1 hs.2
    | hold h _ => exact hs
    | notice q _ => simpa [RingLaw] using hs
    | request m _ => exact hs
    | peer k e _ _ => exact hs

/-! ### The shared holds (R119) -/

theorem overlaps_comm (a z b y : Tick) : overlaps a z b y = overlaps b y a z := Bool.and_comm _ _

theorem holdLaw_partLaw : PartLaw HoldLaw where
  reads := fun hs _ _ hlink _ => by
    unfold HoldLaw
    rw [hlink]
    exact hs
  less := fun h ⟨hlen, hapart⟩ => ⟨h.holds.length_le.trans hlen, hapart.sublist h.holds⟩
  more := fun h ⟨hlen, hapart⟩ => by
    cases h with
    | attend e _ _ => exact ⟨hlen, hapart⟩
    | arrive e _ => exact ⟨hlen, hapart⟩
    | fault r _ => exact ⟨hlen, hapart⟩
    | hold h hjudge =>
      obtain ⟨hfree, hroom⟩ := judge_stands hjudge
      refine ⟨by simpa using hroom, ?_⟩
      rw [modLink_link, List.pairwise_append]
      refine ⟨hapart, List.pairwise_singleton _ _, fun x hx y hy hkey => ?_⟩
      obtain rfl := List.mem_singleton.mp hy
      have hnot := List.any_eq_false.mp hfree x hx
      rw [overlaps_comm]
      simpa [hkey] using hnot
    | notice q _ => unfold HoldLaw; simpa [State.enqueue, apply_ite] using ⟨hlen, hapart⟩
    | request m _ => exact ⟨hlen, hapart⟩
    | peer k e _ _ => exact ⟨hlen, hapart⟩

/-! ### The transmit queue (R110, R124) -/

theorem length_insertNotice (q : Queued) (l : List Queued) :
    (insertNotice q l).length = l.length + 1 := by
  induction l with
  | nil => rfl
  | cons x r ih =>
    unfold insertNotice
    split <;> simp [ih]

theorem mem_insertNotice {q x : Queued} {l : List Queued} (h : x ∈ insertNotice q l) :
    x = q ∨ x ∈ l := by
  induction l with
  | nil => exact .inl (List.mem_singleton.mp h)
  | cons y r ih =>
    unfold insertNotice at h
    split at h
    · exact List.mem_cons.mp h
    · obtain rfl | h := List.mem_cons.mp h
      · exact .inr List.mem_cons_self
      · exact (ih h).imp_right (List.mem_cons_of_mem _)

/-- A notice takes its place behind its own rank (R110). -/
theorem insertNotice_sorted {q : Queued} {l : List Queued}
    (h : l.Pairwise fun a b => a.rank ≤ b.rank) :
    (insertNotice q l).Pairwise fun a b => a.rank ≤ b.rank := by
  induction l with
  | nil => exact List.pairwise_singleton _ _
  | cons x r ih =>
    obtain ⟨hx, hr⟩ := List.pairwise_cons.mp h
    unfold insertNotice
    split
    · rename_i hlt
      refine List.pairwise_cons.mpr ⟨fun y hy => ?_, h⟩
      obtain rfl | hy := List.mem_cons.mp hy
      · exact Nat.le_of_lt hlt
      · exact (Nat.le_of_lt hlt).trans (hx y hy)
    · rename_i hle
      refine List.pairwise_cons.mpr ⟨fun y hy => ?_, ih hr⟩
      obtain rfl | hy := mem_insertNotice hy
      · exact Nat.le_of_not_lt hle
      · exact hx y hy

theorem filter_insertNotice (p : Queued → Bool) (q : Queued) (l : List Queued) :
    ((insertNotice q l).filter p).length = (l.filter p).length + if p q then 1 else 0 := by
  induction l with
  | nil => cases hp : p q <;> simp [insertNotice, hp]
  | cons x r ih =>
    unfold insertNotice
    split
    · cases hp : p q <;> simp [List.filter_cons, hp]
    · rw [List.filter_cons, List.filter_cons]
      split
      · rw [List.length_cons, List.length_cons, ih]
        omega
      · exact ih

theorem queueLaw_partLaw : PartLaw QueueLaw where
  reads := fun hs _ _ hlink _ => by
    unfold QueueLaw
    rw [hlink]
    exact hs
  less := fun h ⟨hlen, hsorted, hone⟩ =>
    ⟨h.queue.length_le.trans hlen, hsorted.sublist h.queue,
      (h.queue.filter _).length_le.trans hone⟩
  more := fun {s t} h ⟨hlen, hsorted, hone⟩ => by
    cases h with
    | attend e _ _ => exact ⟨hlen, hsorted, hone⟩
    | arrive e _ => exact ⟨hlen, hsorted, hone⟩
    | fault r _ => exact ⟨hlen, hsorted, hone⟩
    | hold h _ => exact ⟨hlen, hsorted, hone⟩
    | notice q hnone =>
      unfold State.enqueue
      split
      · exact ⟨hlen, hsorted, hone⟩
      · rename_i hroom
        have hlt : s.link.queue.length < 64 := by simpa [State.txFull] using hroom
        refine ⟨?_, insertNotice_sorted hsorted, ?_⟩
        · rw [modLink_link, length_insertNotice]
          exact hlt
        · rw [modLink_link, filter_insertNotice]
          split
          · rename_i hp
            have hempty : s.link.queue.filter isPresence = [] :=
              List.filter_eq_nil_iff.mpr (List.any_eq_false.mp (hnone hp))
            simp [hempty]
          · exact hone
    | request m _ => exact ⟨hlen, hsorted, hone⟩
    | peer k e _ _ => exact ⟨hlen, hsorted, hone⟩

/-! ### The roster (R123) -/

theorem stored_setRoster (s : State) (k j : StationNo) (e : RosterEntry) :
    (s.setRoster k e).stored j = if k = j then e else s.stored j := by
  simp only [State.stored, State.setRoster, modLink_link, Vector.getElem_set, BitVec.toNat_inj]

theorem stored_of_roster {s t : State} (h : t.link.roster = s.link.roster) (k : StationNo) :
    t.stored k = s.stored k := by
  unfold State.stored
  simp only [h]

theorem RosterLaw.of_roster {s t : State} (h : t.link.roster = s.link.roster)
    (hstation : t.station = s.station) (hs : RosterLaw s) : RosterLaw t := by
  obtain ⟨hok, hown⟩ := hs
  refine ⟨fun k => stored_of_roster h k ▸ hok k, ?_⟩
  rw [stored_of_roster h, hstation]
  exact hown

theorem rosterLaw_partLaw : PartLaw RosterLaw where
  reads := fun hs _ _ hlink hstation => hs.of_roster (by rw [hlink]) hstation
  less := fun h hs => hs.of_roster h.roster h.station
  more := fun h hs => by
    cases h with
    | attend e _ _ => exact hs
    | arrive e _ => exact hs
    | fault r _ => exact hs
    | hold h _ => exact hs
    | notice q _ =>
      refine hs.of_roster ?_ (by simp)
      unfold State.enqueue
      split <;> rfl
    | request m _ => exact hs
    | peer k e hok hown =>
      obtain ⟨hall, hmine⟩ := hs
      refine ⟨fun j => ?_, ?_⟩
      · rw [stored_setRoster]
        split
        · exact hok
        · exact hall j
      · rw [stored_setRoster]
        split
        · rename_i hk
          exact hown (by simpa using hk)
        · simpa using hmine

/-! ### The resets -/

theorem attentionLaw_of_nil {s : State} (h : s.port.attention = []) : AttentionLaw s := by
  simp [AttentionLaw, h]

theorem ringLaw_of_nil {s : State} (h : s.health.ring = []) : RingLaw s := by
  simp [RingLaw, h]

theorem holdLaw_of_nil {s : State} (h : s.link.holds = []) : HoldLaw s := by
  simp [HoldLaw, h]

theorem queueLaw_of_nil {s : State} (h : s.link.queue = []) : QueueLaw s := by
  simp [QueueLaw, h]

theorem rosterLaw_of_absent {s : State}
    (h : s.link.roster = Vector.replicate 8 RosterEntry.absent) : RosterLaw s := by
  have hstored := stored_of_absent_roster h
  refine ⟨fun k => ?_, hstored _⟩
  rw [hstored k]
  simp [rosterEntryOk, RosterEntry.absent]

/-- Settles O6: the counter and the places of the records move together when one joins the ring, and
neither reset of a station changes them apart. -/
theorem stepKeepsRingLaw : Obligations.StepKeepsRingLaw := by
  unfold Obligations.StepKeepsRingLaw
  intro s t hs h
  exact ringLaw_partLaw.step (fun _ _ => ringLaw_of_nil rfl) (fun _ hs => hs) hs h

/-- Settles O7: a hold joins only when the hold rule lets it stand. -/
theorem stepKeepsHoldLaw : Obligations.StepKeepsHoldLaw := by
  unfold Obligations.StepKeepsHoldLaw
  intro s t hs h
  exact holdLaw_partLaw.step (fun _ _ => holdLaw_of_nil rfl) (fun _ _ => holdLaw_of_nil rfl) hs h

/-- Settles O8: a notice joins a queue with room behind its own rank, and a PRESENCE only when none
waits. -/
theorem stepKeepsTransmitQueueLaw : Obligations.StepKeepsTransmitQueueLaw := by
  unfold Obligations.StepKeepsTransmitQueueLaw
  intro s t hs h
  exact queueLaw_partLaw.step (fun _ _ => queueLaw_of_nil rfl) (fun _ _ => queueLaw_of_nil rfl) hs h

end Sys2Proof.Machine
end

section
/-! SUPPORT. The capacities, and the laws of the store: flow bytes, tables and tags, and health. -/

namespace Sys2Proof.Machine

-- One proof after another: side by side, as many as stand here need more threads than the check gives.
set_option Elab.async false

open Relation (ReflTransGen)

/-! ### The capacities (R69, R83, R87, R130, R141) -/

theorem CapacityLaw.dwindles {s t : State} (h : Dwindles s t) (hs : CapacityLaw s) :
    CapacityLaw t := by
  obtain ⟨hrequests, hholds, hqueue, hlist, harrivals⟩ := hs
  exact ⟨h.requests.trans hrequests, h.localHolds.trans hholds, h.handed.trans hqueue,
    h.pendings.trans hlist, h.arrivals.trans harrivals⟩

theorem CapacityLaw.adds {s t : State} (h : Adds s t) (hs : CapacityLaw s) : CapacityLaw t := by
  obtain ⟨hrequests, hholds, hqueue, hlist, harrivals⟩ := hs
  cases h with
  | attend e _ _ => exact ⟨hrequests, hholds, hqueue, hlist, harrivals⟩
  | arrive e hroom => exact ⟨hrequests, hholds, hqueue, hlist, by simpa using hroom⟩
  | fault r _ => exact ⟨hrequests, hholds, hqueue, hlist, harrivals⟩
  | hold h _ => exact ⟨hrequests, hholds, hqueue, hlist, harrivals⟩
  | notice q _ =>
    unfold CapacityLaw
    simpa using ⟨hrequests, hholds, hqueue, hlist, harrivals⟩
  | request m hroom => exact ⟨by simpa using hroom, hholds, hqueue, hlist, harrivals⟩
  | peer k e _ _ => exact ⟨hrequests, hholds, hqueue, hlist, harrivals⟩

theorem CapacityLaw.calm {s t : State} (h : Calm s t) (hs : CapacityLaw s) : CapacityLaw t := by
  obtain hd | ha := h.dwindles_or_adds
  · exact hs.dwindles hd
  · exact hs.adds ha

theorem length_insertPending (e : PendingEntry) (l : List PendingEntry) :
    (insertPending e l).length = l.length + 1 := by
  induction l with
  | nil => rfl
  | cons x r ih =>
    unfold insertPending
    split <;> simp [ih]

theorem CapacityLaw.placing {s t : State} (h : Placing s t) (hs : CapacityLaw s) :
    CapacityLaw t := by
  cases h with
  | calm h => exact hs.calm h
  | entry e _ => exact hs
  | opened e hroom =>
    obtain ⟨hrequests, hholds, hqueue, _, harrivals⟩ := hs
    refine ⟨hrequests, hholds, hqueue, ?_, harrivals⟩
    rw [State.openPending, modTracker_tracker, length_insertPending]
    exact hroom
  | grant tag g _ => exact hs.dwindles (updFlow_dwindles s tag g)
  | localHold h hroom =>
    obtain ⟨hrequests, _, hqueue, hlist, harrivals⟩ := hs
    exact ⟨hrequests, by simpa using hroom, hqueue, hlist, harrivals⟩
  | phase g _ => exact hs
  | tail f => exact hs

theorem CapacityLaw.move {s t : State} (h : Move s t) (hs : CapacityLaw s) : CapacityLaw t := by
  cases h with
  | calm h => exact hs.calm h
  | hand m hcalms hroom _ =>
    obtain ⟨hrequests, hholds, _, hlist, harrivals⟩ := calms_keep CapacityLaw.calm hcalms hs
    exact ⟨hrequests, hholds, by simpa using hroom, hlist, harrivals⟩
  | begin b _ _ => exact hs
  | place => exact placeOne_keeps CapacityLaw.placing hs
  | enrol key single normal fallback _ _ => exact hs
  | bind _ _ _ => exact hs
  | remove h => exact hs.dwindles h.toDwindles
  | accept _ _ => exact hs
  | listen _ _ => exact hs

theorem capacityLaw_of_nil {s : State} (hp : s.planner = Planner.reset)
    (hm : s.mapPort = MapPort.reset) (ht : s.tracker = Tracker.reset) (ha : s.port.arrivals = []) :
    CapacityLaw s := by
  unfold CapacityLaw
  rw [hp, hm, ht, ha]
  exact ⟨Nat.zero_le _, Nat.zero_le _, Nat.zero_le _, Nat.zero_le _, Nat.zero_le _⟩

/-- Settles O5: every rule that lets something join a queue or a list asks for room first, and an offer
of attention for the tag. -/
theorem stepKeepsQueueCapacities : Obligations.StepKeepsQueueCapacities := by
  unfold Obligations.StepKeepsQueueCapacities
  intro s t h
  refine ⟨fun hs => ?attention, fun hs => ?capacities⟩
  case attention =>
    exact attentionLaw_partLaw.step (fun _ _ => attentionLaw_of_nil rfl)
      (fun _ _ => attentionLaw_of_nil rfl) hs h
  case capacities =>
    exact step_keeps CapacityLaw.move (fun _ _ hs => hs)
      (fun _ _ _ => capacityLaw_of_nil rfl rfl rfl rfl)
      (fun _ _ => capacityLaw_of_nil rfl rfl rfl rfl) hs h

/-! ### The store under the shared operations -/

theorem Adds.store {s t : State} (h : Adds s t) : t.store = s.store := by
  cases h <;> simp

theorem Adds.inForce {s t : State} (h : Adds s t) : t.life = s.life ∧ t.accepted = s.accepted := by
  cases h <;> simp

theorem updFlow_of_none {s : State} {tag : Tag} (h : s.flow tag = none) (g : Flow → Flow) :
    s.updFlow tag g = s := by
  simp only [State.updFlow, h]

theorem updFlow_store {s : State} {tag : Tag} {i : Nat} {f : Flow} (hi : s.flowIx tag = some i)
    (hf : s.flow tag = some f) (g : Flow → Flow) :
    (s.updFlow tag g).store = { s.store with flows := tabPut s.store.flows i (g f) } := by
  simp only [State.updFlow, State.writeFlow, hf, hi, settle_frame, modStore_store]

/-! ### Flow bytes (R30, R36, R43) -/

theorem FlowGrant.bytes {f f' : Flow} (h : FlowGrant f f') (hf : flowBytesOk f) : flowBytesOk f' := by
  obtain ⟨hcredit, hceiling, hout⟩ := hf
  exact ⟨h.ceiling ▸ h.credit hcredit, h.ceiling ▸ hceiling, h.outstanding hout⟩

theorem FlowMove.grant {f f' : Flow} (h : FlowMove f f') : FlowGrant f f' :=
  { tag := h.tag, cls := h.cls, ceiling := h.ceiling, credit := h.credit
    outstanding := h.outstanding }

theorem BytesLaw.of_flows {s t : State} (hs : BytesLaw s) (h : t.store.flows = s.store.flows) :
    BytesLaw t := by
  unfold BytesLaw
  rw [h]
  exact hs

theorem BytesLaw.at {s : State} (hs : BytesLaw s) {i : Nat} {f : Flow}
    (h : tabGet s.store.flows i = some f) : flowBytesOk f :=
  hs _ (mem_of_tabGet _ _ _ h)

theorem BytesLaw.put {s t : State} (hs : BytesLaw s) {i : Nat} {f : Flow} (hf : flowBytesOk f)
    (h : t.store.flows = tabPut s.store.flows i f) : BytesLaw t := by
  intro e he
  rw [h] at he
  obtain rfl | he := mem_tabPut _ _ _ _ he
  · exact hf
  · exact hs e he

theorem BytesLaw.updFlow {s : State} (hs : BytesLaw s) (tag : Tag) {g : Flow → Flow}
    (hg : ∀ f, s.flow tag = some f → flowBytesOk f → flowBytesOk (g f)) :
    BytesLaw (s.updFlow tag g) := by
  cases hf : s.flow tag with
  | none => rwa [updFlow_of_none hf]
  | some f =>
    obtain ⟨i, -, hi, hat⟩ := flow_record hf
    exact hs.put (hg f hf (hs.at hat)) (by rw [updFlow_store hi hf])

theorem orphanGone_tables (s : State) (tag : Tag) :
    (s.orphanGone tag).store.flows = s.store.flows ∧
      (s.orphanGone tag).store.modems = s.store.modems := by
  unfold State.orphanGone
  split <;> exact ⟨rfl, rfl⟩

theorem BytesLaw.calm {s t : State} (h : Calm s t) (hs : BytesLaw s) : BytesLaw t := by
  cases h with
  | wane h => exact hs.of_flows (by rw [h.store])
  | adds h => exact hs.of_flows (by rw [h.store])
  | flow tag g hg => exact hs.updFlow tag fun f hf => (hg f hf).grant.bytes
  | record hf hmove => exact hs.updFlow _ fun _ _ _ => hmove.grant.bytes (hs.at hf)
  | orphan tag => exact hs.of_flows (orphanGone_tables s tag).1
  | modem _ _ => exact hs
  | noModem i => exact hs

theorem BytesLaw.placing {s t : State} (h : Placing s t) (hs : BytesLaw s) : BytesLaw t := by
  cases h with
  | calm h => exact hs.calm h
  | entry e _ => exact hs
  | opened e _ => exact hs
  | grant tag g hg => exact hs.updFlow tag fun f _ => (hg f).bytes
  | localHold h _ => exact hs
  | phase g _ => exact hs
  | tail f => exact hs

theorem BytesLaw.move {s t : State} (h : Move s t) (hs : BytesLaw s) : BytesLaw t := by
  cases h with
  | calm h => exact hs.calm h
  | hand m hcalms _ _ => exact (calms_keep BytesLaw.calm hcalms hs :)
  | begin b _ _ => exact hs
  | place => exact placeOne_keeps BytesLaw.placing hs
  | enrol key single normal fallback _ _ => exact hs
  | bind hfresh _ _ => exact hs.put hfresh.bytes rfl
  | remove h =>
    intro e he
    rw [h.flows] at he
    exact hs e (mem_tabDel _ _ _ he)
  | accept _ _ => exact hs
  | listen _ _ => exact hs

theorem bytesLaw_of_nil {s : State} (h : s.store = FlowStore.reset) : BytesLaw s := by
  intro e he
  rw [h] at he
  cases he

/-- Settles O9: additions to outstanding saturate, credit is held at the ceiling wherever it rises, and
an admission clamps the ceiling. -/
theorem stepKeepsFlowBytesLaw : Obligations.StepKeepsFlowBytesLaw := by
  unfold Obligations.StepKeepsFlowBytesLaw
  intro s t hs h
  exact step_keeps BytesLaw.move (fun _ _ hs => hs) (fun _ _ _ => bytesLaw_of_nil rfl)
    (fun _ _ => bytesLaw_of_nil rfl) hs h

/-! ### The tables and the tags (R40, R41) -/

/-- The record that a tag is BOUND to, of a station with the law. -/
theorem StoreLaw.bound {s : State} (hs : StoreLaw s) {tag : Tag} {f : Flow}
    (h : s.flow tag = some f) : f.tag = tag := by
  obtain ⟨-, hbound, -⟩ := hs
  obtain ⟨i, hi, -, hat⟩ := flow_record h
  obtain ⟨f', hf', htag⟩ := hbound tag i hi
  cases hat.symm.trans hf'
  exact htag

/-- A record in use is the one its tag names. -/
theorem StoreLaw.named {s : State} (hs : StoreLaw s) {i : Nat} {f : Flow}
    (h : tabGet s.store.flows i = some f) : s.flowIx f.tag = some i ∧ s.flow f.tag = some f := by
  obtain ⟨-, -, hrecords⟩ := hs
  have hix : s.flowIx f.tag = some i := by simp [State.flowIx, hrecords i f h]
  exact ⟨hix, by simp [State.flow, hix, h]⟩

theorem StoreLaw.of_store {s t : State} (hs : StoreLaw s) (h : t.store = s.store) : StoreLaw t := by
  unfold StoreLaw TablesLaw State.tagState
  rw [h]
  exact hs

/-- A record is replaced by one with the same tag. -/
theorem StoreLaw.putFlow {s t : State} (hs : StoreLaw s) {i : Nat} {f f' : Flow}
    (hf : tabGet s.store.flows i = some f) (htag : f'.tag = f.tag)
    (h : t.store = { s.store with flows := tabPut s.store.flows i f' }) : StoreLaw t := by
  obtain ⟨⟨hmodems, ⟨hwf, hlt⟩, htags⟩, hbound, hrecords⟩ := hs
  have hstate (tag : Tag) : t.tagState tag = s.tagState tag := by simp [State.tagState, h]
  have hget (j : Nat) : tabGet t.store.flows j = if j = i then some f' else tabGet s.store.flows j := by
    rw [h]
    exact tabGet_tabPut _ _ _ _
  refine ⟨⟨?modems, ⟨?flows, ?size⟩, ?tags⟩, fun tag j hj => ?bound, fun j g hg => ?records⟩
  case modems => rwa [h]
  case flows =>
    rw [h]
    exact tabWf_tabPut _ _ _ hwf
  case size =>
    intro e he
    rw [h] at he
    obtain rfl | he := mem_tabPut _ _ _ _ he
    · exact hlt (i, f) (mem_of_tabGet _ _ _ hf)
    · exact hlt e he
  case tags => rwa [h]
  case bound =>
    obtain ⟨g, hg, hgtag⟩ := hbound tag j (hstate tag ▸ hj)
    rw [hget]
    split
    · rename_i hji
      subst hji
      cases hf.symm.trans hg
      exact ⟨f', rfl, htag.trans hgtag⟩
    · exact ⟨g, hg, hgtag⟩
  case records =>
    rw [hget] at hg
    rw [hstate]
    split at hg
    · rename_i hji
      subst hji
      cases hg
      exact htag ▸ hrecords j f hf
    · exact hrecords j g hg

theorem StoreLaw.updFlow {s : State} (hs : StoreLaw s) (tag : Tag) {g : Flow → Flow}
    (hg : ∀ f, s.flow tag = some f → (g f).tag = f.tag) : StoreLaw (s.updFlow tag g) := by
  cases hf : s.flow tag with
  | none => rwa [updFlow_of_none hf]
  | some f =>
    obtain ⟨i, -, hi, hat⟩ := flow_record hf
    exact hs.putFlow hat (hg f hf) (updFlow_store hi hf g)

/-- A tag that is BOUND neither before nor after changes. -/
theorem StoreLaw.putTag {s t : State} (hs : StoreLaw s) {tag : Tag}
    (hflows : t.store.flows = s.store.flows) (hmodems : t.store.modems = s.store.modems)
    (htags : tabWf t.store.tagMap = true)
    (hothers : ∀ tag', tag' ≠ tag → t.tagState tag' = s.tagState tag')
    (hbefore : ∀ i, s.tagState tag ≠ some (.bound i))
    (hafter : ∀ i, t.tagState tag ≠ some (.bound i)) : StoreLaw t := by
  obtain ⟨⟨hm, hf, -⟩, hbound, hrecords⟩ := hs
  refine ⟨⟨hmodems ▸ hm, hflows ▸ hf, htags⟩, fun tag' i hi => ?_, fun i f hat => ?_⟩
  · have hne : tag' ≠ tag := fun he => hafter i (he ▸ hi)
    rw [hflows]
    exact hbound tag' i (hothers tag' hne ▸ hi)
  · rw [hflows] at hat
    have hstate := hrecords i f hat
    have hne : f.tag ≠ tag := fun he => hbefore i (he ▸ hstate)
    rw [hothers _ hne]
    exact hstate

theorem toNat_ne {a b : Tag} (h : a ≠ b) : a.toNat ≠ b.toNat := fun he => h (BitVec.eq_of_toNat_eq he)

theorem StoreLaw.orphanGone {s : State} (hs : StoreLaw s) (tag : Tag) :
    StoreLaw (s.orphanGone tag) := by
  obtain ⟨⟨-, -, hwf⟩, -, -⟩ := id hs
  unfold State.orphanGone
  split
  · rename_i n hn
    refine hs.putTag (tag := tag) rfl rfl ?_ (fun tag' hne => ?_) (fun i hi => ?_) fun i hi => ?_
    · dsimp only [modStore_store]
      split
      · exact tabWf_tabDel _ _ hwf
      · exact tabWf_tabPut _ _ _ hwf
    · simp only [State.tagState, modStore_store]
      split
      · rw [tabGet_tabDel _ _ _ hwf, if_neg (toNat_ne hne)]
      · rw [tabGet_tabPut, if_neg (toNat_ne hne)]
    · cases hn.symm.trans hi
    · simp only [State.tagState, modStore_store] at hi
      split at hi
      · rw [tabGet_tabDel _ _ _ hwf, if_pos rfl] at hi
        cases hi
      · rw [tabGet_tabPut, if_pos rfl] at hi
        cases hi
  · exact hs

theorem StoreLaw.putModems {s t : State} (hs : StoreLaw s)
    (hflows : t.store.flows = s.store.flows) (htags : t.store.tagMap = s.store.tagMap)
    (hwf : tabWf t.store.modems = true) (hlt : ∀ e ∈ t.store.modems, e.1 < 4096) : StoreLaw t := by
  unfold StoreLaw TablesLaw State.tagState
  rw [hflows, htags]
  obtain ⟨⟨-, hrest⟩, hlinks⟩ := hs
  exact ⟨⟨⟨hwf, hlt⟩, hrest⟩, hlinks⟩

theorem StoreLaw.writeModem {s : State} (hs : StoreLaw s) {i : Nat} (m : Modem) (hi : i < 4096) :
    StoreLaw (s.writeModem i m) := by
  obtain ⟨⟨⟨hwf, hlt⟩, -⟩, -⟩ := id hs
  refine hs.putModems rfl rfl (tabWf_tabPut _ _ _ hwf) fun e he => ?_
  obtain rfl | he := mem_tabPut _ _ _ _ he
  · exact hi
  · exact hlt e he

theorem StoreLaw.freeModem {s : State} (hs : StoreLaw s) (i : Nat) : StoreLaw (s.freeModem i) := by
  obtain ⟨⟨⟨hwf, hlt⟩, -⟩, -⟩ := id hs
  exact hs.putModems rfl rfl (tabWf_tabDel _ _ hwf) fun e he => hlt e (mem_tabDel _ _ _ he)

theorem StoreLaw.calm {s t : State} (h : Calm s t) (hs : StoreLaw s) : StoreLaw t := by
  cases h with
  | wane h => exact hs.of_store h.store
  | adds h => exact hs.of_store h.store
  | flow tag g hg => exact hs.updFlow tag fun f hf => (hg f hf).tag
  | record hf hmove =>
    refine hs.updFlow _ fun f' hf' => ?_
    rw [hmove.tag, hs.bound hf']
  | orphan tag => exact hs.orphanGone tag
  | modem hm _ =>
    obtain ⟨⟨⟨-, hlt⟩, -⟩, -⟩ := id hs
    exact hs.writeModem _ (hlt _ (mem_of_tabGet _ _ _ hm))
  | noModem i => exact hs.freeModem i

theorem StoreLaw.placing {s t : State} (h : Placing s t) (hs : StoreLaw s) : StoreLaw t := by
  cases h with
  | calm h => exact hs.calm h
  | entry e _ => exact hs
  | opened e _ => exact hs
  | grant tag g hg => exact hs.updFlow tag fun f _ => (hg f).tag
  | localHold h _ => exact hs
  | phase g _ => exact hs
  | tail f => exact hs

theorem freeRecord_lt {α : Type} {t : List (Nat × α)} {size i : Nat}
    (h : freeRecord t size = some i) : i < size ∧ i = lowestFree t 0 := by
  unfold freeRecord at h
  split at h
  · cases h
    exact ⟨‹_›, rfl⟩
  · cases h

/-- A new record at a FREE index, with its tag BOUND to it. -/
theorem StoreLaw.bind {s : State} (hs : StoreLaw s) {ix : Nat} {f : Flow}
    (htag : s.tagState f.tag = none)
    (hfree : freeRecord s.store.flows Config.flowRecords = some ix) :
    StoreLaw (s.modStore fun st => { st with
      flows := tabPut st.flows ix f, tagMap := tabPut st.tagMap f.tag.toNat (.bound ix) }) := by
  obtain ⟨⟨hmodems, ⟨hwf, hlt⟩, htags⟩, hbound, hrecords⟩ := hs
  obtain ⟨hix, hlow⟩ := freeRecord_lt hfree
  have hnone : tabGet s.store.flows ix = none := hlow ▸ tabGet_lowestFree hwf
  refine ⟨⟨hmodems, ⟨tabWf_tabPut _ _ _ hwf, fun e he => ?size⟩, tabWf_tabPut _ _ _ htags⟩,
    fun tag i hi => ?bound, fun i g hg => ?records⟩
  case size =>
    obtain rfl | he := mem_tabPut _ _ _ _ he
    · exact hix
    · exact hlt e he
  case bound =>
    simp only [State.tagState, modStore_store, tabGet_tabPut] at hi ⊢
    split at hi
    · rename_i heq
      cases hi
      exact ⟨f, by simp, (BitVec.eq_of_toNat_eq heq).symm⟩
    · obtain ⟨g, hg, hgtag⟩ := hbound tag i hi
      have hne : i ≠ ix := fun he => by simp [he, hnone] at hg
      exact ⟨g, by rwa [if_neg hne], hgtag⟩
  case records =>
    simp only [State.tagState, modStore_store, tabGet_tabPut] at hg ⊢
    split at hg
    · rename_i heq
      cases hg
      rw [if_pos rfl, heq]
    · have hstate := hrecords i g hg
      have hne : g.tag ≠ f.tag := fun he => by simp [he, htag] at hstate
      rw [if_neg (toNat_ne hne)]
      exact hstate

theorem Removes.named_of_store {s t : State} {tag : Tag} {ix : Nat} {f : Flow}
    (h : Removes s t tag ix f) (hs : StoreLaw s) :
    s.tagState tag = some (.bound ix) ∧ tabGet s.store.flows ix = some f ∧ f.tag = tag := by
  obtain ⟨-, hbound, hrecords⟩ := id hs
  obtain ⟨hix, hf⟩ | ⟨hat, rfl⟩ := h.named
  · obtain ⟨i, hi, hix', hat⟩ := flow_record hf
    cases hix.symm.trans hix'
    exact ⟨hi, hat, hs.bound hf⟩
  · exact ⟨hrecords ix f hat, hat, rfl⟩

/-- The record of a removed flow is FREE and its tag no longer BOUND. -/
theorem Removes.reads {s t : State} {tag : Tag} {ix : Nat} {f : Flow} (h : Removes s t tag ix f)
    (hs : StoreLaw s) :
    (∀ j, tabGet t.store.flows j = if j = ix then none else tabGet s.store.flows j) ∧
      (∀ tag', tag' ≠ tag → t.tagState tag' = s.tagState tag') ∧
      ∀ i, t.tagState tag ≠ some (.bound i) := by
  obtain ⟨⟨-, ⟨hwf, -⟩, htags⟩, -, -⟩ := hs
  refine ⟨fun j => ?_, fun tag' hne => ?_, fun i hi => ?_⟩
  · rw [h.flows]
    exact tabGet_tabDel _ _ _ hwf
  · unfold State.tagState
    obtain hmap | ⟨n, hmap⟩ := h.tagMap
    · rw [hmap, tabGet_tabDel _ _ _ htags, if_neg (toNat_ne hne)]
    · rw [hmap, tabGet_tabPut, if_neg (toNat_ne hne)]
  · unfold State.tagState at hi
    obtain hmap | ⟨n, hmap⟩ := h.tagMap
    · rw [hmap, tabGet_tabDel _ _ _ htags, if_pos rfl] at hi
      cases hi
    · rw [hmap, tabGet_tabPut, if_pos rfl] at hi
      cases hi

theorem StoreLaw.removes {s t : State} {tag : Tag} {ix : Nat} {f : Flow} (hs : StoreLaw s)
    (h : Removes s t tag ix f) : StoreLaw t := by
  obtain ⟨hget, hothers, hgone⟩ := h.reads hs
  obtain ⟨hix, hat, -⟩ := h.named_of_store hs
  obtain ⟨⟨hmodems, ⟨hwf, hlt⟩, htags⟩, hbound, hrecords⟩ := hs
  refine ⟨⟨h.modems ▸ hmodems, ⟨?flows, ?size⟩, ?tags⟩, fun tag' i hi => ?bound,
    fun i g hg => ?records⟩
  case flows =>
    rw [h.flows]
    exact tabWf_tabDel _ _ hwf
  case size =>
    intro e he
    rw [h.flows] at he
    exact hlt e (mem_tabDel _ _ _ he)
  case tags =>
    obtain hmap | ⟨n, hmap⟩ := h.tagMap
    · rw [hmap]
      exact tabWf_tabDel _ _ htags
    · rw [hmap]
      exact tabWf_tabPut _ _ _ htags
  case bound =>
    have hne : tag' ≠ tag := fun he => hgone i (he ▸ hi)
    obtain ⟨g, hg, hgtag⟩ := hbound tag' i (hothers tag' hne ▸ hi)
    have hi' : i ≠ ix := by
      intro he
      have hsame := hrecords i g hg
      rw [hgtag] at hsame
      obtain ⟨f', hf', htag'⟩ := hbound tag ix hix
      rw [he] at hg
      cases hg.symm.trans hf'
      exact hne (hgtag.symm.trans htag')
    exact ⟨g, by rwa [hget, if_neg hi'], hgtag⟩
  case records =>
    rw [hget] at hg
    split at hg
    · cases hg
    · rename_i hi'
      have hstate := hrecords i g hg
      have hne : g.tag ≠ tag := by
        intro he
        rw [he] at hstate
        cases hix.symm.trans hstate
        exact hi' rfl
      rw [hothers _ hne]
      exact hstate

theorem StoreLaw.move {s t : State} (h : Move s t) (hs : StoreLaw s) : StoreLaw t := by
  cases h with
  | calm h => exact hs.calm h
  | hand m hcalms _ _ => exact (calms_keep StoreLaw.calm hcalms hs).of_store rfl
  | begin b _ _ => exact hs
  | place => exact placeOne_keeps StoreLaw.placing hs
  | enrol key single normal fallback _ hfree => exact hs.writeModem _ (freeRecord_lt hfree).1
  | bind _ htag hfree => exact hs.bind htag hfree
  | remove h => exact hs.removes h
  | accept _ _ => exact hs
  | listen _ _ => exact hs

theorem storeLaw_of_nil {s : State} (h : s.store = FlowStore.reset) : StoreLaw s := by
  unfold StoreLaw TablesLaw State.tagState
  rw [h]
  simp [FlowStore.reset, tabWf, tabGet]

/-- Settles O10: an admission binds a FREE tag to a FREE record, a removal frees both, and no other
write changes a tag or an index. -/
theorem stepKeepsStoreLaw : Obligations.StepKeepsStoreLaw := by
  unfold Obligations.StepKeepsStoreLaw
  intro s t hs h
  exact step_keeps StoreLaw.move (fun _ _ hs => hs) (fun _ _ _ => storeLaw_of_nil rfl)
    (fun _ _ => storeLaw_of_nil rfl) hs h

/-! ### Health (R147) -/

theorem modemHealthy_iff {r : StartRecord} {m : Modem} : modemHealthy r m ↔
    (m.presence ≤ r.t1.toNat ∨ m.integrity ≤ r.t2.toNat ∨ m.margin ≤ r.t3.toNat →
      m.state = .degraded) := by
  simp [modemHealthy, Modem.failing, or_assoc]

/-- The law of health by its parts. -/
theorem healthLaw_iff {s : State} : HealthLaw s ↔
    (s.life = .start → s.store.modems = []) ∧
      (∀ r, s.accepted = some r →
        thresholdsOk r ∧ ∀ e ∈ s.store.modems, modemHealthy r e.2) ∧
      ∀ e ∈ s.store.modems, modemBounds e.2 := by
  simp only [modemHealthy_iff]
  rfl

theorem inForce_of_accepted {s : State} {r : StartRecord} (hlife : s.life ≠ .start)
    (h : s.accepted = some r) : s.inForce = r := by
  cases hl : s.life with
  | start => exact absurd hl hlife
  | listen => simp only [State.inForce, hl, h]
  | serving => simp only [State.inForce, hl, h]

theorem HealthLaw.of_modems {s t : State} (hs : HealthLaw s) (hlife : t.life = .start → s.life = .start)
    (haccepted : t.accepted = s.accepted) (hmodems : t.store.modems ⊆ s.store.modems) :
    HealthLaw t := by
  rw [healthLaw_iff] at hs ⊢
  obtain ⟨hstart, hrecord, hbounds⟩ := hs
  refine ⟨fun hl => List.subset_nil.mp (hstart (hlife hl) ▸ hmodems), fun r hr => ?_,
    fun e he => hbounds e (hmodems he)⟩
  obtain ⟨hok, hhealthy⟩ := hrecord r (haccepted ▸ hr)
  exact ⟨hok, fun e he => hhealthy e (hmodems he)⟩

theorem HealthLaw.put {s : State} (hs : HealthLaw s) (hlife : s.life ≠ .start) {i : Nat} {m : Modem}
    (hbounds : modemBounds m) (hhealthy : thresholdsOk s.inForce → modemHealthy s.inForce m) :
    HealthLaw (s.writeModem i m) := by
  rw [healthLaw_iff] at hs ⊢
  obtain ⟨-, hrecord, hall⟩ := hs
  refine ⟨fun hl => absurd (by simpa using hl) hlife, fun r hr => ?_, fun e he => ?_⟩
  · rw [writeModem_frame s i m |>.2.2.1] at hr
    obtain ⟨hok, hold⟩ := hrecord r hr
    refine ⟨hok, fun e he => ?_⟩
    obtain rfl | he := mem_tabPut _ _ _ _ he
    · have hr' := inForce_of_accepted hlife hr
      rw [hr'] at hhealthy
      exact hhealthy hok
    · exact hold e he
  · obtain rfl | he := mem_tabPut _ _ _ _ he
    · exact hbounds
    · exact hall e he

theorem HealthLaw.writeModem {s : State} (hs : HealthLaw s) {i : Nat} {m m' : Modem}
    (hm : s.modemAt i = some m) (hmove : ModemMove s.inForce m m') : HealthLaw (s.writeModem i m') := by
  have hmem := mem_of_tabGet _ _ _ hm
  obtain ⟨hstart, hrecord, hbounds⟩ := healthLaw_iff.mp hs
  have hlife : s.life ≠ .start := fun hl => by simp [hstart hl] at hmem
  refine hs.put hlife (hmove.bounds (hbounds _ hmem)) fun hok => hmove.healthy hok ?_
  cases haccepted : s.accepted with
  | some r =>
    rw [inForce_of_accepted hlife haccepted]
    exact (hrecord r haccepted).2 _ hmem
  | none =>
    have hnone : s.inForce = noRecord := by
      unfold State.inForce
      rw [haccepted]
      split <;> simp_all
    obtain ⟨-, -, -, hrecover⟩ := hnone ▸ hok
    exact absurd hrecover (by decide)

theorem HealthLaw.calm {s t : State} (h : Calm s t) (hs : HealthLaw s) : HealthLaw t := by
  have hsame {u : State} (hl : u.life = s.life) (ha : u.accepted = s.accepted)
      (hm : u.store.modems = s.store.modems) : HealthLaw u :=
    hs.of_modems (fun h => hl ▸ h) ha (hm ▸ List.Subset.refl _)
  cases h with
  | wane h =>
    refine hs.of_modems (fun hl => ?_) h.accepted (h.store ▸ List.Subset.refl _)
    obtain hsame | hserving := h.life
    · exact hsame ▸ hl
    · rw [hserving] at hl
      cases hl
  | adds h => exact hsame h.inForce.1 h.inForce.2 (by rw [h.store])
  | flow tag g _ => exact hsame (by simp) (by simp) (by simp)
  | record _ _ => exact hsame (by simp) (by simp) (by simp)
  | orphan tag => exact hsame (by simp) (by simp) (orphanGone_tables s tag).2
  | modem hm hmove => exact hs.writeModem hm hmove
  | noModem i => exact hs.of_modems id rfl fun e he => mem_tabDel _ _ _ he

theorem HealthLaw.placing {s t : State} (h : Placing s t) (hs : HealthLaw s) : HealthLaw t := by
  cases h with
  | calm h => exact hs.calm h
  | entry e _ => exact hs
  | opened e _ => exact hs
  | grant tag g _ =>
    exact hs.of_modems (fun h => by simpa using h) (by simp) (by simp)
  | localHold h _ => exact hs
  | phase g _ => exact hs
  | tail f => exact hs

/-- A new modem has full scores, above every threshold (R34). -/
theorem newModem_healthy {r : StartRecord} (hr : thresholdsOk r) (key : Key) (single : Bool)
    (normal fallback : ProfileIx) : modemHealthy r (newModem key single normal fallback) := by
  obtain ⟨h1, h2, h3, -⟩ := hr
  rw [modemHealthy_iff]
  simp only [newModem, Config.maxScore]
  omega

theorem newModem_bounds (key : Key) (single : Bool) (normal fallback : ProfileIx) :
    modemBounds (newModem key single normal fallback) :=
  ⟨Nat.le_refl _, Nat.le_refl _, Nat.le_refl _, Nat.zero_le _, Nat.zero_le _⟩

theorem HealthLaw.move {s t : State} (h : Move s t) (hs : HealthLaw s) : HealthLaw t := by
  cases h with
  | calm h => exact hs.calm h
  | hand m hcalms _ _ => exact (calms_keep HealthLaw.calm hcalms hs :)
  | begin b _ _ => exact hs
  | place => exact placeOne_keeps HealthLaw.placing hs
  | enrol key single normal fallback hlife _ =>
    exact hs.put hlife (newModem_bounds key single normal fallback) fun hok =>
      newModem_healthy hok key single normal fallback
  | bind _ _ _ => exact hs
  | remove h =>
    refine hs.of_modems (fun hl => ?_) h.accepted (h.modems ▸ List.Subset.refl _)
    obtain hsame | hserving := h.life
    · exact hsame ▸ hl
    · rw [hserving] at hl
      cases hl
  | accept hlife hok =>
    rw [healthLaw_iff] at hs ⊢
    obtain ⟨hstart, -, -⟩ := hs
    refine ⟨fun _ => hstart hlife, fun r hr => ?_, ?_⟩
    · cases hr
      exact ⟨hok, by simp [hstart hlife]⟩
    · simp [hstart hlife]
  | listen hlife haccepted =>
    rw [healthLaw_iff] at hs ⊢
    obtain ⟨hstart, hrecord, -⟩ := hs
    refine ⟨fun hl => (by cases hl), fun r hr => ?_, ?_⟩
    · cases hr
      refine ⟨?_, by simp [hstart hlife]⟩
      obtain hr | hok := haccepted
      · exact (hrecord _ hr).1
      · exact hok
    · simp [hstart hlife]

theorem healthLaw_of_reset {s : State} (hstore : s.store = FlowStore.reset)
    (haccepted : s.accepted = none) : HealthLaw s := by
  rw [healthLaw_iff, hstore, haccepted]
  simp [FlowStore.reset]

/-- Settles O13: an outcome that brings a score to its threshold degrades the modem at the same event,
one that restores it finds every score above its threshold, and a modem joins with full scores. -/
theorem stepKeepsHealthLaw : Obligations.StepKeepsHealthLaw := by
  unfold Obligations.StepKeepsHealthLaw
  intro s t hs h
  exact step_keeps HealthLaw.move (fun _ _ hs => hs) (fun _ _ _ => healthLaw_of_reset rfl rfl)
    (fun _ _ => healthLaw_of_reset rfl rfl) hs h

end Sys2Proof.Machine
end

section
/-! SUPPORT. A station in START, timed and untimed: what the commands make of it. -/

namespace Sys2Proof.Machine

-- One proof after another: side by side, as many as stand here need more threads than the check gives.
set_option Elab.async false

/-! ### A station out of START stays so, and a timed one timed -/

theorem Dwindles.inService {s t : State} (h : Dwindles s t) (hs : s.life ≠ .start) :
    t.life ≠ .start := by
  obtain hl | hl := h.life
  · exact hl ▸ hs
  · simp [hl]

theorem Calm.inService {s t : State} (h : Calm s t) (hs : s.life ≠ .start) : t.life ≠ .start := by
  obtain hd | ha := h.dwindles_or_adds
  · exact hd.inService hs
  · exact ha.inForce.1 ▸ hs

theorem Move.inService {s t : State} (h : Move s t) (hs : s.life ≠ .start) : t.life ≠ .start := by
  cases h with
  | calm h => exact h.inService hs
  | hand m hcalms _ _ => exact (calms_keep Calm.inService hcalms hs :)
  | begin b _ _ => exact hs
  | place => simpa using hs
  | enrol key single normal fallback _ _ => simpa using hs
  | bind _ _ _ => exact hs
  | remove h => exact h.toDwindles.inService hs
  | accept _ _ => exact hs
  | listen _ _ => exact nofun

theorem Moves.inService {s t : State} (h : Moves s t) (hs : s.life ≠ .start) : t.life ≠ .start := by
  induction h with
  | refl => exact hs
  | tail _ hlast ih => exact hlast.inService ih

theorem Adds.time {s t : State} (h : Adds s t) : t.time = s.time := by
  cases h <;> simp

theorem Calm.timed {s t : State} (h : Calm s t) (hs : s.time.timed = true) : t.time.timed = true := by
  obtain hd | ha := h.dwindles_or_adds
  · exact hd.timed hs
  · exact ha.time ▸ hs

theorem Move.timed {s t : State} (h : Move s t) (hs : s.time.timed = true) : t.time.timed = true := by
  cases h with
  | calm h => exact h.timed hs
  | hand m hcalms _ _ => exact (calms_keep Calm.timed hcalms hs :)
  | begin b _ _ => exact hs
  | place => simpa using hs
  | enrol key single normal fallback _ _ => simpa using hs
  | bind _ _ _ => exact hs
  | remove h => exact h.toDwindles.timed hs
  | accept _ _ => exact hs
  | listen _ _ => exact hs

theorem Moves.timed {s t : State} (h : Moves s t) (hs : s.time.timed = true) :
    t.time.timed = true := by
  induction h with
  | refl => exact hs
  | tail _ hlast ih => exact hlast.timed ih

/-! ### The maps under calm moves -/

theorem Adds.maps {s t : State} (h : Adds s t) : t.maps = s.maps := by
  cases h <;> simp [State.maps]

theorem Calm.mapsFrom {s t : State} (h : Calm s t) : MapsFrom s t := by
  obtain hd | ha := h.dwindles_or_adds
  · exact hd.maps
  · exact .of_eq ha.maps

theorem Calms.mapsFrom {s t : State} (h : Calms s t) : MapsFrom s t := by
  induction h with
  | refl => exact .of_eq rfl
  | tail _ hlast ih => exact ih.trans hlast.mapsFrom

theorem MapsFrom.nil {s t : State} (h : MapsFrom s t) (hs : s.maps = []) : t.maps = [] := by
  refine List.eq_nil_iff_forall_not_mem.mpr fun m hm => ?_
  obtain ⟨m0, hm0, -⟩ := h m hm
  simp [hs] at hm0

theorem Quiet.maps {s : State} (h : Quiet s) : s.maps = [] := by
  simp [State.maps, h.planner, h.mapPort, Planner.reset, MapPort.reset]

/-! ### What a quiet station in START does -/

/-- The time, the response, the counters of the port and of the link, and the medium are all that may
change. -/
structure Still (s t : State) : Prop where
  life : t.life = s.life := by rfl
  chans : t.chans = s.chans := by rfl
  listenEnd : t.listenEnd = s.listenEnd := by rfl
  store : t.store = s.store := by rfl
  planner : t.planner = s.planner := by rfl
  mapPort : t.mapPort = s.mapPort := by rfl
  queue : t.link.queue = s.link.queue := by rfl
  roster : t.link.roster = s.link.roster := by rfl
  holds : t.link.holds = s.link.holds := by rfl
  presence : t.link.presence = s.link.presence := by rfl
  medium : t.link.medium = s.link.medium ∨ t.link.medium = .sending ∨
    ∃ b, t.link.medium = .idle s.link.queue.head? b := by exact .inl rfl
  tracker : t.tracker = s.tracker := by rfl
  sweep : t.sweep = s.sweep := by rfl
  attention : t.port.attention = s.port.attention := by rfl
  arrivals : t.port.arrivals = s.port.arrivals := by rfl

theorem Quiet.still {s t : State} (h : Quiet s) (hst : Still s t) : Quiet t where
  chans := hst.chans ▸ h.chans
  listenEnd := hst.listenEnd.trans h.listenEnd
  store := hst.store.trans h.store
  planner := hst.planner.trans h.planner
  mapPort := hst.mapPort.trans h.mapPort
  queue := hst.queue.trans h.queue
  roster := hst.roster.trans h.roster
  holds := hst.holds.trans h.holds
  presence := hst.presence.trans h.presence
  contender := fun q b => by
    obtain hm | hm | ⟨e, hm⟩ := hst.medium
    · exact hm ▸ h.contender q b
    · simp [hm]
    · simp [hm, h.queue]
  pendings := hst.tracker ▸ h.pendings
  sweep := hst.sweep ▸ h.sweep
  attention := hst.attention.trans h.attention
  arrivals := hst.arrivals.trans h.arrivals

/-- Quiet and in START. -/
structure Waiting (s : State) : Prop where
  quiet : Quiet s
  life : s.life = .start

theorem Waiting.still {s t : State} (h : Waiting s) (hst : Still s t) : Waiting t :=
  ⟨h.quiet.still hst, hst.life.trans h.life⟩

theorem Waiting.setNow {s : State} (h : Waiting s) (t : Tick) : Waiting (s.setNow t) := by
  rw [h.quiet.setNow_eq]
  exact h.still {}

theorem Waiting.fallBeat {s : State} (h : Waiting s) : Waiting s.fallBeat := by
  refine h.still ?_
  unfold State.fallBeat
  dsimp only
  split
  · exact {}
  · exact {}

/-- Only a beat may stand in START (R6, R13). -/
theorem Waiting.beat_of_mem {s : State} (h : Waiting s) {d : Deadline} (hd : d ∈ s.deadlines) :
    d = .beat s.time.nextBeat := by
  cases ht : s.time.timed with
  | true =>
    rw [h.quiet.deadlines_timed ht] at hd
    exact List.mem_singleton.mp hd
  | false => simp [State.deadlines, ht] at hd

theorem Waiting.fall {s u : State} (h : Waiting s) {d : Deadline} (hd : d ∈ s.deadlines)
    (hu : Waiting u) : Waiting (u.fall d) := by
  rw [h.beat_of_mem hd]
  exact hu.fallBeat

theorem mem_of_mem_within {s : State} {n : Nat} {d : Deadline} (h : d ∈ s.within n) :
    d ∈ s.deadlines := List.mem_of_mem_filter h

theorem mem_of_mem_nearest {s : State} {n : Nat} {d : Deadline} (h : d ∈ s.nearest n) :
    d ∈ s.deadlines := mem_of_mem_within (List.mem_of_mem_filter h)

theorem Waiting.draw {α : Type} {s t : State} (h : Waiting s) {l : List α} {d : α}
    (hdraw : s.draw l = some (d, t)) : d ∈ l ∧ Waiting t := by
  obtain ⟨hd, n, rfl⟩ := draw_eq hdraw
  exact ⟨hd, h.still {}⟩

theorem Waiting.countLoop {s : State} (h : Waiting s) (n : Nat) (t : Tick) :
    Waiting (State.countLoop n t s) := by
  induction n generalizing s with
  | zero => exact h.setNow t
  | succ n ih =>
    unfold State.countLoop
    split
    · exact h.setNow t
    · rename_i d s' hdraw
      obtain ⟨hd, hs'⟩ := h.draw hdraw
      exact ih (h.fall (mem_of_mem_nearest hd) (hs'.setNow _))

theorem Waiting.atDeadline {s : State} (h : Waiting s) (d : Deadline) : Waiting (s.atDeadline d) := by
  unfold State.atDeadline
  dsimp only
  split
  · have hcounted : Waiting (s.countTo (s.tickOf d)) := h.countLoop _ _
    split
    · rename_i hd
      exact hcounted.fall hd hcounted
    · exact hcounted
  · exact h

theorem Waiting.presentLoop {s : State} (h : Waiting s) (n : Nat) :
    Waiting (State.presentLoop n s) := by
  induction n generalizing s with
  | zero => exact h
  | succ n ih =>
    unfold State.presentLoop
    split
    · exact h
    · rename_i d s' hdraw
      obtain ⟨hd, hs'⟩ := h.draw hdraw
      exact ih (h.fall (mem_of_mem_within hd) hs')

/-- A reload meets no deadline in START but beats, which it counts itself (R12, R13). -/
theorem Waiting.reloadFalls {s : State} (h : Waiting s) (base : Tick) (span : Nat) :
    s.reloadFalls base span = s := by
  have hchan (c : Chan) : s.reloadEvent base span c = none := by
    obtain ⟨hclock, -⟩ := h.quiet.chans c
    simp only [State.reloadEvent, hclock]
  have hnone : s.reloadNext base span = [] := by
    simp [State.reloadNext, hchan, h.quiet.listenEnd, h.quiet.pendings, h.quiet.planner,
      Planner.reset, h.quiet.holds, h.quiet.presence, h.quiet.absenceDeadlines]
  unfold State.reloadFalls
  cases 64 * (span + 1) with
  | zero => rfl
  | succ n => simp only [State.reloadLoop, hnone, State.draw]

theorem passing_of_quiet {s : State} (h : Quiet s) (base : Tick) (span : Nat) :
    s.modTracker (·.passing base span) = s := by
  simp [State.modTracker, passing_of_no_entries h.pendings]

/-- In START, or gone from it with no map. -/
def Entering (s : State) : Prop := Waiting s ∨ s.life ≠ .start ∧ s.maps = []

theorem Waiting.enterListen {s : State} (h : Waiting s) (r : StartRecord) :
    (s.enterListen r).life ≠ .start ∧ (s.enterListen r).maps = [] := by
  have hcalms := enterListen_calms s r
  exact ⟨hcalms.moves.inService nofun, hcalms.mapsFrom.nil h.quiet.maps⟩

theorem Waiting.firstWord {s : State} (h : Waiting s) (v : Tick) : Entering (s.firstWord v) := by
  unfold State.firstWord
  extract_lets u
  have hu : Waiting u := h.still {}
  split
  · exact .inr (hu.enterListen _)
  · exact .inl hu

theorem Waiting.slip {s : State} (h : Waiting s) (v : Tick) : Waiting (s.slip v) := by
  have hpresent : Waiting s.fallPresent := h.presentLoop _
  unfold State.slip
  generalize s.fallPresent = u at hpresent
  have hdir : Waiting (u.slipForward v).2 := by
    unfold State.slipForward
    split
    · exact hpresent.still {}
    · exact hpresent
  extract_lets w base dir x
  have hx : Waiting x := hdir.still {}
  split
  · have hbeat : Waiting (x.modTime (·.slipBeat base v)) := hx.still {}
    rw [passing_of_quiet hx.quiet, hbeat.reloadFalls]
    exact hbeat
  · exact hx

theorem Waiting.takeTimeWord {s : State} (h : Waiting s) (v : Tick) (check : BitVec 16) :
    Entering (s.takeTimeWord v check) := by
  unfold State.takeTimeWord
  split
  · exact .inl (h.still {})
  · split
    · exact h.firstWord v
    · split
      · exact .inl (h.still {})
      · exact .inl (h.slip v)

theorem Waiting.record {s : State} (h : Waiting s) (take : State → State) :
    Waiting (s.record take) := by
  unfold State.record
  rw [if_pos h.life]
  exact h.still {}

/-- With nothing BUILDING, nothing is placed. -/
theorem placeRest_of_free {s : State} (h : s.planner.building = none) : s.placeRest = s := by
  simp [State.placeRest, State.stepsLeft, h, State.placeSteps]

theorem finishBuild_of_free {s : State} (h : s.planner.building = none) : s.finishBuild = s := by
  simp [State.finishBuild, placeRest_of_free h, h]

theorem Waiting.finishBuild {s : State} (h : Waiting s) : Waiting s.finishBuild := by
  rw [finishBuild_of_free (by rw [h.quiet.planner]; rfl)]
  exact h

theorem Waiting.framerTakes {s : State} (h : Waiting s) : Waiting s.framerTakes := by
  have hqueue : s.mapPort.queue = [] := by rw [h.quiet.mapPort]; rfl
  simp only [State.framerTakes, hqueue]
  exact h

theorem Waiting.decideContention {s : State} (h : Waiting s) (others : List (BitVec 6))
    (joined : Bool) : Waiting (s.decideContention others joined) := by
  have hsends : Waiting s.otherSends :=
    h.still { queue := rfl, roster := rfl, holds := rfl, presence := rfl, medium := .inr (.inl rfl) }
  unfold State.decideContention
  split
  · exact h
  · split
    · exact h
    · exact hsends
  · rename_i q b hq
    exact absurd hq (h.quiet.contender q b)

theorem Waiting.openAtEnd {s : State} (h : Waiting s) : Waiting s.openAtEnd :=
  h.still { queue := rfl, roster := rfl, holds := rfl, presence := rfl
            medium := .inr (.inr ⟨true, rfl⟩) }

theorem Waiting.endTransmission {s : State} (h : Waiting s) (bs : List Byte) :
    Waiting (s.endTransmission bs) := by
  have hoff : s.onLink = false := by simp [State.onLink, h.life]
  unfold State.endTransmission
  split
  · extract_lets u
    have hu : Waiting u :=
      h.still { queue := rfl, roster := rfl, holds := rfl, presence := rfl, medium := .inl rfl }
    have huoff : u.onLink = false := hoff
    rw [huoff, Bool.false_and, if_neg Bool.false_ne_true]
    exact hu.openAtEnd
  · rw [hoff, Bool.false_and, if_neg Bool.false_ne_true]
    exact h.openAtEnd

theorem Waiting.beginStep {s : State} (h : Waiting s) : Waiting s.beginStep := by
  obtain ⟨hstopped, -, -⟩ := h.quiet.sweep
  unfold State.beginStep
  rw [if_neg (by simp [hstopped])]
  exact h

theorem Waiting.completeStep {s : State} (h : Waiting s) : Waiting s.completeStep := by
  obtain ⟨-, -, hstep⟩ := h.quiet.sweep
  simp only [State.completeStep, hstep]
  exact h

/-! ### The Management Port in START -/

theorem shiftStatus_still (s : State) : Still s s.shiftStatus := by
  unfold State.shiftStatus
  exact {}

theorem Waiting.shiftStatus {s : State} (h : Waiting s) : Waiting s.shiftStatus :=
  h.still (shiftStatus_still s)

theorem Waiting.refuseBusy {s : State} (h : Waiting s) : Waiting s.refuseBusy :=
  h.shiftStatus.still {}

theorem Waiting.takeFrame {s : State} (h : Waiting s) : Waiting s.takeFrame :=
  h.shiftStatus.still {}

theorem Waiting.malformed {s : State} (h : Waiting s) : Waiting s.malformed :=
  h.shiftStatus.still {}

theorem Waiting.answer {s : State} (h : Waiting s) (code : Byte) (r : Reply) :
    Waiting (s.answer code r) := h.still {}

theorem Entering.answer {s : State} (h : Entering s) (code : Byte) (r : Reply) :
    Entering (s.answer code r) := by
  obtain hw | ⟨hlife, hmaps⟩ := h
  · exact .inl (hw.answer code r)
  · exact .inr ⟨hlife, hmaps⟩

theorem Waiting.readResponse {s : State} (h : Waiting s) (n : Nat) : Waiting (s.readResponse n) := by
  have hshift := h.shiftStatus
  unfold State.readResponse
  generalize s.shiftStatus = u at hshift
  exact hshift.still {}

theorem Waiting.hostCommand {s : State} (h : Waiting s) (code : Byte) {takenIn : Life → Bool}
    {run : State → State × Reply}
    (hrun : takenIn .start = true → ∀ u, Waiting u → Entering (run u).1) :
    Entering (s.hostCommand code takenIn run) := by
  unfold State.hostCommand
  split
  · exact .inl h.refuseBusy
  · split
    · rename_i htaken
      exact (hrun (h.life ▸ htaken) _ h.takeFrame).answer code _
    · exact .inl (h.takeFrame.answer code _)

theorem Waiting.loadStart {s : State} (h : Waiting s) (r : StartRecord) : Entering (s.loadStart r).1 := by
  unfold State.loadStart
  split
  · exact .inl h
  · split
    · exact .inr (h.enterListen r)
    · exact .inl (h.still {})

theorem Waiting.takeBadFrame {s : State} (h : Waiting s) (f : CommandFrame) (offset : Nat) :
    Waiting (s.takeBadFrame f offset) := by
  unfold State.takeBadFrame
  split
  · exact h.refuseBusy
  · exact h.takeFrame.answer _ _

/-- A command in START: the station waits on, is reset, or enters LISTEN with no map (R13). -/
theorem Waiting.exec {i : Instr} {s t : State} (h : Waiting s) (he : exec i s = .next t) :
    Entering t := by
  have hnext {u : State} (hu : Entering u) (hi : Machine.exec i s = .next u) : Entering t := by
    rw [hi] at he
    injection he with he
    exact he ▸ hu
  have hhost (code : Byte) (run : State → State × Reply)
      (hi : Machine.exec i s = .next (s.hostCommand code inService run)) : Entering t :=
    hnext (h.hostCommand code fun hstart => absurd hstart (by decide)) hi
  cases i
  case hardReset straps => exact hnext (.inl ⟨quiet_hardReset s straps, rfl⟩) rfl
  case timeWord v check => exact hnext (h.takeTimeWord v check) rfl
  case beatEvent t => exact hnext (.inl (h.atDeadline _)) rfl
  case buildStart c n => exact hnext (.inl (h.atDeadline _)) rfl
  case deliverDeadline c n => exact hnext (.inl (h.atDeadline _)) rfl
  case periodStart c n => exact hnext (.inl (h.atDeadline _)) rfl
  case listenEnd t => exact hnext (.inl (h.atDeadline _)) rfl
  case pendingExpiry t => exact hnext (.inl (h.atDeadline _)) rfl
  case localHoldEnd t => exact hnext (.inl (h.atDeadline _)) rfl
  case sharedHoldEnd t => exact hnext (.inl (h.atDeadline _)) rfl
  case presenceTimer t => exact hnext (.inl (h.atDeadline _)) rfl
  case absenceTick k t => exact hnext (.inl (h.atDeadline _)) rfl
  case bidRecord r => exact hnext (.inl (h.record _)) rfl
  case outcomeReport r => exact hnext (.inl (h.record _)) rfl
  case windowTally r => exact hnext (.inl (h.record _)) rfl
  case arrivalRecord r => exact hnext (.inl (h.record _)) rfl
  case burstRecordDiscard kind ended =>
    change execBurstRecordDiscard kind ended s = _ at he
    unfold execBurstRecordDiscard at he
    split at he
    · injection he with he
      exact .inl (he ▸ h.still {})
    · cases he
  case plannerTakesRequest upTo =>
    change execPlannerTakesRequest upTo s = _ at he
    simp only [execPlannerTakesRequest, h.quiet.planner, Planner.reset] at he
    injection he with he
    exact .inl (he ▸ h)
  case buildEnd => exact hnext (.inl h.finishBuild) rfl
  case framerTakesMap => exact hnext (.inl h.framerTakes) rfl
  case contentionDecided others joined => exact hnext (.inl (h.decideContention others joined)) rfl
  case transmissionEnd heard => exact hnext (.inl (h.endTransmission heard)) rfl
  case sweepStepBegin => exact hnext (.inl h.beginStep) rfl
  case sweepStepCompletion => exact hnext (.inl h.completeStep) rfl
  case commandBusy =>
    change execCommandBusy s = _ at he
    unfold execCommandBusy at he
    split at he <;> injection he with he
    · exact .inl (he ▸ h.refuseBusy)
    · exact .inl (he ▸ h)
  case responseRead n => exact hnext (.inl (h.readResponse n)) rfl
  case malformedFrame => exact hnext (.inl h.malformed) rfl
  case badDirectionByte b =>
    change execBadDirectionByte b s = _ at he
    unfold execBadDirectionByte at he
    split at he
    · cases he
    · injection he with he
      exact .inl (he ▸ h.malformed)
  case badCommandFrame f =>
    change execBadCommandFrame f s = _ at he
    unfold execBadCommandFrame at he
    split at he
    · cases he
    · split at he
      · injection he with he
        exact .inl (he ▸ h.takeBadFrame f _)
      · cases he
  case loadStart r => exact hnext (h.hostCommand _ fun _ u hu => hu.loadStart r) rfl
  case restart =>
    refine hnext (h.hostCommand _ fun _ u _ => ?_) rfl
    exact .inl ⟨(quiet_afterRestart u).still {}, rfl⟩
  case admitModem key single normal fallback => exact hhost _ _ rfl
  case removeModem key => exact hhost _ _ rfl
  case pinModem key pin => exact hhost _ _ rfl
  case readModem key => exact hhost _ _ rfl
  case admitFlow a => exact hhost _ _ rfl
  case removeFlow tag => exact hhost _ _ rfl
  case reviveFlow tag => exact hhost _ _ rfl
  case readFlow tag => exact hhost _ _ rfl
  case readChannel b => exact hhost _ _ rfl
  case readPeers => exact hhost _ _ rfl
  case readStatus => exact hnext (h.hostCommand _ fun _ u hu => .inl (hu.still {})) rfl
  case readFaults asked => exact hnext (h.hostCommand _ fun _ u hu => .inl hu) rfl
  case clearFaults => exact hhost _ _ rfl
  case takeAttention => exact hhost _ _ rfl
  case takeArrivals => exact hhost _ _ rfl
  case setEventMask b => exact hhost _ _ rfl
  case sweepRestart => exact hhost _ _ rfl

theorem Waiting.idle {s : State} (h : Waiting s) : Waiting s.idle := by
  unfold State.idle
  split
  · split
    · rename_i d s' hdraw
      exact (h.draw hdraw).2.still {}
    · exact h.setNow _
  · exact h

theorem Waiting.step {s t : State} (h : Waiting s) (hstep : step s = .next t) : Entering t := by
  unfold Machine.step at hstep
  split at hstep
  · injection hstep with hstep
    exact .inl (hstep ▸ h.idle)
  · exact Waiting.exec (h.still (t := { s with pending := _ }) {}) hstep

/-- The law of START, a step at a time. -/
theorem StartLaw.step {s t : State} (hs : StartLaw s) (h : step s = .next t) : StartLaw t := by
  intro ht
  by_cases hlife : s.life = .start
  · obtain hw | ⟨hnot, -⟩ := Waiting.step ⟨hs hlife, hlife⟩ h
    · exact hw.quiet
    · exact absurd ht hnot
  · obtain hm | ⟨l, ⟨straps, rfl⟩ | rfl⟩ := step_moves h
    · exact absurd ht (hm.inService hlife)
    · exact quiet_hardReset _ straps
    · exact quiet_afterRestart _

/-! ### An untimed station -/

/-- Untimed, and as R2 leaves it until the first valid word. -/
structure Untimed (s : State) : Prop where
  timed : s.time.timed = false
  nodeTime : s.time.nodeTime = 0
  beat : s.time.beat = 0
  life : s.life = .start

/-- Timed, or untimed as R2 says. -/
def Timing (s : State) : Prop := s.time.timed = true ∨ Untimed s

theorem Untimed.same {s t : State} (h : Untimed s) (htime : t.time = s.time)
    (hlife : t.life = s.life) : Untimed t :=
  ⟨htime ▸ h.timed, htime ▸ h.nodeTime, htime ▸ h.beat, hlife ▸ h.life⟩

theorem deadlines_untimed {s : State} (h : s.time.timed = false) : s.deadlines = [] := by
  simp [State.deadlines, h]

theorem atDeadline_untimed {s : State} (h : s.time.timed = false) (d : Deadline) :
    s.atDeadline d = s := by
  simp [State.atDeadline, deadlines_untimed h]

theorem firstWord_timed (s : State) (v : Tick) : (s.firstWord v).time.timed = true := by
  unfold State.firstWord
  extract_lets u
  split <;> simp [u]

theorem Untimed.takeTimeWord {s : State} (h : Untimed s) (v : Tick) (check : BitVec 16) :
    Timing (s.takeTimeWord v check) := by
  unfold State.takeTimeWord
  split
  · exact .inr ⟨h.timed, h.nodeTime, h.beat, h.life⟩
  · rw [if_pos (by simp [h.timed])]
    exact .inl (firstWord_timed s v)

theorem Untimed.record {s : State} (h : Untimed s) (take : State → State) :
    Untimed (s.record take) := by
  unfold State.record
  rw [if_pos h.life]
  exact h.same rfl rfl

theorem Untimed.refuseBusy {s : State} (h : Untimed s) : Untimed s.refuseBusy := h.same rfl rfl

theorem Untimed.takeFrame {s : State} (h : Untimed s) : Untimed s.takeFrame := h.same rfl rfl

theorem Untimed.answer {s : State} (h : Untimed s) (code : Byte) (r : Reply) :
    Untimed (s.answer code r) := h.same rfl rfl

theorem Untimed.hostCommand {s : State} (h : Untimed s) (code : Byte) {takenIn : Life → Bool}
    {run : State → State × Reply}
    (hrun : takenIn .start = true → ∀ u, Untimed u → Timing (run u).1) :
    Timing (s.hostCommand code takenIn run) := by
  unfold State.hostCommand
  split
  · exact .inr h.refuseBusy
  · split
    · rename_i htaken
      obtain ht | hu := hrun (h.life ▸ htaken) _ h.takeFrame
      · exact .inl ht
      · exact .inr (hu.answer code _)
    · exact .inr (h.takeFrame.answer code _)

theorem Untimed.loadStart {s : State} (h : Untimed s) (r : StartRecord) :
    Untimed (s.loadStart r).1 := by
  unfold State.loadStart
  split
  · exact h
  · rw [if_neg (by simp [h.timed])]
    exact h.same rfl rfl

theorem Untimed.takeBadFrame {s : State} (h : Untimed s) (f : CommandFrame) (offset : Nat) :
    Untimed (s.takeBadFrame f offset) := by
  unfold State.takeBadFrame
  split
  · exact h.refuseBusy
  · exact h.takeFrame.answer _ _

theorem Untimed.endTransmission {s : State} (h : Untimed s) (bs : List Byte) :
    Untimed (s.endTransmission bs) := by
  have hoff : s.onLink = false := by simp [State.onLink, h.life]
  unfold State.endTransmission
  split
  · extract_lets u
    have huoff : u.onLink = false := hoff
    rw [huoff, Bool.false_and, if_neg Bool.false_ne_true]
    exact h.same rfl rfl
  · rw [hoff, Bool.false_and, if_neg Bool.false_ne_true]
    exact h.same rfl rfl

theorem Untimed.placeUpTo {s : State} (h : Untimed s) (upTo : Option Nat) :
    Untimed (s.placeUpTo upTo) := by
  cases upTo with
  | none => exact h.same (t := s.placeRest) (by simp) (by simp)
  | some n => exact h.same (t := State.placeSteps n s) (by simp) (by simp)

theorem Untimed.finishBuild {s : State} (h : Untimed s) : Untimed s.finishBuild := by
  unfold State.finishBuild
  split
  · exact h.same (by simp) (by simp)
  · exact h

theorem Untimed.framerTakes {s : State} (h : Untimed s) : Untimed s.framerTakes := by
  unfold State.framerTakes
  split
  · exact h
  · exact h.same (by simp) (by simp)

theorem Untimed.exec {i : Instr} {s t : State} (h : Untimed s) (he : exec i s = .next t) :
    Timing t := by
  have hnext {u : State} (hu : Timing u) (hi : Machine.exec i s = .next u) : Timing t := by
    rw [hi] at he
    injection he with he
    exact he ▸ hu
  have hdue {d : Deadline} (hi : Machine.exec i s = .next (s.atDeadline d)) : Timing t :=
    hnext (.inr (by rw [atDeadline_untimed h.timed]; exact h)) hi
  have hhost (code : Byte) (run : State → State × Reply)
      (hi : Machine.exec i s = .next (s.hostCommand code inService run)) : Timing t :=
    hnext (h.hostCommand code fun hstart => absurd hstart (by decide)) hi
  cases i
  case hardReset straps => exact hnext (.inr ⟨rfl, rfl, rfl, rfl⟩) rfl
  case timeWord v check => exact hnext (h.takeTimeWord v check) rfl
  case beatEvent t => exact hdue rfl
  case buildStart c n => exact hdue rfl
  case deliverDeadline c n => exact hdue rfl
  case periodStart c n => exact hdue rfl
  case listenEnd t => exact hdue rfl
  case pendingExpiry t => exact hdue rfl
  case localHoldEnd t => exact hdue rfl
  case sharedHoldEnd t => exact hdue rfl
  case presenceTimer t => exact hdue rfl
  case absenceTick k t => exact hdue rfl
  case bidRecord r => exact hnext (.inr (h.record _)) rfl
  case outcomeReport r => exact hnext (.inr (h.record _)) rfl
  case windowTally r => exact hnext (.inr (h.record _)) rfl
  case arrivalRecord r => exact hnext (.inr (h.record _)) rfl
  case burstRecordDiscard kind ended =>
    change execBurstRecordDiscard kind ended s = _ at he
    unfold execBurstRecordDiscard at he
    split at he
    · injection he with he
      exact .inr (he ▸ h.same rfl rfl)
    · cases he
  case plannerTakesRequest upTo =>
    change execPlannerTakesRequest upTo s = _ at he
    unfold execPlannerTakesRequest at he
    split at he <;> injection he with he
    · exact .inr (he ▸ h.placeUpTo upTo)
    · exact .inr (he ▸ (h.same (t := s.takeRequest _ _) (by simp) (by simp)).placeUpTo upTo)
    · exact .inr (he ▸ h)
  case buildEnd => exact hnext (.inr h.finishBuild) rfl
  case framerTakesMap => exact hnext (.inr h.framerTakes) rfl
  case contentionDecided others joined => exact hnext (.inr (h.same (by simp) (by simp))) rfl
  case transmissionEnd heard => exact hnext (.inr (h.endTransmission heard)) rfl
  case sweepStepBegin => exact hnext (.inr (h.same (by simp) (by simp))) rfl
  case sweepStepCompletion => exact hnext (.inr (h.same (by simp) (by simp))) rfl
  case commandBusy =>
    change execCommandBusy s = _ at he
    unfold execCommandBusy at he
    split at he <;> injection he with he
    · exact .inr (he ▸ h.refuseBusy)
    · exact .inr (he ▸ h)
  case responseRead n => exact hnext (u := s.readResponse n) (.inr (h.same rfl rfl)) rfl
  case malformedFrame => exact hnext (u := s.malformed) (.inr (h.same rfl rfl)) rfl
  case badDirectionByte b =>
    change execBadDirectionByte b s = _ at he
    unfold execBadDirectionByte at he
    split at he
    · cases he
    · injection he with he
      exact .inr (he ▸ h.same rfl rfl)
  case badCommandFrame f =>
    change execBadCommandFrame f s = _ at he
    unfold execBadCommandFrame at he
    split at he
    · cases he
    · split at he
      · injection he with he
        exact .inr (he ▸ h.takeBadFrame f _)
      · cases he
  case loadStart r => exact hnext (h.hostCommand _ fun _ u hu => .inr (hu.loadStart r)) rfl
  case restart =>
    refine hnext (h.hostCommand _ fun _ u hu => ?_) rfl
    exact .inr ⟨hu.timed, hu.nodeTime, rfl, rfl⟩
  case admitModem key single normal fallback => exact hhost _ _ rfl
  case removeModem key => exact hhost _ _ rfl
  case pinModem key pin => exact hhost _ _ rfl
  case readModem key => exact hhost _ _ rfl
  case admitFlow a => exact hhost _ _ rfl
  case removeFlow tag => exact hhost _ _ rfl
  case reviveFlow tag => exact hhost _ _ rfl
  case readFlow tag => exact hhost _ _ rfl
  case readChannel b => exact hhost _ _ rfl
  case readPeers => exact hhost _ _ rfl
  case readStatus => exact hnext (h.hostCommand _ fun _ u hu => .inr (hu.same rfl rfl)) rfl
  case readFaults asked => exact hnext (h.hostCommand _ fun _ u hu => .inr hu) rfl
  case clearFaults => exact hhost _ _ rfl
  case takeAttention => exact hhost _ _ rfl
  case takeArrivals => exact hhost _ _ rfl
  case setEventMask b => exact hhost _ _ rfl
  case sweepRestart => exact hhost _ _ rfl

theorem Untimed.step {s t : State} (h : Untimed s) (hstep : step s = .next t) : Timing t := by
  unfold Machine.step at hstep
  split at hstep
  · injection hstep with hstep
    rw [State.idle, if_neg (by simp [h.timed])] at hstep
    exact .inr (hstep ▸ h)
  · rename_i c rest _
    exact Untimed.exec (s := { s with pending := rest }) (h.same rfl rfl) hstep

/-- The law of an untimed station, a step at a time. -/
theorem UntimedLaw.step {s t : State} (hs : UntimedLaw s) (h : step s = .next t) : UntimedLaw t := by
  intro ht
  have hquit (hu : Untimed t) : t.time.nodeTime = 0 ∧ t.time.beat = 0 ∧ t.life = .start :=
    ⟨hu.nodeTime, hu.beat, hu.life⟩
  cases htimed : s.time.timed with
  | false =>
    obtain ⟨hnode, hbeat, hlife⟩ := hs htimed
    obtain hon | hu := Untimed.step ⟨htimed, hnode, hbeat, hlife⟩ h
    · simp [ht] at hon
    · exact hquit hu
  | true =>
    obtain hm | ⟨l, ⟨straps, rfl⟩ | rfl⟩ := step_moves h
    · simp [hm.timed htimed] at ht
    · exact ⟨rfl, rfl, rfl⟩
    · rw [show State.time _ = _ from rfl] at ht
      simp [TimeUnit.restarted, htimed] at ht

/-- Settles O14: a quiet START is left by one command alone, an untimed station becomes timed with its
first valid word and not before, and the roster is the link's, a part of the state with a law of its own. -/
theorem stepKeepsStationLaws : Obligations.StepKeepsStationLaws := by
  intro s t h
  exact ⟨fun hs => StartLaw.step hs h, fun hs => UntimedLaw.step hs h, fun hs =>
    rosterLaw_partLaw.step (fun _ _ => rosterLaw_of_absent rfl) (fun _ _ => rosterLaw_of_absent rfl)
      hs h⟩

end Sys2Proof.Machine
end

section
/-! SUPPORT. Turn maps laid out (R72), and what every command makes of them. -/

namespace Sys2Proof.Machine

-- One proof after another: side by side, as many as stand here need more threads than the check gives.
set_option Elab.async false

/-! ### The layout is a matter of spans -/

/-- The order of R72 between two spans: by start, and no slot in both. -/
def spanBefore (p q : Nat × Nat) : Prop :=
  p.1 ≤ q.1 ∧ ∀ x, ¬ (p.1 ≤ x ∧ x < p.1 + p.2 ∧ q.1 ≤ x ∧ x < q.1 + q.2)

theorem laidOut_iff_spans (slots : Nat) (es : List Entry) :
    laidOut slots es ↔ (es.map Entry.span).Pairwise spanBefore ∧
      (∀ p ∈ es.map Entry.span, p.1 + p.2 ≤ slots) ∧ (es.map Entry.span).length ≤ 240 := by
  rw [List.pairwise_map, List.forall_mem_map, List.length_map]
  rfl

theorem laidOut.of_spans {slots : Nat} {es es' : List Entry} (h : laidOut slots es)
    (hspans : (es'.map Entry.span).Sublist (es.map Entry.span)) : laidOut slots es' := by
  rw [laidOut_iff_spans] at h ⊢
  obtain ⟨hordered, hwithin, hlength⟩ := h
  exact ⟨hordered.sublist hspans, fun p hp => hwithin p (hspans.subset hp),
    hspans.length_le.trans hlength⟩

/-! ### A free run meets no entry (R72) -/

theorem le_start_of_mem_gaps {cur stop : Nat} {es : List Entry} {r : Run}
    (h : r ∈ gaps cur stop es) : cur ≤ r.start := by
  induction es generalizing cur with
  | nil =>
    unfold gaps at h
    split at h
    · rw [List.mem_singleton.mp h]
    · cases h
  | cons e es ih =>
    unfold gaps at h
    obtain h | h := List.mem_append.mp h
    · split at h
      · rw [List.mem_singleton.mp h]
      · cases h
    · exact (Nat.le_max_left _ _).trans (ih h)

theorem end_le_of_mem_gaps {cur stop : Nat} {es : List Entry} {r : Run}
    (hwithin : ∀ e ∈ es, e.start + e.len ≤ stop) (h : r ∈ gaps cur stop es) :
    r.start + r.len ≤ stop := by
  induction es generalizing cur with
  | nil =>
    unfold gaps at h
    split at h
    · rw [List.mem_singleton.mp h]
      dsimp only
      omega
    · cases h
  | cons e es ih =>
    unfold gaps at h
    have he := hwithin e List.mem_cons_self
    obtain h | h := List.mem_append.mp h
    · split at h
      · rw [List.mem_singleton.mp h]
        dsimp only
        omega
      · cases h
    · exact ih (fun x hx => hwithin x (List.mem_cons_of_mem _ hx)) h

theorem beside_of_mem_gaps {cur stop : Nat} {es : List Entry} {r : Run}
    (hsorted : es.Pairwise fun a b => a.start ≤ b.start) (h : r ∈ gaps cur stop es) :
    ∀ e ∈ es, e.start + e.len ≤ r.start ∨ r.start + r.len ≤ e.start := by
  induction es generalizing cur with
  | nil => exact nofun
  | cons x es ih =>
    obtain ⟨hfirst, hrest⟩ := List.pairwise_cons.mp hsorted
    unfold gaps at h
    intro e he
    obtain h | h := List.mem_append.mp h
    · split at h
      · rw [List.mem_singleton.mp h]
        dsimp only
        obtain rfl | he := List.mem_cons.mp he
        · omega
        · have := hfirst e he
          omega
      · cases h
    · have hcur := le_start_of_mem_gaps h
      obtain rfl | he := List.mem_cons.mp he
      · omega
      · exact ih hrest h e he

theorem Entry.apart_of_beside {a b : Entry}
    (h : a.start + a.len ≤ b.start ∨ b.start + b.len ≤ a.start) : a.apart b := by
  intro x hx
  omega

/-! ### Placing an entry keeps the layout (R72) -/

theorem mem_insertEntry {e x : Entry} {es : List Entry} :
    x ∈ insertEntry e es ↔ x = e ∨ x ∈ es := by
  induction es with
  | nil => simp [insertEntry]
  | cons y es ih =>
    unfold insertEntry
    split
    · simp
    · simp [ih, or_left_comm]

theorem length_insertEntry (e : Entry) (es : List Entry) :
    (insertEntry e es).length = es.length + 1 := by
  induction es with
  | nil => rfl
  | cons y es ih =>
    unfold insertEntry
    split
    · rfl
    · simp [ih]

theorem pairwise_insertEntry {e : Entry} {es : List Entry}
    (h : es.Pairwise fun a b => a.start ≤ b.start ∧ a.apart b)
    (hleft : ∀ x ∈ es, x.apart e) (hright : ∀ x ∈ es, e.apart x) :
    (insertEntry e es).Pairwise fun a b => a.start ≤ b.start ∧ a.apart b := by
  induction es with
  | nil => exact List.pairwise_singleton _ _
  | cons y es ih =>
    obtain ⟨hfirst, hrest⟩ := List.pairwise_cons.mp h
    unfold insertEntry
    split
    · rename_i hlt
      refine List.pairwise_cons.mpr ⟨fun x hx => ⟨?_, hright x hx⟩, h⟩
      obtain rfl | hx := List.mem_cons.mp hx
      · exact Nat.le_of_lt hlt
      · exact (Nat.le_of_lt hlt).trans (hfirst x hx).1
    · rename_i hge
      refine List.pairwise_cons.mpr ⟨fun x hx => ?_, ih hrest
        (fun x hx => hleft x (List.mem_cons_of_mem _ hx))
        fun x hx => hright x (List.mem_cons_of_mem _ hx)⟩
      obtain rfl | hx := mem_insertEntry.mp hx
      · exact ⟨Nat.le_of_not_lt hge, hleft y List.mem_cons_self⟩
      · exact hfirst x hx

theorem laidOut.insert {slots : Nat} {es : List Entry} {e : Entry} {r : Run} (h : laidOut slots es)
    (hroom : es.length < 240) (hr : r ∈ gaps 0 slots es) (hlo : r.start ≤ e.start)
    (hhi : e.start + e.len ≤ r.start + r.len) : laidOut slots (insertEntry e es) := by
  obtain ⟨hordered, hwithin, -⟩ := h
  have hbeside (x : Entry) (hx : x ∈ es) :
      x.start + x.len ≤ e.start ∨ e.start + e.len ≤ x.start := by
    have := beside_of_mem_gaps (hordered.imp And.left) hr x hx
    omega
  refine ⟨pairwise_insertEntry hordered (fun x hx => Entry.apart_of_beside (hbeside x hx))
    fun x hx => Entry.apart_of_beside (hbeside x hx).symm, fun x hx => ?_, ?_⟩
  · obtain rfl | hx := mem_insertEntry.mp hx
    · exact hhi.trans (end_le_of_mem_gaps hwithin hr)
    · exact hwithin x hx
  · rw [length_insertEntry]
    exact hroom

/-! ### Every move keeps the maps laid out -/

/-- A station out of START with every map of it laid out (R72). -/
structure Laid (s : State) : Prop where
  life : s.life ≠ .start
  maps : ∀ m ∈ s.maps, laidOut (partSlots (s.part m.name.chan)) m.entries

/-- Out of START the record in force is the accepted one (R168). -/
theorem part_of_accepted {s t : State} (hs : s.life ≠ .start) (ht : t.life ≠ .start)
    (haccepted : t.accepted = s.accepted) (c : Chan) : t.part c = s.part c := by
  unfold State.part State.inForce
  rw [haccepted]
  split
  · exact absurd ‹_› ht
  · split
    · exact absurd ‹_› hs
    · simp_all
    · simp_all
  · split
    · exact absurd ‹_› hs
    · simp_all
    · rfl

theorem Laid.from {s t : State} (h : Laid s) (hlife : t.life ≠ .start)
    (haccepted : t.accepted = s.accepted) (hmaps : MapsFrom s t) : Laid t where
  life := hlife
  maps m hm := by
    obtain ⟨m0, hm0, hfrom⟩ := hmaps m hm
    rw [part_of_accepted h.life hlife haccepted, hfrom.name]
    exact (h.maps m0 hm0).of_spans hfrom.spans

theorem Calm.accepted {s t : State} (h : Calm s t) : t.accepted = s.accepted := by
  obtain hd | ha := h.dwindles_or_adds
  · exact hd.accepted
  · exact ha.inForce.2

theorem Laid.calm {s t : State} (h : Laid s) (hc : Calm s t) : Laid t :=
  h.from (hc.inService h.life) hc.accepted hc.mapsFrom

/-- A change that leaves the maps, the life state and the record as they are. -/
theorem Laid.same {s t : State} (h : Laid s) (hlife : t.life = s.life)
    (haccepted : t.accepted = s.accepted) (hmaps : t.maps = s.maps) : Laid t :=
  h.from (hlife ▸ h.life) haccepted (.of_eq hmaps)

theorem mem_maps {s : State} {m : TurnMap} :
    m ∈ s.maps ↔ (∃ b, s.planner.building = some b ∧ b.map = m) ∨ m ∈ s.planner.sealing ∨
      m ∈ s.mapPort.queue ∨ m ∈ s.mapPort.delivered := by
  simp [State.maps]

theorem Laid.placeEntry {s : State} (h : Laid s) {e : Entry} (hfits : s.fits e) :
    Laid (s.placeEntry e) := by
  obtain ⟨b, hbuilding, hroom, r, hr, hlo, hhi⟩ := hfits
  refine ⟨h.life, fun m hm => ?_⟩
  have hlaid := h.maps b.map (mem_maps.mpr (.inl ⟨b, hbuilding, rfl⟩))
  rw [mem_maps] at hm
  obtain ⟨b', hb', rfl⟩ | hm := hm
  · have hb'' : b' = { b with map := { b.map with entries := insertEntry e b.map.entries } } := by
      simpa [State.placeEntry, State.modBuild, hbuilding] using hb'.symm
    subst hb''
    exact hlaid.insert hroom hr hlo hhi
  · exact h.maps m (mem_maps.mpr (.inr hm))

theorem modBuild_maps (s : State) {g : Build → Build} (hg : ∀ b, (g b).map = b.map) :
    (s.modBuild g).maps = s.maps := by
  simp [State.maps, State.modBuild, State.modPlanner, Function.comp_def, hg]

theorem Laid.placing {s t : State} (hp : Placing s t) (h : Laid s) : Laid t := by
  cases hp with
  | calm hc => exact h.calm hc
  | entry e hfits => exact h.placeEntry hfits
  | opened e _ => exact h.same rfl rfl rfl
  | grant tag g _ =>
    have hd : Dwindles s (s.updFlow tag g) := updFlow_dwindles s tag g
    exact h.from (hd.inService h.life) hd.accepted hd.maps
  | localHold l _ => exact h.same rfl rfl rfl
  | phase g hg => exact h.same rfl rfl (modBuild_maps s hg)
  | tail f => exact h.same (by simp) (by simp) rfl

theorem Laid.begin {s : State} (h : Laid s) {b : Build} (hentries : b.map.entries = []) :
    Laid (s.modPlanner fun p => { p with building := some b }) := by
  refine ⟨h.life, fun m hm => ?_⟩
  rw [mem_maps] at hm
  obtain ⟨b', hb', rfl⟩ | hm := hm
  · obtain rfl : b = b' := Option.some.inj hb'
    rw [hentries]
    exact ⟨.nil, nofun, Nat.zero_le _⟩
  · exact h.maps m (mem_maps.mpr (.inr hm))

theorem Laid.hand {s t : State} (h : Laid s) {m : TurnMap} (hcalms : Calms s t)
    (hm : ∃ m0 ∈ s.maps, m.From m0) :
    Laid { t with mapPort := { t.mapPort with queue := t.mapPort.queue ++ [m] } } := by
  have ht : Laid t := (calms_keep (fun hc h => h.calm hc) hcalms h :)
  have haccepted : t.accepted = s.accepted :=
    (calms_keep (P := fun u => u.accepted = s.accepted) (fun hc he => hc.accepted.trans he) hcalms rfl :)
  obtain ⟨m0, hm0, hfrom⟩ := hm
  refine ⟨ht.life, fun x hx => ?_⟩
  rw [mem_maps] at hx
  obtain hx | hx | hx | hx := hx
  · exact ht.maps x (mem_maps.mpr (.inl hx))
  · exact ht.maps x (mem_maps.mpr (.inr (.inl hx)))
  · obtain hx | hx := List.mem_append.mp hx
    · exact ht.maps x (mem_maps.mpr (.inr (.inr (.inl hx))))
    · rw [List.mem_singleton.mp hx]
      change laidOut (partSlots (t.part m.name.chan)) m.entries
      rw [part_of_accepted h.life ht.life haccepted, hfrom.name]
      exact (h.maps m0 hm0).of_spans hfrom.spans
  · exact ht.maps x (mem_maps.mpr (.inr (.inr (.inr hx))))

theorem Laid.move {s t : State} (h : Laid s) (hm : Move s t) : Laid t := by
  cases hm with
  | calm hc => exact h.calm hc
  | hand m hcalms _ hfrom => exact h.hand hcalms hfrom
  | begin b hentries _ => exact h.begin hentries
  | place => exact placeOne_keeps Laid.placing h
  | enrol key single normal fallback _ _ => exact h.same (by simp) (by simp) (by simp [State.maps])
  | bind _ _ _ => exact h.same rfl rfl rfl
  | remove hr =>
    have hd := hr.toDwindles
    exact h.from (hd.inService h.life) hd.accepted hd.maps
  | accept hlife _ => exact absurd hlife h.life
  | listen hlife _ => exact absurd hlife h.life

theorem Laid.moves {s t : State} (hm : Moves s t) (h : Laid s) : Laid t := by
  induction hm with
  | refl => exact h
  | tail _ hlast ih => exact ih.move hlast

theorem laidOut_of_no_maps {s : State} (h : s.maps = []) :
    ∀ m ∈ s.maps, laidOut (s.part m.name.chan).periodSlots.toNat m.entries := by
  simp [h]

/-- Settles O12: a free run meets no entry, so a map stays laid out as entries join it, and every other
change takes entries out or marks them; in START there is no map. -/
theorem stepKeepsMapsLaw : Obligations.StepKeepsMapsLaw := by
  intro s t hs hstep
  obtain ⟨hstart, hmaps⟩ := hs
  have hstart' : StartLaw t := hstart.step hstep
  refine ⟨hstart', ?_⟩
  by_cases hlife : s.life = .start
  · obtain hw | ⟨-, hnone⟩ := Waiting.step ⟨hstart hlife, hlife⟩ hstep
    · exact laidOut_of_no_maps hw.quiet.maps
    · exact laidOut_of_no_maps hnone
  · obtain hm | ⟨l, ⟨straps, rfl⟩ | rfl⟩ := step_moves hstep
    · exact (Laid.moves hm ⟨hlife, hmaps⟩).maps
    · exact laidOut_of_no_maps (quiet_hardReset _ straps).maps
    · exact laidOut_of_no_maps (quiet_afterRestart _).maps

end Sys2Proof.Machine
end

section
/-! SUPPORT. Membership of the ready lists (R38, R77), and what every command makes of it. -/

namespace Sys2Proof.Machine

-- One proof after another: side by side, as many as stand here need more threads than the check gives.
set_option Elab.async false

/-! ### The law, tag by tag -/

/-- A tag stands in the ready list of some class. -/
def State.listed (s : State) (tag : Tag) : Prop := ∃ c, tag ∈ s.planner.ready.get c

/-- The law of membership, with the records reached through their tags. -/
structure Members (s : State) : Prop where
  store : StoreLaw s
  once : ∀ c, (s.planner.ready.get c).Nodup
  mem : ∀ c tag, tag ∈ s.planner.ready.get c ↔
    ∃ f, s.flow tag = some f ∧ f.cls = c ∧ f.eligible = true
  visits : s.visits.Nodup
  visited : ∀ tag ∈ s.visits, s.listed tag
  pendings : ∀ tag f, s.flow tag = some f → f.pendingCount ≤ 4

theorem visits_law_iff {s : State} : (∀ b, s.planner.building = some b →
      b.phase.visits.Nodup ∧ ∀ tag ∈ b.phase.visits, ∃ c, tag ∈ s.planner.ready.get c) ↔
    s.visits.Nodup ∧ ∀ tag ∈ s.visits, s.listed tag := by
  unfold State.visits State.listed
  cases hb : s.planner.building <;> simp

theorem ReadyLaw.members {s : State} (h : ReadyLaw s) : Members s := by
  obtain ⟨hstore, honce, hmem, hvisits, hpendings⟩ := h
  obtain ⟨hnodup, hvisited⟩ := visits_law_iff.mp hvisits
  refine ⟨hstore, honce, hmem, hnodup, hvisited, fun tag f hf => ?_⟩
  obtain ⟨i, -, -, hat⟩ := flow_record hf
  exact hpendings (i, f) (mem_of_tabGet _ _ _ hat)

theorem tabGet_of_mem {α : Type} {l : List (Nat × α)} (hwf : tabWf l = true) {e : Nat × α}
    (he : e ∈ l) : tabGet l e.1 = some e.2 := by
  obtain ⟨i, x⟩ := e
  induction l with
  | nil => cases he
  | cons a l ih =>
    obtain ⟨j, y⟩ := a
    obtain ⟨hrest, hlt⟩ := (tabWf_cons j y l).mp hwf
    obtain he | he := List.mem_cons.mp he
    · cases he
      simp [tabGet]
    · have hne : j ≠ i := Nat.ne_of_lt (hlt _ he)
      simpa [tabGet, hne] using ih hrest he

theorem Members.law {s : State} (h : Members s) : ReadyLaw s := by
  refine ⟨h.store, h.once, h.mem, visits_law_iff.mpr ⟨h.visits, h.visited⟩, fun e he => ?_⟩
  obtain ⟨⟨-, ⟨hwf, -⟩, -⟩, -, -⟩ := id h.store
  obtain ⟨-, hflow⟩ := h.store.named (tabGet_of_mem hwf he)
  exact h.pendings _ _ hflow

/-- A listed tag names an eligible flow, with fewer than 4 pending turns. -/
theorem Members.eligible {s : State} (h : Members s) {tag : Tag} {f : Flow} (hlisted : s.listed tag)
    (hf : s.flow tag = some f) : f.eligible = true := by
  obtain ⟨c, hc⟩ := hlisted
  obtain ⟨f', hf', -, helig⟩ := (h.mem c tag).mp hc
  cases hf.symm.trans hf'
  exact helig

theorem pendings_lt_of_eligible {f : Flow} (h : f.eligible = true) : f.pendingCount < 4 := by
  simp only [Flow.eligible, Bool.and_eq_true, decide_eq_true_eq] at h
  exact h.2

/-- An eligible flow is listed in its class. -/
theorem Members.ready {s : State} (h : Members s) {tag : Tag} {f : Flow} (hf : s.flow tag = some f)
    (helig : f.eligible = true) : tag ∈ s.planner.ready.get f.cls :=
  (h.mem f.cls tag).mpr ⟨f, hf, rfl, helig⟩

/-! ### Changes that leave the lists alone -/

/-- No record and no list changes, and a walk visits no more. -/
theorem Members.same {s t : State} (h : Members s) (hstore : StoreLaw t)
    (hflow : ∀ tag, t.flow tag = s.flow tag) (hready : t.planner.ready = s.planner.ready)
    (hvisits : t.visits.Sublist s.visits) : Members t where
  store := hstore
  once := hready ▸ h.once
  mem c tag := by rw [hready, hflow]; exact h.mem c tag
  visits := h.visits.sublist hvisits
  visited tag htag := by
    obtain ⟨c, hc⟩ := h.visited tag (hvisits.subset htag)
    exact ⟨c, hready ▸ hc⟩
  pendings tag f hf := h.pendings tag f (hflow tag ▸ hf)

theorem Members.of_store {s t : State} (h : Members s) (hstore : t.store = s.store)
    (hready : t.planner.ready = s.planner.ready) (hvisits : t.visits.Sublist s.visits) : Members t :=
  h.same (h.store.of_store hstore) (fun tag => flow_of_store hstore tag) hready hvisits

/-- The walk of the map under construction goes on with other members. -/
theorem Members.phase {s : State} (h : Members s) {ph : Phase} (hnodup : ph.visits.Nodup)
    (hlisted : ∀ tag ∈ ph.visits, s.listed tag) : Members (s.setPhase ph) := by
  have hvisits : (s.setPhase ph).visits = [] ∨ (s.setPhase ph).visits = ph.visits := by
    unfold State.visits State.setPhase State.modBuild
    cases hb : s.planner.building <;> simp [hb]
  refine ⟨h.store, h.once, h.mem, ?_, fun tag htag => ?_, h.pendings⟩
  · obtain he | he := hvisits <;> rw [he]
    · exact .nil
    · exact hnodup
  · obtain he | he := hvisits <;> rw [he] at htag
    · cases htag
    · exact hlisted tag htag

theorem Members.noVisits {s : State} (h : Members s) {ph : Phase} (hnone : ph.visits = []) :
    Members (s.setPhase ph) :=
  h.phase (hnone ▸ .nil) (by simp [hnone])

/-- A change of the map under construction that leaves its walk alone. -/
theorem Members.modBuild {s : State} (h : Members s) {g : Build → Build}
    (hg : ∀ b, (g b).phase = b.phase) : Members (s.modBuild g) := by
  refine h.of_store rfl rfl ?_
  unfold State.visits State.modBuild
  cases hb : s.planner.building <;> simp [hb, hg]

/-! ### A write to a flow record (R38) -/

theorem flow_updFlow_other {s : State} (hs : StoreLaw s) {tag tag' : Tag} (hne : tag' ≠ tag)
    (g : Flow → Flow) : (s.updFlow tag g).flow tag' = s.flow tag' := by
  cases hf : s.flow tag with
  | none => rw [updFlow_of_none hf]
  | some f =>
    obtain ⟨i, hi, hix, hat⟩ := flow_record hf
    obtain ⟨-, hbound, hrecords⟩ := id hs
    have hsame : (s.updFlow tag g).flowIx tag' = s.flowIx tag' := by
      simp [State.flowIx, State.tagState]
    unfold State.flow
    rw [hsame, updFlow_store hix hf]
    cases hix' : s.flowIx tag' with
    | none => rfl
    | some j =>
      have hj : s.tagState tag' = some (.bound j) := by
        unfold State.flowIx at hix'
        split at hix'
        · cases hix'
          assumption
        · cases hix'
      have hne' : j ≠ i := by
        intro he
        obtain ⟨f', hf', htag'⟩ := hbound tag' j hj
        rw [he, hat] at hf'
        cases hf'
        exact hne (htag'.symm.trans (hs.bound hf))
      simp only [Option.bind_some, tabGet_tabPut, if_neg hne']

theorem mem_ready_leaveReady (s : State) (f : Flow) (c : ServiceClass) (tag : Tag) :
    tag ∈ (s.leaveReady f).planner.ready.get c ↔
      tag ∈ s.planner.ready.get c ∧ (c = f.cls → tag ≠ f.tag) := by
  by_cases hc : f.cls = c
  · subst hc
    simp [State.leaveReady]
  · simp [State.leaveReady, quad_get_set_other _ _ _ _ hc, Ne.symm hc]

theorem mem_ready_joinReady (s : State) (f : Flow) (c : ServiceClass) (tag : Tag) :
    tag ∈ (s.joinReady f).planner.ready.get c ↔
      tag ∈ s.planner.ready.get c ∨ c = f.cls ∧ tag = f.tag := by
  by_cases hc : f.cls = c
  · subst hc
    simp [State.joinReady]
  · simp [State.joinReady, quad_get_set_other _ _ _ _ hc, Ne.symm hc]

/-- The rule of membership: the tag stands in the list of its class exactly when its flow is eligible,
provided it stood in no other before (R38, R77). -/
theorem mem_ready_settle {s : State} {f : Flow}
    (hcls : ∀ c, f.tag ∈ s.planner.ready.get c → c = f.cls) (c : ServiceClass) (tag : Tag) :
    tag ∈ (s.settle f).planner.ready.get c ↔
      if tag = f.tag then c = f.cls ∧ f.eligible = true else tag ∈ s.planner.ready.get c := by
  have hready : s.isReady f = true ↔ f.tag ∈ s.planner.ready.get f.cls := by
    simp [State.isReady]
  unfold State.settle
  split
  · rename_i helig
    split
    · rename_i hin
      rw [hready] at hin
      split
      · rename_i heq
        subst heq
        simp only [helig, and_true]
        exact ⟨hcls c, fun h => h ▸ hin⟩
      · rfl
    · rename_i hout
      rw [hready] at hout
      rw [mem_ready_joinReady]
      split
      · rename_i heq
        subst heq
        simp only [helig, and_true, or_iff_right_iff_imp]
        exact hcls c
      · simp [*]
  · rename_i helig
    split
    · rw [mem_ready_leaveReady]
      split
      · rename_i heq
        subst heq
        exact ⟨fun h => absurd rfl (h.2 (hcls c h.1)), fun h => absurd h.2 helig⟩
      · simp [*]
    · rename_i hout
      rw [hready] at hout
      split
      · rename_i heq
        subst heq
        exact ⟨fun h => absurd (hcls c h ▸ h) hout, fun h => absurd h.2 helig⟩
      · rfl

theorem nodup_ready_settle {s : State} (h : ∀ c, (s.planner.ready.get c).Nodup) (f : Flow)
    (c : ServiceClass) : ((s.settle f).planner.ready.get c).Nodup := by
  unfold State.settle
  by_cases hc : f.cls = c
  · subst hc
    split
    · split
      · exact h _
      · rename_i hout
        have hout : f.tag ∉ s.planner.ready.get f.cls := by simpa [State.isReady] using hout
        simp only [State.joinReady, modPlanner_planner, quad_get_set_same]
        exact List.nodup_append.mpr ⟨h _, List.nodup_singleton _, fun a ha b hb he =>
          hout (by rw [← List.mem_singleton.mp hb, ← he]; exact ha)⟩
    · split
      · simp only [State.leaveReady, modPlanner_planner, quad_get_set_same]
        exact (h _).filter _
      · exact h _
  · split
    · split
      · exact h c
      · simp only [State.joinReady, modPlanner_planner, quad_get_set_other _ _ _ _ hc]
        exact h c
    · split
      · simp only [State.leaveReady, modPlanner_planner, quad_get_set_other _ _ _ _ hc]
        exact h c
      · exact h c

theorem visits_leaveReady (s : State) (f : Flow) :
    (s.leaveReady f).visits = s.visits.filter (· ≠ f.tag) := by
  unfold State.visits State.leaveReady
  cases hb : s.planner.building with
  | none => simp [hb]
  | some b =>
    simp only [modPlanner_planner, hb, Option.map_some, Build.modPhase]
    cases b.phase <;> rfl

/-- A walk visits no more after the rule, and a flow that left its list not at all (R78). -/
theorem visits_settle (s : State) (f : Flow) : (s.settle f).visits.Sublist s.visits ∧
    (f.tag ∈ (s.settle f).visits → f.tag ∈ s.planner.ready.get f.cls → f.eligible = true) := by
  unfold State.settle
  split
  · rename_i helig
    split
    · exact ⟨.refl _, fun _ _ => helig⟩
    · exact ⟨.refl _, fun _ _ => helig⟩
  · split
    · rw [visits_leaveReady]
      exact ⟨List.filter_sublist, fun h => by simp at h⟩
    · rename_i hout
      exact ⟨.refl _, fun _ h => absurd (by simpa [State.isReady] using h) hout⟩

theorem writeFlow_planner (s : State) (tag : Tag) (f : Flow) :
    (s.writeFlow tag f).planner = s.planner := by simp

theorem updFlow_eq {s : State} {tag : Tag} {f : Flow} (hf : s.flow tag = some f) (g : Flow → Flow) :
    s.updFlow tag g = (s.writeFlow tag (g f)).settle (g f) := by
  simp only [State.updFlow, hf]

/-- A write to a record that keeps its tag, its class and the limit of 4 pending turns. -/
theorem Members.updFlow {s : State} (h : Members s) (tag : Tag) {g : Flow → Flow}
    (hg : ∀ f, s.flow tag = some f →
      (g f).tag = f.tag ∧ (g f).cls = f.cls ∧ (g f).pendingCount ≤ 4) : Members (s.updFlow tag g) := by
  cases hf : s.flow tag with
  | none => rwa [updFlow_of_none hf]
  | some f =>
    obtain ⟨htag, hcls, hpend⟩ := hg f hf
    have htag' : (g f).tag = tag := htag.trans (h.store.bound hf)
    have hstore : StoreLaw (s.updFlow tag g) := h.store.updFlow tag fun f hf => (hg f hf).1
    have hother (tag' : Tag) (hne : tag' ≠ tag) : (s.updFlow tag g).flow tag' = s.flow tag' :=
      flow_updFlow_other h.store hne g
    have hsame : (s.updFlow tag g).flow tag = some (g f) := flow_updFlow_same hf g
    have hin (c : ServiceClass) (hc : tag ∈ s.planner.ready.get c) : c = (g f).cls := by
      obtain ⟨f', hf', rfl, -⟩ := (h.mem c tag).mp hc
      cases hf.symm.trans hf'
      exact hcls.symm
    have hmem := fun c x => mem_ready_settle (s := s.writeFlow tag (g f)) (f := g f)
      (by rw [writeFlow_planner, htag']; exact hin) c x
    rw [writeFlow_planner, ← updFlow_eq hf, htag'] at hmem
    obtain ⟨hsub, hleft⟩ := visits_settle (s.writeFlow tag (g f)) (g f)
    have hvisits : (s.writeFlow tag (g f)).visits = s.visits := by
      simp only [State.visits, writeFlow_planner]
    rw [← updFlow_eq hf, hvisits] at hsub
    rw [← updFlow_eq hf, writeFlow_planner, htag'] at hleft
    refine ⟨hstore, ?once, fun c x => ?mem, h.visits.sublist hsub, fun x hx => ?visited,
      fun x f' hf' => ?pendings⟩
    case once =>
      rw [updFlow_eq hf]
      exact nodup_ready_settle (by rw [writeFlow_planner]; exact h.once) _
    case mem =>
      rw [hmem]
      split
      · rename_i heq
        subst heq
        rw [hsame]
        exact ⟨fun hc => ⟨g f, rfl, hc.1.symm, hc.2⟩, fun ⟨f', hf', hc, helig⟩ => by
          cases hf'
          exact ⟨hc.symm, helig⟩⟩
      · rename_i hne
        rw [hother x hne]
        exact h.mem c x
    case visited =>
      obtain ⟨c, hc⟩ := h.visited x (hsub.subset hx)
      refine ⟨c, (hmem c x).mpr ?_⟩
      split
      · rename_i heq
        subst heq
        have hce := hin c hc
        exact ⟨hce, hleft hx (hce ▸ hc)⟩
      · exact hc
    case pendings =>
      by_cases heq : x = tag
      · subst heq
        cases hsame.symm.trans hf'
        exact hpend
      · exact h.pendings x f' (hother x heq ▸ hf')

/-- A write to one record leaves the other tags where they stand. -/
theorem Members.listed_updFlow {s : State} (h : Members s) {tag : Tag} {g : Flow → Flow}
    (hm : Members (s.updFlow tag g)) {x : Tag} (hne : x ≠ tag) (hx : s.listed x) :
    (s.updFlow tag g).listed x := by
  obtain ⟨c, hc⟩ := hx
  obtain ⟨f, hf, hcls, helig⟩ := (h.mem c x).mp hc
  exact ⟨c, (hm.mem c x).mpr ⟨f, (flow_updFlow_other h.store hne g).trans hf, hcls, helig⟩⟩

/-- The tail of a list for one of its members. -/
theorem mem_ready_toTail {s : State} {f : Flow} (hin : f.tag ∈ s.planner.ready.get f.cls)
    (c : ServiceClass) (x : Tag) :
    x ∈ (s.toTail f).planner.ready.get c ↔ x ∈ s.planner.ready.get c := by
  by_cases hc : f.cls = c
  · subst hc
    by_cases hx : x = f.tag
    · simp [State.toTail, hx, hin]
    · simp [State.toTail, hx]
  · simp [State.toTail, quad_get_set_other _ _ _ _ hc]

theorem Members.toTail {s : State} (h : Members s) {f : Flow}
    (hin : f.tag ∈ s.planner.ready.get f.cls) : Members (s.toTail f) := by
  have hmem := mem_ready_toTail hin
  refine ⟨h.store, fun c => ?_, fun c x => (hmem c x).trans (h.mem c x), h.visits, fun x hx => ?_,
    h.pendings⟩
  · by_cases hc : f.cls = c
    · subst hc
      simp only [State.toTail, modPlanner_planner, quad_get_set_same]
      exact List.nodup_append.mpr ⟨(h.once _).filter _, List.nodup_singleton _, fun a ha b hb he => by
        rw [he, List.mem_singleton.mp hb] at ha
        simp at ha⟩
    · simp only [State.toTail, modPlanner_planner, quad_get_set_other _ _ _ _ hc]
      exact h.once c
  · obtain ⟨c, hc⟩ := h.visited x hx
    exact ⟨c, (hmem c x).mpr hc⟩

/-! ### Calm moves -/

theorem Adds.walk {s t : State} (h : Adds s t) :
    t.planner.ready = s.planner.ready ∧ t.visits = s.visits := by
  cases h <;> simp [State.visits]

theorem flow_of_flowIx {s t : State} (hflows : t.store.flows = s.store.flows) {tag : Tag}
    (hix : t.flowIx tag = s.flowIx tag) : t.flow tag = s.flow tag := by
  unfold State.flow
  rw [hflows, hix]

theorem flowIx_of_tagState {s t : State} {tag : Tag} (h : t.tagState tag = s.tagState tag) :
    t.flowIx tag = s.flowIx tag := by
  unfold State.flowIx
  rw [h]

theorem flowIx_eq_some {s : State} {tag : Tag} {i : Nat} :
    s.flowIx tag = some i ↔ s.tagState tag = some (.bound i) := by
  unfold State.flowIx
  split <;> simp_all

theorem flowIx_of_unbound {s : State} {tag : Tag} (h : ∀ i, s.tagState tag ≠ some (.bound i)) :
    s.flowIx tag = none :=
  Option.eq_none_iff_forall_ne_some.mpr fun i hi => h i (flowIx_eq_some.mp hi)

/-- A DRAINING tag names no flow, and FREE it names none (R41, R48). -/
theorem flow_orphanGone {s : State} (hs : StoreLaw s) (tag x : Tag) :
    (s.orphanGone tag).flow x = s.flow x := by
  obtain ⟨⟨-, -, hwf⟩, -, -⟩ := id hs
  unfold State.orphanGone
  split
  · rename_i n hn
    by_cases hx : x = tag
    · subst hx
      refine flow_of_flowIx (s := s) (t := s.modStore _) rfl ((flowIx_of_unbound fun i hi => ?_).trans
        (flowIx_of_unbound fun i hi => ?_).symm)
      · simp only [State.tagState, modStore_store] at hi
        split at hi
        · simp [tabGet_tabDel _ _ _ hwf] at hi
        · simp [tabGet_tabPut] at hi
      · cases hn.symm.trans hi
    · refine flow_of_flowIx (s := s) (t := s.modStore _) rfl (flowIx_of_tagState ?_)
      simp only [State.tagState, modStore_store]
      split
      · rw [tabGet_tabDel _ _ _ hwf, if_neg (toNat_ne hx)]
      · rw [tabGet_tabPut, if_neg (toNat_ne hx)]
  · rfl

theorem Members.calm {s t : State} (hc : Calm s t) (h : Members s) : Members t := by
  cases hc with
  | wane hw => exact h.of_store hw.store hw.ready hw.visits
  | adds ha => exact h.of_store ha.store ha.walk.1 (ha.walk.2 ▸ .refl _)
  | flow tag g hg =>
    refine h.updFlow tag fun f hf => ?_
    exact ⟨(hg f hf).tag, (hg f hf).cls, (hg f hf).pendings.trans (h.pendings tag f hf)⟩
  | record hf hmove =>
    obtain ⟨-, hflow⟩ := h.store.named hf
    refine h.updFlow _ fun f' hf' => ?_
    cases hflow.symm.trans hf'
    exact ⟨hmove.tag, hmove.cls, hmove.pendings.trans (h.pendings _ _ hflow)⟩
  | orphan tag =>
    refine h.same (h.store.orphanGone tag) (flow_orphanGone h.store tag) (by simp) ?_
    simp [State.visits]
  | modem hm hmove =>
    refine h.same (StoreLaw.calm (.modem hm hmove) h.store) (fun _ => rfl) (by simp) ?_
    simp [State.visits]
  | noModem i => exact h.same (h.store.freeModem i) (fun _ => rfl) rfl (.refl _)

/-! ### Placing a turn -/

theorem Members.calms {s t : State} (h : Members s) (hc : Calms s t) : Members t :=
  calms_keep Members.calm hc h

theorem Members.openTurn {s : State} (h : Members s) (e : Entry) (p : PendingEntry) :
    Members ((s.placeEntry e).openPending p) :=
  (h.modBuild (g := fun b => { b with map := { b.map with entries := insertEntry e b.map.entries } })
    fun _ => rfl).of_store rfl rfl (.refl _)

/-- Two states with the same records: what one lists the other does. -/
theorem Members.localHold {s : State} (h : Members s) (n : MapName) (key : Key) (e : Entry)
    (single : Bool) : Members (if single then s.addLocalHold n key e else s) := by
  split
  · exact h.of_store rfl rfl (.refl _)
  · exact h

/-- A cadence turn of a flow with fewer than 4 pending turns (R99, R101). -/
theorem Members.placeCadence {s : State} (h : Members s) (n : MapName) {f : Flow} (m : Modem)
    (c : Cadence) (slot need : Nat) (hf : s.flow f.tag = some f) (hpend : f.pendingCount < 4) :
    Members (s.placeCadence n f m c slot need) := by
  unfold State.placeCadence
  extract_lets hold e u v w x
  have hu : Members u := h.openTurn e _
  have hv : Members v := by
    refine hu.updFlow _ fun g hg => ?_
    have hsame : u.flow f.tag = some f := hf
    cases hsame.symm.trans hg
    exact ⟨rfl, rfl, hpend⟩
  have hw : Members w := hv.localHold n f.modemKey e m.single
  have hx : Members x := by
    cases hhold : hold
    case false => simpa only [x, hhold, Bool.false_eq_true, if_false] using hw
    case true =>
      simpa only [x, hhold, if_true] using hw.calms (queueTakeHold_calms w n f e 0)
  exact hx.calms (modCadence_calms _ _ _)

theorem Members.handleCadence {s : State} (h : Members s) (b : Build) (tag : Tag) :
    Members (s.handleCadence b tag) := by
  have hblocked : Members (s.blocked b.map.name.chan) := h.calms (modCadence_calms s _ _)
  unfold State.handleCadence
  split
  · exact h
  · rename_i f hf
    split
    · split
      · exact h
      · split
        · exact hblocked
        · rename_i hbarred
          unfold State.positionCadence
          dsimp only
          split
          · exact hblocked
          · split
            · exact hblocked
            · refine h.placeCadence _ _ _ _ _ (h.store.bound hf ▸ hf) ?_
              have hle := h.pendings tag f hf
              have hne : f.pendingCount ≠ 4 := by
                simp only [State.cadenceBarred, Bool.or_eq_true, beq_iff_eq, not_or] at hbarred
                exact hbarred.1.1.1
              omega
    · exact h

theorem Members.placeWindow {s : State} (h : Members s) (e : Entry) : Members (s.placeEntry e) :=
  h.modBuild fun _ => rfl

theorem Members.placeJoin {s : State} (h : Members s) (b : Build) : Members (s.placeJoin b) := by
  unfold State.placeJoin
  dsimp only
  split
  · exact h.placeWindow _
  · exact h.calms (modMaps_calms s _ _)

theorem Members.placeBid {s : State} (h : Members s) (b : Build) : Members (s.placeBid b) := by
  unfold State.placeBid
  dsimp only
  split
  · exact h.placeWindow _
  · split
    · exact (h.placeWindow _).calms (modMaps_calms _ _ _)
    · exact h.calms (modMaps_calms s _ _)

theorem Members.beginWalk {s : State} (h : Members s) : Members s.beginWalk := by
  unfold State.beginWalk
  split
  · exact h
  · rename_i b hb
    split
    · exact h.noVisits rfl
    · rename_i r _ _
      have hvisits : (s.modBuild fun b => { b with
          phase := .walk r.start [] quadIndexes, barred := s.life == .listen }).visits = [] := by
        simp [State.visits, State.modBuild, hb, Phase.visits]
      refine ⟨h.store, h.once, h.mem, ?_, fun tag htag => ?_, h.pendings⟩
      · rw [hvisits]
        exact .nil
      · rw [hvisits] at htag
        cases htag

theorem Members.endWalk {s : State} (h : Members s) : Members s.endWalk := by
  unfold State.endWalk
  split
  · exact h
  · split
    · split
      · exact h.noVisits rfl
      · exact h
    · exact h

/-! ### A visit of the walk (R78 to R82) -/

/-- What is left to visit behind `tag`: members, once each, and not the flow itself. -/
structure Rest (s : State) (tag : Tag) (left : List Tag) : Prop where
  once : left.Nodup
  others : tag ∉ left
  listed : ∀ x ∈ left, s.listed x

theorem Rest.ready {s t : State} {tag : Tag} {left : List Tag} (h : Rest s tag left)
    (hready : t.planner.ready = s.planner.ready) : Rest t tag left where
  once := h.once
  others := h.others
  listed x hx := by
    obtain ⟨c, hc⟩ := h.listed x hx
    exact ⟨c, hready ▸ hc⟩

theorem Rest.updFlow {s : State} {tag : Tag} {left : List Tag} (h : Rest s tag left)
    (hs : Members s) {g : Flow → Flow} (hm : Members (s.updFlow tag g)) :
    Rest (s.updFlow tag g) tag left where
  once := h.once
  others := h.others
  listed x hx := hs.listed_updFlow hm (fun he => h.others (he ▸ hx)) (h.listed x hx)

theorem Members.walkOn {s : State} (h : Members s) {tag : Tag} {left : List Tag}
    (hrest : Rest s tag left) (cursor : Nat) (classes : List ServiceClass) :
    Members (s.setPhase (.walk cursor left classes)) :=
  h.phase hrest.once hrest.listed

/-- To the tail of the list, when the flow still has a place in it (R82). -/
theorem Members.requeue {s : State} (h : Members s) {tag : Tag} {left : List Tag}
    (hrest : Rest s tag left) : Members (s.requeue tag) ∧ Rest (s.requeue tag) tag left := by
  unfold State.requeue
  split
  · rename_i f hf
    split
    · rename_i helig
      have hin : f.tag ∈ s.planner.ready.get f.cls := by
        rw [h.store.bound hf]
        exact h.ready hf helig
      refine ⟨h.toTail hin, hrest.once, hrest.others, fun x hx => ?_⟩
      obtain ⟨c, hc⟩ := hrest.listed x hx
      exact ⟨c, (mem_ready_toTail hin c x).mpr hc⟩
    · exact ⟨h, hrest⟩
  · exact ⟨h, hrest⟩

theorem granted_keeps (f : Flow) (b : Nat) (spans : Bool) :
    (f.granted b spans).tag = f.tag ∧ (f.granted b spans).cls = f.cls ∧
      (f.granted b spans).pendingCount = f.pendingCount + 1 := by
  have hcharge : (f.charge b).pendingCount = f.pendingCount := by
    unfold Flow.charge
    split <;> rfl
  have hgrant := granted_grant f b spans
  refine ⟨hgrant.tag, hgrant.cls, ?_⟩
  unfold Flow.granted
  dsimp only
  split <;> simp [hcharge]

theorem Members.placeData {s : State} (h : Members s) (n : MapName) {f : Flow} (m : Modem)
    (k : Candidate) {left : List Tag} (classes : List ServiceClass) (hf : s.flow f.tag = some f)
    (hpend : f.pendingCount < 4) (hrest : Rest s f.tag left) :
    Members (s.placeData n f m k left classes) := by
  unfold State.placeData
  extract_lets spans e u v w x
  have hu : Members u := h.openTurn e _
  have hv : Members v := by
    refine hu.updFlow _ fun g hg => ?_
    have hsame : u.flow f.tag = some f := hf
    cases hsame.symm.trans hg
    obtain ⟨htag, hcls, hcount⟩ := granted_keeps f k.bytes spans
    exact ⟨htag, hcls, hcount ▸ hpend⟩
  have hvrest : Rest v f.tag left := Rest.updFlow (s := u) (hrest.ready rfl) hu hv
  have hw : Members w ∧ Rest w f.tag left := by
    cases hspans : spans
    case false =>
      simpa only [w, hspans, Bool.false_eq_true, if_false] using And.intro hv hvrest
    case true =>
      simp only [w, hspans, if_true]
      exact ⟨hv.calms (queueTake_calms v n f m e),
        hvrest.ready (by rw [queueTake_planner])⟩
  have hx : Members x ∧ Rest x f.tag left := by
    refine ⟨hw.1.localHold n f.modemKey e m.single, hw.2.ready ?_⟩
    simp only [x]
    split <;> rfl
  obtain ⟨hmembers, hlast⟩ := hx.1.requeue hx.2
  exact hmembers.walkOn hlast _ _

theorem refresh_keeps (f : Flow) (now : Beat) : (f.refresh now).tag = f.tag ∧
    (f.refresh now).cls = f.cls ∧ (f.refresh now).pendingCount = f.pendingCount ∧
      (f.refresh now).eligible = f.eligible := ⟨rfl, rfl, rfl, rfl⟩

theorem Members.visit {s : State} (h : Members s) (b : Build) {tag : Tag} (cursor : Nat)
    {left : List Tag} (classes : List ServiceClass) (hlisted : s.listed tag)
    (hrest : Rest s tag left) : Members (s.visit b tag cursor left classes) := by
  unfold State.visit
  split
  · exact h
  · rename_i f hf
    split
    · exact h
    · rename_i m _
      split
      · exact h
      · have helig := h.eligible hlisted hf
        have hu : Members (s.updFlow tag fun _ => f.refresh s.time.beat) := by
          refine h.updFlow tag fun g hg => ?_
          cases hf.symm.trans hg
          exact ⟨rfl, rfl, h.pendings tag f hf⟩
        have hread : (s.updFlow tag fun _ => f.refresh s.time.beat).flow tag
            = some (f.refresh s.time.beat) := flow_updFlow_same hf _
        have hurest := hrest.updFlow h hu
        obtain ⟨htags, -, hcount, heligs⟩ := refresh_keeps f s.time.beat
        have htag : (f.refresh s.time.beat).tag = tag := htags.trans (h.store.bound hf)
        have hpend : (f.refresh s.time.beat).pendingCount < 4 :=
          hcount ▸ pendings_lt_of_eligible helig
        have hstays : (f.refresh s.time.beat).eligible = true := heligs.trans helig
        dsimp only
        generalize (s.updFlow tag fun _ => f.refresh s.time.beat) = u at hu hread hurest ⊢
        split
        · refine hu.toTail ?_
          rw [htag]
          exact hu.ready hread hstays
        · unfold State.sizeAndPlace
          dsimp only
          split
          · exact hu.noVisits rfl
          · split
            · exact hu.walkOn hurest _ _
            · exact hu.placeData _ _ _ _ (htag.symm ▸ hread) hpend (htag.symm ▸ hurest)

/-- One placement: a walk visits members, and a flow at 4 pending turns is none (R77, R82, R99). -/
theorem Members.placeOne {s : State} (h : Members s) : Members s.placeOne := by
  have hnone (ph : Phase) (hph : ph.visits = []) : Members (s.setPhase ph) := h.noVisits hph
  unfold State.placeOne
  split
  · exact h
  · rename_i b hb
    split
    · exact hnone _ rfl
    · split
      · exact hnone _ rfl
      · exact (hnone _ rfl).handleCadence _ _
    · split
      · exact hnone _ rfl
      · split
        · exact hnone _ rfl
        · exact (h.placeJoin b).noVisits rfl
    · split
      · exact hnone _ rfl
      · exact ((h.placeBid b).beginWalk).endWalk
    · exact hnone _ rfl
    · split
      · exact hnone _ rfl
      · exact h.phase (h.once _) fun tag htag => ⟨_, htag⟩
    · rename_i cursor tag left classes hphase
      have hvisits : s.visits = tag :: left := by simp [State.visits, hb, hphase, Phase.visits]
      split
      · exact hnone _ rfl
      · obtain ⟨hnot, hnodup⟩ := List.nodup_cons.mp (hvisits ▸ h.visits)
        have hlisted (x : Tag) (hx : x ∈ tag :: left) : s.listed x := h.visited x (hvisits ▸ hx)
        have hrest : Rest s tag left :=
          ⟨hnodup, hnot, fun x hx => hlisted x (List.mem_cons_of_mem _ hx)⟩
        have hon := h.walkOn hrest cursor classes
        exact (hon.visit b cursor classes (hlisted tag List.mem_cons_self)
          (hrest.ready rfl)).endWalk
    · exact h

/-! ### Flows that come and go -/

theorem Members.bind {s : State} (h : Members s) {ix : Nat} {f : Flow} (hfresh : FreshFlow f)
    (htag : s.tagState f.tag = none)
    (hfree : freeRecord s.store.flows Config.flowRecords = some ix) :
    Members (s.modStore fun st => { st with
      flows := tabPut st.flows ix f, tagMap := tabPut st.tagMap f.tag.toNat (.bound ix) }) := by
  have hstore := h.store.bind htag hfree
  generalize ht : (s.modStore fun st => { st with
      flows := tabPut st.flows ix f, tagMap := tabPut st.tagMap f.tag.toNat (.bound ix) }) = t
    at hstore ⊢
  have hplanner : t.planner = s.planner := ht ▸ rfl
  have hunbound : s.flow f.tag = none := by simp [State.flow, State.flowIx, htag]
  have hnew : t.flow f.tag = some f := by
    subst ht
    simp [State.flow, State.flowIx, State.tagState, tabGet_tabPut]
  have hold (x : Tag) (hx : x ≠ f.tag) : t.flow x = s.flow x := by
    have hstate : t.tagState x = s.tagState x := by
      subst ht
      simp [State.tagState, tabGet_tabPut, toNat_ne hx]
    have hix := flowIx_of_tagState hstate
    unfold State.flow
    rw [hix]
    cases hj : s.flowIx x with
    | none => rfl
    | some j =>
      obtain ⟨-, hbound, -⟩ := id h.store
      obtain ⟨g, hg, -⟩ := hbound x j (flowIx_eq_some.mp hj)
      have hne : j ≠ ix := by
        rintro rfl
        obtain ⟨⟨-, ⟨hwf, -⟩, -⟩, -, -⟩ := id h.store
        obtain ⟨-, rfl⟩ := freeRecord_lt hfree
        simp [tabGet_lowestFree hwf] at hg
      subst ht
      simp [tabGet_tabPut, hne]
  have hidle : f.eligible = false := by simp [Flow.eligible, Flow.unclaimed, hfresh.outstanding]
  refine ⟨hstore, hplanner ▸ h.once, fun c x => ?_, ?_, fun x hx => ?_, fun x g hg => ?_⟩
  · rw [hplanner, h.mem c x]
    by_cases hx : x = f.tag
    · subst hx
      simp [hunbound, hnew, hidle]
    · rw [hold x hx]
  · simpa only [State.visits, hplanner] using h.visits
  · obtain ⟨c, hc⟩ := h.visited x (by simpa only [State.visits, hplanner] using hx)
    exact ⟨c, hplanner ▸ hc⟩
  · by_cases he : x = f.tag
    · subst he
      cases hnew.symm.trans hg
      simp [hfresh.pendings]
    · exact h.pendings x g (hold x he ▸ hg)

theorem Members.removes {s t : State} {tag : Tag} {ix : Nat} {f : Flow} (h : Members s)
    (hr : Removes s t tag ix f) : Members t := by
  have hstore := h.store.removes hr
  obtain ⟨hget, hothers, hgone⟩ := hr.reads h.store
  obtain ⟨hstate, hat, rfl⟩ := hr.named_of_store h.store
  have hflow : s.flow f.tag = some f := (h.store.named hat).2
  have hnone : t.flow f.tag = none := by
    simp [State.flow, flowIx_of_unbound hgone]
  have hold (x : Tag) (hx : x ≠ f.tag) : t.flow x = s.flow x := by
    have hix := flowIx_of_tagState (hothers x hx)
    unfold State.flow
    rw [hix]
    cases hj : s.flowIx x with
    | none => rfl
    | some j =>
      have hne : j ≠ ix := by
        rintro rfl
        obtain ⟨-, hbound, -⟩ := id h.store
        obtain ⟨g, hg, hgtag⟩ := hbound x j (flowIx_eq_some.mp hj)
        cases hat.symm.trans hg
        exact hx hgtag.symm
      simp only [Option.bind_some, hget, if_neg hne]
  have hmem (c : ServiceClass) (x : Tag) :
      x ∈ t.planner.ready.get c ↔ x ∈ s.planner.ready.get c ∧ x ≠ f.tag := by
    rw [hr.ready]
    have hleave := mem_ready_leaveReady s f c x
    simp only [State.leaveReady, modPlanner_planner] at hleave
    rw [hleave]
    refine and_congr_right fun hx => ⟨fun hc he => ?_, fun hne _ => hne⟩
    subst he
    obtain ⟨g, hg, hcls, -⟩ := (h.mem c f.tag).mp hx
    cases hflow.symm.trans hg
    exact hc hcls.symm rfl
  refine ⟨hstore, fun c => ?_, fun c x => ?_, ?_, fun x hx => ?_, fun x g hg => ?_⟩
  · rw [hr.ready]
    by_cases hc : f.cls = c
    · subst hc
      rw [quad_get_set_same]
      exact (h.once _).filter _
    · rw [quad_get_set_other _ _ _ _ hc]
      exact h.once c
  · rw [hmem, h.mem]
    by_cases hx : x = f.tag
    · subst hx
      simp [hnone]
    · simp [hold x hx, hx]
  · exact (h.visits.filter _).sublist hr.visits
  · obtain ⟨hin, hne⟩ := List.mem_filter.mp (hr.visits.subset hx)
    obtain ⟨c, hc⟩ := h.visited x hin
    exact ⟨c, (hmem c x).mpr ⟨hc, by simpa using hne⟩⟩
  · by_cases he : x = f.tag
    · subst he
      simp [hnone] at hg
    · exact h.pendings x g (hold x he ▸ hg)

/-! ### Every move keeps the law -/

theorem Members.move {s t : State} (hm : Move s t) (h : Members s) : Members t := by
  cases hm with
  | calm hc => exact h.calm hc
  | hand m hcalms _ _ => exact (h.calms hcalms).of_store rfl rfl (.refl _)
  | begin b _ hvisits =>
    have hnone : (s.modPlanner fun p => { p with building := some b }).visits = [] := hvisits
    exact ⟨h.store, h.once, h.mem, hnone ▸ .nil, by simp [hnone], h.pendings⟩
  | place => exact h.placeOne
  | enrol key single normal fallback hlife hfree =>
    refine h.same (StoreLaw.move (.enrol key single normal fallback hlife hfree) h.store)
      (fun _ => rfl) (by simp) ?_
    simp [State.visits]
  | bind hfresh htag hfree => exact h.bind hfresh htag hfree
  | remove hr => exact h.removes hr
  | accept _ _ => exact h.of_store rfl rfl (.refl _)
  | listen _ _ => exact h.of_store rfl rfl (.refl _)

theorem members_of_reset {s : State} (hstore : s.store = FlowStore.reset)
    (hplanner : s.planner = Planner.reset) : Members s := by
  have hflow (tag : Tag) : s.flow tag = none := by
    simp [State.flow, State.flowIx, State.tagState, hstore, FlowStore.reset, tabGet]
  have hlists (c : ServiceClass) : s.planner.ready.get c = [] := by
    simp [hplanner, Planner.reset, quad_get_all]
  have hvisits : s.visits = [] := by simp [State.visits, hplanner, Planner.reset]
  exact ⟨storeLaw_of_nil hstore, fun c => hlists c ▸ .nil, by simp [hlists, hflow], hvisits ▸ .nil,
    by simp [hvisits], by simp [hflow]⟩

/-- Settles O11: a write to a record applies the rule of membership at once, a walk visits members alone,
and a flow that goes leaves its list. -/
theorem stepKeepsReadyLaw : Obligations.StepKeepsReadyLaw := by
  intro s t hs hstep
  exact (step_keeps Members.move (fun s l h => h.of_store rfl rfl (.refl _))
    (fun s straps _ => members_of_reset rfl rfl) (fun s _ => members_of_reset rfl rfl) hs.members
    hstep).law

end Sys2Proof.Machine
end

section
/-! SUPPORT. The step, the outcomes of the commands, and the laws of the reset state. -/

namespace Sys2Proof.Machine

-- One proof after another: side by side, as many as stand here need more threads than the check gives.
set_option Elab.async false

/-- Settles O1, by the second equation of `step`. -/
theorem stepRunsTheFrontCommand : Obligations.StepRunsTheFrontCommand := fun _ _ => rfl

/-! ### The clock on an empty queue -/

theorem toNat_sub_le_one_iff (a t : Tick) : (t - a).toNat ≤ 1 ↔ t = a ∨ t = a + 1 := by
  bv_omega

/-- A tick counted on ends the entries whose end tick is the old tick or the new one (R134). -/
theorem endedBy_tick (e : PendingEntry) (now : Tick) : e.endedBy now 1 =
    if e.endTick = now ∨ e.endTick = now + 1 then { e with ended := true } else e := by
  unfold PendingEntry.endedBy reaches
  split
  · rename_i h
    simp only [decide_eq_true ((toNat_sub_le_one_iff _ _).mpr h), Bool.or_true]
  · rename_i h
    simp only [decide_eq_false (mt (toNat_sub_le_one_iff _ _).mp h), Bool.or_false]

theorem ahead_succ (now : Tick) : ahead now (now + 1) = 1 := by
  unfold ahead
  bv_omega

/-- Settles O2: the three cases of the clock part of a step. -/
theorem emptyQueueLetsTheClockRun : Obligations.EmptyQueueLetsTheClockRun := by
  intro s hempty
  rw [step_of_no_command hempty]
  refine ⟨fun ht => by rw [idle_untimed ht], fun ht hnone => ?_, fun d i hone hcommand => ?_⟩
  · rw [idle_of_no_deadline_now ht hnone]
    simp only [State.setNow, ahead_succ, State.modTime, State.modTracker, Tracker.passing,
      endedBy_tick]
  · have hd : d ∈ s.deadlines := List.mem_of_mem_filter (hone ▸ List.mem_singleton_self d)
    have ht : s.time.timed = true := by
      cases ht : s.time.timed with
      | true => rfl
      | false => simp [State.deadlines, ht] at hd
    have hwithin : s.within 1 = [d] := by
      rw [← hone]
      refine List.filter_congr fun e _ => ?_
      rw [decide_eq_decide.mpr (distance_lt_one_iff s e)]
      rfl
    simp [State.idle, ht, hwithin, State.draw, hcommand]

/-! ### The outcomes of the commands -/

theorem hostCommand_pending (s : State) (code : Byte) (takenIn : Life → Bool)
    {run : State → State × Reply} (hrun : ∀ u, (run u).1.pending = u.pending) :
    (s.hostCommand code takenIn run).pending = s.pending := by
  unfold State.hostCommand
  split
  · rfl
  · split
    · exact (show _ = _ from rfl).trans (hrun s.takeFrame)
    · rfl

theorem record_pending (s : State) {take : State → State} (h : ∀ u, (take u).pending = u.pending) :
    (s.record take).pending = s.pending := by
  unfold State.record
  split
  · rfl
  · exact h s

theorem foldl_removeRecord_pending (l : List Nat) (s : State) :
    (l.foldl State.removeRecord s).pending = s.pending := by
  induction l generalizing s with
  | nil => rfl
  | cons i l ih =>
    refine (ih _).trans ?_
    unfold State.removeRecord
    split <;> simp

theorem placeFlow_pending (s : State) (a : AdmitFlow) (mi : Nat) (m : Modem) :
    (s.placeFlow a mi m).1.pending = s.pending := by
  unfold State.placeFlow
  split
  · rfl
  · split
    · rfl
    · unfold State.newFlow
      split <;> rfl

/-- No command changes the queue of waiting commands (log 1). -/
theorem exec_pending {i : Instr} {s t : State} (h : exec i s = .next t) : t.pending = s.pending := by
  have hnext {u : State} (hu : u.pending = s.pending) (hi : exec i s = .next u) :
      t.pending = s.pending := by
    rw [hi] at h
    injection h with h
    exact h ▸ hu
  have hhost (code : Byte) (takenIn : Life → Bool) (run : State → State × Reply)
      (hrun : ∀ u, (run u).1.pending = u.pending)
      (hi : exec i s = .next (s.hostCommand code takenIn run)) : t.pending = s.pending :=
    hnext (hostCommand_pending s code takenIn hrun) hi
  have hdue (d : Deadline) (hi : exec i s = .next (s.atDeadline d)) : t.pending = s.pending :=
    hnext (by simp) hi
  have hrecord (take : State → State) (htake : ∀ u, (take u).pending = u.pending)
      (hi : exec i s = .next (s.record take)) : t.pending = s.pending :=
    hnext (record_pending s htake) hi
  cases i
  case hardReset straps => exact hnext (u := s.hardReset straps) rfl rfl
  case timeWord v check => exact hnext (u := s.takeTimeWord v check) (by simp) rfl
  case beatEvent t => exact hdue _ rfl
  case buildStart c n => exact hdue _ rfl
  case deliverDeadline c n => exact hdue _ rfl
  case periodStart c n => exact hdue _ rfl
  case listenEnd t => exact hdue _ rfl
  case pendingExpiry t => exact hdue _ rfl
  case localHoldEnd t => exact hdue _ rfl
  case sharedHoldEnd t => exact hdue _ rfl
  case presenceTimer t => exact hdue _ rfl
  case absenceTick k t => exact hdue _ rfl
  case bidRecord r => exact hrecord _ (fun u => by simp) rfl
  case outcomeReport r => exact hrecord _ (fun u => by simp) rfl
  case windowTally r => exact hrecord _ (fun u => by simp) rfl
  case arrivalRecord r => exact hrecord _ (fun u => by simp) rfl
  case burstRecordDiscard kind ended =>
    change execBurstRecordDiscard kind ended s = _ at h
    unfold execBurstRecordDiscard at h
    split at h
    · injection h with h
      simp [← h]
    · cases h
  case plannerTakesRequest upTo =>
    have hplace (u : State) : (u.placeUpTo upTo).pending = u.pending := by
      unfold State.placeUpTo
      split <;> simp
    change execPlannerTakesRequest upTo s = _ at h
    unfold execPlannerTakesRequest at h
    split at h <;> injection h with h <;> rw [← h]
    · exact hplace s
    · exact (hplace _).trans (by simp)
  case buildEnd =>
    refine hnext (u := s.finishBuild) ?_ rfl
    unfold State.finishBuild
    split <;> simp
  case framerTakesMap =>
    refine hnext (u := s.framerTakes) ?_ rfl
    unfold State.framerTakes
    split <;> simp
  case contentionDecided others joined =>
    exact hnext (u := s.decideContention others joined) (by simp) rfl
  case transmissionEnd heard => exact hnext (u := s.endTransmission heard) (by simp) rfl
  case sweepStepBegin => exact hnext (u := s.beginStep) (by simp) rfl
  case sweepStepCompletion => exact hnext (u := s.completeStep) (by simp) rfl
  case commandBusy =>
    change execCommandBusy s = _ at h
    unfold execCommandBusy at h
    split at h <;> injection h with h <;> rw [← h]
    rfl
  case responseRead n => exact hnext (u := s.readResponse n) rfl rfl
  case malformedFrame => exact hnext (u := s.malformed) rfl rfl
  case badDirectionByte b =>
    change execBadDirectionByte b s = _ at h
    unfold execBadDirectionByte at h
    split at h
    · cases h
    · injection h with h
      exact h ▸ rfl
  case badCommandFrame f =>
    change execBadCommandFrame f s = _ at h
    unfold execBadCommandFrame at h
    split at h
    · cases h
    · split at h
      · injection h with h
        rw [← h]
        unfold State.takeBadFrame
        split <;> rfl
      · cases h
  case loadStart r =>
    refine hhost _ _ _ (fun u => ?_) rfl
    unfold State.loadStart
    split
    · rfl
    · split
      · simp
      · rfl
  case restart => exact hhost _ _ _ (fun u => rfl) rfl
  case admitModem key single normal fallback =>
    refine hhost _ _ _ (fun u => ?_) rfl
    unfold State.admitModem
    split
    · rfl
    · split
      · rfl
      · split
        · rfl
        · simp
  case removeModem key =>
    refine hhost _ _ _ (fun u => ?_) rfl
    unfold State.removeModem
    split
    · rfl
    · exact foldl_removeRecord_pending _ u
  case pinModem key pin =>
    refine hhost _ _ _ (fun u => ?_) rfl
    unfold State.pinModem
    split
    · rfl
    · split
      · rfl
      · split
        · rfl
        · simp
  case readModem key => exact hhost _ _ _ (fun u => rfl) rfl
  case admitFlow a =>
    refine hhost _ _ _ (fun u => ?_) rfl
    unfold State.admitFlow
    split
    · rfl
    · split
      · rfl
      · split
        · rfl
        · unfold State.admitFor
          split
          · rfl
          · rfl
          · split
            · rfl
            · split
              · rfl
              · exact placeFlow_pending u a _ _
  case removeFlow tag =>
    refine hhost _ _ _ (fun u => ?_) rfl
    unfold State.removeTag
    split <;> simp
  case reviveFlow tag =>
    refine hhost _ _ _ (fun u => ?_) rfl
    unfold State.reviveFlow
    split
    · rfl
    · split <;> simp
  case readFlow tag => exact hhost _ _ _ (fun u => rfl) rfl
  case readChannel b =>
    refine hhost _ _ _ (fun u => ?_) rfl
    unfold State.readChannel
    split <;> simp
  case readPeers => exact hhost _ _ _ (fun u => rfl) rfl
  case readStatus => exact hhost _ _ _ (fun u => rfl) rfl
  case readFaults asked => exact hhost _ _ _ (fun u => rfl) rfl
  case clearFaults => exact hhost _ _ _ (fun u => rfl) rfl
  case takeAttention => exact hhost _ _ _ (fun u => rfl) rfl
  case takeArrivals => exact hhost _ _ _ (fun u => rfl) rfl
  case setEventMask b => exact hhost _ _ _ (fun u => rfl) rfl
  case sweepRestart => exact hhost _ _ _ (fun u => by simp [State.restartSweep]) rfl

/-- Every term that spells a command runs (log 27). -/
theorem exec_of_wellFormed {c : Instr} (s : State) (h : c.wellFormed = true) :
    ∃ t, exec c s = .next t := by
  cases c
  case burstRecordDiscard kind ended => exact ⟨s.discardRecord, if_pos h⟩
  case plannerTakesRequest upTo =>
    change ∃ t, execPlannerTakesRequest upTo s = .next t
    unfold execPlannerTakesRequest
    split <;> exact ⟨_, rfl⟩
  case commandBusy =>
    change ∃ t, execCommandBusy s = .next t
    unfold execCommandBusy
    split <;> exact ⟨_, rfl⟩
  case badDirectionByte b =>
    have hb : ¬ (b = 1 ∨ b = 2) := by simpa [Instr.wellFormed] using h
    exact ⟨s.malformed, if_neg hb⟩
  case badCommandFrame f =>
    obtain ⟨hlength, hfault⟩ : f.body.length = f.length.toNat ∧ (frameFault f).isSome = true := by
      simpa [Instr.wellFormed, badFrameWellFormed] using h
    obtain ⟨offset, hoffset⟩ := Option.isSome_iff_exists.mp hfault
    refine ⟨s.takeBadFrame f offset, ?_⟩
    change execBadCommandFrame f s = _
    simp [execBadCommandFrame, hlength, hoffset]
  all_goals exact ⟨_, rfl⟩

/-- Settles O3: the rows with operands that can fail to spell a command test them first. -/
theorem wellFormedCommandsRun : Obligations.WellFormedCommandsRun := by
  refine ⟨fun c s h => exec_of_wellFormed s h, fun kind early s h => ?_, fun b s h => ?_,
    fun f s h => ?_, fun c s t h => exec_pending h⟩
  · exact if_neg (Bool.eq_false_iff.mp h)
  · have hb : b = 1 ∨ b = 2 := by
      by_cases h1 : b = 1
      · exact .inl h1
      · exact .inr ((show b = 1 ∨ b = 2 by simpa [Instr.wellFormed, Decidable.imp_iff_not_or]
          using h).resolve_left h1)
    exact if_pos hb
  · change execBadCommandFrame f s = _
    unfold execBadCommandFrame
    split
    · rfl
    · rename_i hlength
      have hfault : frameFault f = none := by
        simpa [Instr.wellFormed, badFrameWellFormed, not_not.mp hlength] using h
      rw [hfault]

/-! ### The reset state -/

/-- Settles O4: the reset state is empty, and so meets each law. -/
theorem resetMeetsEveryLaw : Obligations.ResetMeetsEveryLaw := by
  have hquiet : Quiet State.reset := quiet_hardReset State.reset 0
  refine ⟨attentionLaw_of_nil rfl, ringLaw_of_nil rfl, holdLaw_of_nil rfl, queueLaw_of_nil rfl, bytesLaw_of_nil rfl,
    storeLaw_of_nil rfl,
    capacityLaw_of_nil rfl rfl rfl rfl, (members_of_reset rfl rfl).law,
    ⟨fun _ => hquiet, laidOut_of_no_maps hquiet.maps⟩, healthLaw_of_reset rfl rfl, fun _ => hquiet,
    fun _ => ⟨rfl, rfl, rfl⟩, rosterLaw_of_absent rfl⟩

end Sys2Proof.Machine
end

section
/-! SUPPORT. Reading back what the layouts of chapter 12 write, and the first period of a channel. -/

namespace Sys2Proof.Machine

-- One proof after another: side by side, as many as stand here need more threads than the check gives.
set_option Elab.async false

/-! ### Bytes and bit fields -/

@[simp] theorem byteOf_toNat (n : Nat) : (byteOf n).toNat = n % 256 := BitVec.toNat_ofNat n 8

theorem byteAt_append_right (l r : List Byte) (i : Nat) : byteAt (l ++ r) (l.length + i) = byteAt r i := by
  rw [byteAt, byteAt, List.getD_append_right _ _ _ _ (Nat.le_add_right _ _), Nat.add_sub_cancel_left]

theorem word2_append_right (l r : List Byte) (i : Nat) :
    word2 (l ++ r) (l.length + i) = word2 r i := by
  simp only [word2, byteAt_append_right, Nat.add_assoc]

/-- A field of at most 16 bits, from the two bytes that state it. -/
theorem ofNat_two_bytes {w : Nat} (hw : w ≤ 16) (x : BitVec w) :
    BitVec.ofNat w ((byteOf (x.toNat / 256)).toNat * 256 + (byteOf x.toNat).toNat) = x := by
  have hlt : x.toNat < 65536 := x.isLt.trans_le (Nat.pow_le_pow_right (by decide) hw)
  have hsum : x.toNat / 256 % 256 * 256 + x.toNat % 256 = x.toNat := by omega
  rw [byteOf_toNat, byteOf_toNat, hsum, BitVec.ofNat_toNat, BitVec.setWidth_eq]

theorem ofNat_four_bytes (x : BitVec 32) :
    BitVec.ofNat 32 (((byteOf (x.toNat / 16777216)).toNat * 256
      + (byteOf (x.toNat / 65536)).toNat) * 65536
      + ((byteOf (x.toNat / 256)).toNat * 256 + (byteOf x.toNat).toNat)) = x := by
  have hlt := x.isLt
  have hsum : (x.toNat / 16777216 % 256 * 256 + x.toNat / 65536 % 256) * 65536
      + (x.toNat / 256 % 256 * 256 + x.toNat % 256) = x.toNat := by omega
  simp only [byteOf_toNat]
  rw [hsum, BitVec.ofNat_toNat, BitVec.setWidth_eq]

theorem ofNat_six_bytes (x : BitVec 48) :
    BitVec.ofNat 48 (word6 (be6 x.toNat) 0) = x := by
  have hlt := x.isLt
  have hword : word6 (be6 x.toNat) 0 = x.toNat := by
    change ((byteOf _).toNat * 256 + (byteOf _).toNat) * 4294967296
      + (((byteOf _).toNat * 256 + (byteOf _).toNat) * 65536
        + ((byteOf _).toNat * 256 + (byteOf _).toNat)) = _
    simp only [byteOf_toNat]
    omega
  rw [hword, BitVec.ofNat_toNat, BitVec.setWidth_eq]

/-- A channel in the two high bits of a byte, whatever stands below. -/
theorem chanOf_high (c : Chan) {n : Nat} (h : n < 64) :
    chanOf ((byteOf (c.val * 64 + n)).toNat / 64) = c := by
  have hc := c.isLt
  apply Fin.ext
  change (byteOf (c.val * 64 + n)).toNat / 64 % 4 = c.val
  rw [byteOf_toNat]
  omega

/-- A field in the low bits of a byte that a channel stands above. -/
theorem ofNat_low {w : Nat} (hw : w ≤ 6) (c : Chan) (x : BitVec w) :
    BitVec.ofNat w (byteOf (c.val * 64 + x.toNat)).toNat = x := by
  apply BitVec.eq_of_toNat_eq
  rw [BitVec.toNat_ofNat, byteOf_toNat]
  have hx := x.isLt
  interval_cases w <;> omega

/-! ### Notices (12.3, R175) -/

/-- The last two bytes agree with the rest (R175). -/
theorem check_withCheck (bs : List Byte) :
    BitVec.ofNat 16 (word2 (withCheck bs) ((withCheck bs).length - 2))
      = crc16 ((withCheck bs).take ((withCheck bs).length - 2)) := by
  have hlen : (withCheck bs).length - 2 = bs.length := by simp [withCheck, be2]
  have hword : word2 (withCheck bs) bs.length = word2 (be2 (crc16 bs).toNat) 0 :=
    word2_append_right bs _ 0
  rw [hlen, hword]
  simp only [withCheck, List.take_left]
  exact ofNat_two_bytes (Nat.le_refl _) (crc16 bs)

/-- Rank and sender of the head byte. -/
theorem noticeHead_toNat (k : StationNo) (n : Notice) :
    (noticeHead k n).toNat = noticeRank n * 32 + k.toNat * 4 := by
  have hk := k.isLt
  have hrank : noticeRank n ≤ 4 := by cases n <;> simp [noticeRank]
  rw [noticeHead, byteOf_toNat]
  omega

theorem rank_of_head (k : StationNo) (n : Notice) : (noticeHead k n).toNat / 32 = noticeRank n := by
  have hk := k.isLt
  rw [noticeHead_toNat]
  omega

theorem sender_of_head (k : StationNo) (n : Notice) :
    BitVec.ofNat 3 ((noticeHead k n).toNat / 4) = k := by
  have hk := k.isLt
  apply BitVec.eq_of_toNat_eq
  rw [BitVec.toNat_ofNat, noticeHead_toNat]
  omega

theorem noticeChecks_noticeBytes (k : StationNo) (n : Notice) :
    noticeChecks (noticeBytes k n) = true := by
  have hrank : byteAt (noticeBytes k n) 0 / 32 = noticeRank n := rank_of_head k n
  have hlen : noticeLength (noticeRank n) = some (noticeBytes k n).length := by cases n <;> rfl
  rw [noticeChecks, hrank, hlen, Bool.and_eq_true, beq_self_eq_true, beq_iff_eq]
  exact ⟨rfl, check_withCheck _⟩

/-- Settles O15: the check agrees, the head byte gives rank and sender, and the fields lie where the
layout of 12.3 puts them. -/
theorem noticeRoundTrip : Obligations.NoticeRoundTrip := by
  intro k n
  have hrank : byteAt (noticeBytes k n) 0 / 32 = noticeRank n := rank_of_head k n
  have hsender : BitVec.ofNat 3 (byteAt (noticeBytes k n) 0 / 4) = k := sender_of_head k n
  rw [noticeOf, if_pos (noticeChecks_noticeBytes k n)]
  simp only [hrank, hsender]
  cases n with
  | takeHold tag b key a z =>
    change some (k, Notice.takeHold (BitVec.ofNat 14 (_ * 256 + _)) (BitVec.ofNat 16 (_ * 256 + _))
      (BitVec.ofNat 16 (_ * 256 + _)) (BitVec.ofNat 32 ((_ * 256 + _) * 65536 + (_ * 256 + _)))
      (BitVec.ofNat 32 ((_ * 256 + _) * 65536 + (_ * 256 + _)))) = _
    exact congrArg (fun n => some (k, n)) (by
      congr 1
      · exact ofNat_two_bytes (by decide) tag
      · exact ofNat_two_bytes (by decide) b
      · exact ofNat_two_bytes (by decide) key
      · exact ofNat_four_bytes a
      · exact ofNat_four_bytes z)
  | take tag b =>
    exact congrArg₂ (fun x y => some (k, Notice.take x y)) (ofNat_two_bytes (by decide) tag)
      (ofNat_two_bytes (by decide) b)
  | give tag b =>
    exact congrArg₂ (fun x y => some (k, Notice.give x y)) (ofNat_two_bytes (by decide) tag)
      (ofNat_two_bytes (by decide) b)
  | bid tag b =>
    exact congrArg₂ (fun x y => some (k, Notice.bid x y)) (ofNat_two_bytes (by decide) tag)
      (ofNat_two_bytes (by decide) b)
  | presence serving => cases serving <;> rfl

/-! ### Burst records (12.2), the time word and frames (12.3, 12.4) -/

theorem bidRecordOf_bytes (r : BidRecord) : bidRecordOf (bidRecordBytes r) = r := by
  obtain ⟨chan, period, tag, bytes⟩ := r
  change BidRecord.mk _ _ _ _ = _
  congr 1
  · exact chanOf_high chan (n := 0) (by decide)
  · exact ofNat_two_bytes (by decide) period
  · exact ofNat_two_bytes (by decide) tag
  · exact ofNat_two_bytes (by decide) bytes

theorem outcomeReportOf_bytes (r : OutcomeReport) : outcomeReportOf (outcomeReportBytes r) = r := by
  obtain ⟨chan, period, slot, result, used, corrected, uncorrectable, margin, present, tail⟩ := r
  have hresult := result.isLt
  have hchan := chan.isLt
  have hbit : bitOf present ≤ 1 := by cases present <;> decide
  change OutcomeReport.mk _ _ _ _ _ _ _ _ _ _ = _
  congr 1
  · change chanOf ((byteOf (chan.val * 64 + bitOf present * 4 + result.toNat)).toNat / 64) = chan
    rw [Nat.add_assoc]
    exact chanOf_high chan (by omega)
  · exact ofNat_two_bytes (by decide) period
  · exact ofNat_two_bytes (by decide) slot
  · apply BitVec.eq_of_toNat_eq
    change (byteOf (chan.val * 64 + bitOf present * 4 + result.toNat)).toNat % 4 = _
    rw [byteOf_toNat]
    omega
  · exact ofNat_two_bytes (by decide) used
  · exact ofNat_two_bytes (by decide) corrected
  · exact ofNat_two_bytes (by decide) uncorrectable
  · apply BitVec.eq_of_toNat_eq
    change (byteOf margin.toNat).toNat % 64 = _
    have hmargin := margin.isLt
    rw [byteOf_toNat]
    omega
  · change (byteOf (chan.val * 64 + bitOf present * 4 + result.toNat)).toNat.testBit 2 = present
    rw [byteOf_toNat, Nat.testBit_eq_decide_div_mod_eq]
    cases present <;> simp only [bitOf] <;> simp <;> omega
  · exact ofNat_two_bytes (by decide) tail

theorem windowTallyOf_bytes (r : WindowTally) : windowTallyOf (windowTallyBytes r) = r := by
  obtain ⟨chan, period, join, length, singles, collisions, empties⟩ := r
  have hchan := chan.isLt
  have hbit : bitOf join ≤ 1 := by cases join <;> decide
  change WindowTally.mk _ _ _ _ _ _ _ = _
  congr 1
  · exact chanOf_high chan (show bitOf join < 64 by omega)
  · exact ofNat_two_bytes (by decide) period
  · change (byteOf (chan.val * 64 + bitOf join)).toNat.testBit 0 = join
    rw [byteOf_toNat, Nat.testBit_zero]
    cases join <;> simp only [bitOf] <;> simp <;> omega
  · exact ofNat_two_bytes (by decide) length
  · exact ofNat_two_bytes (by decide) singles
  · exact ofNat_two_bytes (by decide) collisions
  · exact ofNat_two_bytes (by decide) empties

theorem arrivalRecordOf_bytes (r : ArrivalRecord) : arrivalRecordOf (arrivalRecordBytes r) = r := by
  obtain ⟨chan, margin, identity⟩ := r
  change ArrivalRecord.mk _ _ _ = _
  congr 1
  · exact chanOf_high chan margin.isLt
  · exact ofNat_low (by decide) chan margin
  · exact ofNat_six_bytes identity

theorem timeWordOf_bytes (v : Tick) (check : BitVec 16) :
    timeWordOf (be4 v.toNat ++ be2 check.toNat) = .timeWord v check :=
  congrArg₂ Instr.timeWord (ofNat_four_bytes v) (ofNat_two_bytes (by decide) check)

theorem frameOf_bytes (f : CommandFrame) (rest : List Byte) (hlen : f.body.length = f.length.toNat) :
    frameOf (frameBytes f ++ be2 f.check.toNat ++ rest) = some f := by
  obtain ⟨code, length, body, check⟩ := f
  dsimp only at hlen
  have hlt := length.isLt
  have hn : word2 (frameBytes ⟨code, length, body, check⟩ ++ be2 check.toNat ++ rest) 1
      = length.toNat := by
    change (byteOf (length.toNat / 256)).toNat * 256 + (byteOf length.toNat).toNat = _
    simp only [byteOf_toNat]
    omega
  have hcheck : word2 (frameBytes ⟨code, length, body, check⟩ ++ be2 check.toNat ++ rest)
      (length.toNat + 3) = word2 (be2 check.toNat ++ rest) 0 := by
    have hbytes : length.toNat + 3 = (frameBytes ⟨code, length, body, check⟩).length + 0 := by
      simp [frameBytes, be2, hlen]
    rw [List.append_assoc, hbytes, word2_append_right]
  have hlong : ¬ (frameBytes ⟨code, length, body, check⟩ ++ be2 check.toNat ++ rest).length
      < length.toNat + 5 := by
    simp [frameBytes, be2, hlen]
  rw [frameOf]
  simp only [hn, if_neg hlong, hcheck]
  congr 1
  congr 1
  · exact BitVec.eq_of_toNat_eq (by
      change code.toNat % 256 = _
      exact Nat.mod_eq_of_lt code.isLt)
  · simp
  · simp [frameBytes, be2, ← hlen, List.append_assoc]
  · exact ofNat_two_bytes (by decide) check

/-- Settles O16: each field lies where the layouts of 12.2 to 12.4 put it. -/
theorem recordsAndFramesRoundTrip : Obligations.RecordsAndFramesRoundTrip := by
  refine ⟨fun r => ?_, fun r => ?_, fun r => ?_, fun r => ?_, timeWordOf_bytes, frameOf_bytes⟩
  · exact congrArg Instr.bidRecord (bidRecordOf_bytes r)
  · exact congrArg Instr.outcomeReport (outcomeReportOf_bytes r)
  · exact congrArg Instr.windowTally (windowTallyOf_bytes r)
  · exact congrArg Instr.arrivalRecord (arrivalRecordOf_bytes r)

/-! ### The first period (R11) -/

/-- The multiple that `ceilDiv` finds is the first one at or past `d`. -/
theorem ceilDiv_bounds {d p : Nat} (hp : 0 < p) : d ≤ ceilDiv d p * p ∧ ceilDiv d p * p < d + p := by
  unfold ceilDiv
  have hmod := Nat.mod_add_div (d + p - 1) p
  have hlt := Nat.mod_lt (d + p - 1) hp
  rw [Nat.mul_comm] at hmod
  omega

/-- Settles O18: the first period of a later entry is the least whose build-start is not before it. -/
theorem firstPeriodFollowsTheEntryTick : Obligations.FirstPeriodFollowsTheEntryTick := by
  intro p lead t hpos hle
  generalize hP : partTicks p = period at hpos hle ⊢
  refine ⟨fun hzero => if_pos ?_, fun hd hhalf => ?_⟩
  · exact hzero.imp_left fun h => by simp [h]
  · have hfirst : firstPeriod p lead t
        = BitVec.ofNat 32 (ceilDiv (t - p.epoch + lead).toNat period) := by
      rw [firstPeriod, hP]
      exact if_neg (by omega)
    obtain ⟨hlo, hhi⟩ := ceilDiv_bounds (d := (t - p.epoch + lead).toNat) hpos
    rw [hfirst, ← BitVec.ofNat_mul]
    generalize ceilDiv (t - p.epoch + lead).toNat period * period = n at hlo hhi ⊢
    have hdist : p.epoch + BitVec.ofNat 32 n - lead - t
        = BitVec.ofNat 32 n - (t - p.epoch + lead) := by bv_omega
    rw [hdist]
    generalize t - p.epoch + lead = x at *
    have hn : (BitVec.ofNat 32 n).toNat = n := by
      rw [BitVec.toNat_ofNat]
      omega
    rw [BitVec.toNat_sub_of_le (by rw [BitVec.le_def]; omega)]
    omega

end Sys2Proof.Machine
end

section
/-! SUPPORT. Resets, time words without a slip, and the deadlines outside the maps. -/

namespace Sys2Proof.Machine

-- One proof after another: side by side, as many as stand here need more threads than the check gives.
set_option Elab.async false

/-! ### Resets (R8, R16, R152, R169) -/

theorem hardReset_medium_own {s : State} (straps : StationNo) (h : s.link.inTx ≠ none) :
    (s.hardReset straps).link.medium = .idle none true ∧ (s.hardReset straps).link.deaf = false := by
  obtain ⟨x, hx⟩ := Option.ne_none_iff_exists'.mp h
  simp [State.hardReset, Link.hardReset, hx]

theorem hardReset_medium_other {s : State} (straps : StationNo) (h : s.link.inTx = none) :
    (s.hardReset straps).link.deaf = s.link.deaf ∧
      (s.link.medium = .sending → (s.hardReset straps).link.medium = .sending) ∧
      ∀ q e, s.link.medium = .idle q e → (s.hardReset straps).link.medium = .idle none e := by
  refine ⟨by simp [State.hardReset, Link.hardReset, h], fun hm => ?_, fun q e hm => ?_⟩ <;>
    simp [State.hardReset, Link.hardReset, h, hm]

/-- Settles O20: both resets are the reset state with what the spec keeps, field by field. -/
theorem resetsClearTheStation : Obligations.ResetsClearTheStation := by
  refine ⟨fun straps s => ⟨s.hardReset straps, rfl, rfl, rfl, rfl, rfl, rfl, rfl, rfl, rfl, rfl, rfl,
    rfl, rfl, rfl, rfl, rfl, rfl, rfl, stored_of_absent_roster rfl, hardReset_medium_own straps,
    hardReset_medium_other straps⟩, fun s h => ⟨s.afterRestart, exec_restart_ready h, rfl, rfl, rfl,
    rfl, rfl, rfl, rfl, rfl, rfl, rfl, rfl, rfl, rfl, rfl, rfl, rfl, stored_of_absent_roster rfl,
    fun hnone => ?_, fun x hx => ?_, fun hm => ?_, fun q e hm => ?_, fun hnone hm => ?_⟩⟩
  · change s.link.inTx.map _ = none
    rw [hnone, Option.map_none]
  · change s.link.inTx.map _ = _
    rw [hx]
    rfl
  · change s.link.medium.left = _
    rw [hm]
    rfl
  · change s.link.medium.left = _
    rw [hm]
    rfl
  · change (s.link.deaf || (s.link.inTx.isNone && s.link.medium == .sending)) = true
    simp [hnone, hm]

/-! ### Time words (R2 to R4) -/

theorem timeWordValid_iff {v : Tick} {check : BitVec 16} : timeWordValid v check = true ↔
    check = crc16 (be4 v.toNat) ∧ v.toNat % 65536 = 0 := by
  simp only [timeWordValid, Bool.and_eq_true, beq_iff_eq]

theorem exec_timeWord (v : Tick) (check : BitVec 16) (s : State) :
    exec (.timeWord v check) s = .next (s.takeTimeWord v check) := rfl

theorem takeTimeWord_refused {s : State} {v : Tick} {check : BitVec 16}
    (h : check ≠ crc16 (be4 v.toNat) ∨ v.toNat % 65536 ≠ 0) : s.takeTimeWord v check
      = s.modTime fun t => { t with badWords := bump t.badWords 1 } := by
  have hbad : (!timeWordValid v check) = true := by
    rw [Bool.not_eq_true', Bool.eq_false_iff, ne_eq, timeWordValid_iff]
    exact fun hv => h.elim (· hv.1) (· hv.2)
  rw [State.takeTimeWord, if_pos hbad]

theorem takeTimeWord_valid {s : State} {v : Tick} {check : BitVec 16}
    (hcheck : check = crc16 (be4 v.toNat)) (hbeat : v.toNat % 65536 = 0) :
    s.takeTimeWord v check = if !s.time.timed then s.firstWord v
      else if v = s.time.nodeTime then s.modTime (·.heardWord) else s.slip v := by
  have hgood : ¬ (!timeWordValid v check) = true := by
    simp [timeWordValid_iff.mpr ⟨hcheck, hbeat⟩]
  rw [State.takeTimeWord, if_neg hgood]

/-- Settles O21: the branches of a time word before a slip. -/
theorem timeWordRefusedFirstOrAgreeing : Obligations.TimeWordRefusedFirstOrAgreeing := by
  intro v check s
  refine ⟨fun hbad => ?_, fun hcheck hbeat htimed hrecord => ?_, fun hcheck hbeat htimed hnow => ?_⟩
  · rw [exec_timeWord, takeTimeWord_refused hbad]
    rfl
  · have hfirst : s.firstWord v = s.modTime fun t =>
        { t with timed := true, nodeTime := v, beat := 0, watch := 0, line := .arriving,
                 nextBeat := v + 65536 } := by
      unfold State.firstWord
      extract_lets u
      split
      · rename_i hr
        cases hrecord.symm.trans hr
      · rfl
    rw [exec_timeWord, takeTimeWord_valid hcheck hbeat, if_pos (by simp [htimed]), hfirst]
    rfl
  · rw [exec_timeWord, takeTimeWord_valid hcheck hbeat, if_neg (by simp [htimed]), if_pos hnow]
    rfl

/-! ### Deadlines that are next (R6) -/

/-- The command of a deadline that is due: what falls, at its tick. -/
theorem exec_due {s : State} {d : Deadline} {i : Instr} (hi : exec i s = .next (s.atDeadline d))
    (h : s.due d) : exec i s = .next ((s.countedTo (s.tickOf d)).fall d) :=
  hi.trans (congrArg Host.Outcome.next (atDeadline_due h))

theorem fallBeat_counts {s : State} (h : ¬ (s.time.line = .arriving ∧ min (s.time.watch + 1) 5 = 5)) :
    s.fallBeat = s.modTime fun t => { t with
      beat := t.beat + 1, nextBeat := t.nextBeat + 65536, watch := min (s.time.watch + 1) 5 } := by
  unfold State.fallBeat
  exact if_neg h

theorem fallBeat_loses {s : State} (hline : s.time.line = .arriving) (hwatch : s.time.watch = 4) :
    s.fallBeat = ((s.modTime fun t => { t with
      beat := t.beat + 1, nextBeat := t.nextBeat + 65536, watch := 5 }).modTime fun t =>
        { t with line := .lost, lineLosses := bump t.lineLosses 1 }).raise .time := by
  unfold State.fallBeat
  rw [hwatch]
  exact if_pos ⟨hline, rfl⟩

/-- Settles O23: the fifth beat without a word is the loss. -/
theorem beatEventCounts : Obligations.BeatEventCounts := by
  intro s hdue
  refine ⟨fun hkeeps => ?_, fun hline hwatch => ?_⟩
  · rw [exec_beatEvent_due hdue, fallBeat_counts]
    · rfl
    · rintro ⟨hline, hwatch⟩
      obtain hlost | hlow := hkeeps
      · cases hlost.symm.trans hline
      · change min (s.time.watch + 1) 5 = 5 at hwatch
        omega
  · rw [exec_beatEvent_due hdue]
    exact congrArg Host.Outcome.next (fallBeat_loses (s := s.setNow _) hline hwatch)

theorem modClock_eq {s : State} {c : Chan} {k : PeriodClock} (h : (s.chans.get c).clock = some k)
    (g : PeriodClock → PeriodClock) : s.modClock c g
      = { s with chans := s.chans.set c { s.chans.get c with clock := some (g k) } } := by
  simp only [State.modClock, State.modChan, h, Option.map_some]

/-- A counter of the maps rises besides a change of the channel already made. -/
theorem modMaps_set (s : State) (c : Chan) (ch : Channel) (g : MapCounters → MapCounters) :
    ({ s with chans := s.chans.set c ch } : State).modMaps c g
      = { s with chans := s.chans.set c { ch with maps := g ch.maps } } := by
  simp [State.modMaps, State.modChan]

theorem fallBuildStart_room {s : State} {c : Chan} {k : PeriodClock} (n : Period)
    (hclock : (s.chans.get c).clock = some k) (hroom : s.planner.requests.length < 4) :
    s.fallBuildStart ⟨c, n⟩ = { s with
      chans := s.chans.set c { s.chans.get c with clock := some { k with build := n + 1 } }
      planner := { s.planner with requests := s.planner.requests ++ [⟨c, n⟩] } } := by
  unfold State.fallBuildStart
  rw [modClock_eq hclock]
  exact if_pos hroom

theorem fallBuildStart_full {s : State} {c : Chan} {k : PeriodClock} (n : Period)
    (hclock : (s.chans.get c).clock = some k) (hfull : 4 ≤ s.planner.requests.length) :
    s.fallBuildStart ⟨c, n⟩ = State.raise { s with
      chans := s.chans.set c { s.chans.get c with
        clock := some { k with build := n + 1 }
        maps := { (s.chans.get c).maps with missed := bump (s.chans.get c).maps.missed 1 } } } .map := by
  unfold State.fallBuildStart
  rw [modClock_eq hclock]
  refine (if_neg (Nat.not_lt.mpr hfull)).trans ?_
  rw [State.missMap, modMaps_set]

/-- Settles O24: the request queue has room, or the map is MISSED. -/
theorem buildStartQueuesOrMisses : Obligations.BuildStartQueuesOrMisses := by
  intro s c k hclock hdue
  have hexec : exec (.buildStart c k.build) s
      = .next ((s.countedTo (s.buildTick ⟨c, k.build⟩)).fallBuildStart ⟨c, k.build⟩) :=
    exec_due rfl hdue
  refine ⟨fun hroom => hexec.trans (congrArg Host.Outcome.next ?_),
    fun hfull => hexec.trans (congrArg Host.Outcome.next ?_)⟩
  · exact fallBuildStart_room (s := s.countedTo _) k.build hclock hroom
  · exact fallBuildStart_full (s := s.countedTo _) k.build hclock hfull

/-- Settles O27: each of the four ends falls at its tick. -/
theorem listenHoldAndAbsenceEnds : Obligations.ListenHoldAndAbsenceEnds := by
  refine ⟨fun s t hdue => ?_, fun s t hdue => ?_, fun s t hdue => ?_, fun s k t hdue => ?_⟩
  · exact exec_due (d := .listenEnd t) rfl hdue
  · exact exec_due (d := .localEnd t) rfl hdue
  · exact exec_due (d := .sharedEnd t) rfl hdue
  · exact exec_due (d := .absence k t) rfl hdue

/-! ### The presence timer (R110, R124) -/

theorem rank_le (q : Queued) : q.rank ≤ 4 := by
  unfold Queued.rank
  cases q.notice <;> simp [noticeRank]

/-- No rank number is above that of a PRESENCE, so one joins the tail of the queue (R110). -/
theorem insertNotice_presence (l : List Queued) (b : Bool) (t : Option TurnKey) :
    insertNotice ⟨.presence b, t⟩ l = l ++ [⟨.presence b, t⟩] := by
  induction l with
  | nil => rfl
  | cons x l ih =>
    have hrank : ¬ Queued.rank ⟨.presence b, t⟩ < x.rank := Nat.not_lt.mpr (rank_le x)
    rw [insertNotice, if_neg hrank, ih]
    rfl

theorem queuePresence_waiting {s : State} (h : s.link.queue.any isPresence = true) :
    s.queuePresence = s := by
  rw [State.queuePresence, if_pos h]

theorem queuePresence_full {s : State} (h : s.link.queue.any isPresence = false)
    (hfull : 64 ≤ s.link.queue.length) : s.queuePresence
      = s.modLinkCounters fun k => { k with presenceDropped := bump k.presenceDropped 1 } := by
  rw [State.queuePresence, if_neg (by simp [h]), if_pos (by simpa [State.txFull] using hfull)]

theorem queuePresence_room {s : State} (h : s.link.queue.any isPresence = false)
    (hroom : s.link.queue.length < 64) : s.queuePresence = s.modLink fun l =>
      { l with queue := l.queue ++ [⟨.presence (s.life == .serving), none⟩],
               medium := l.medium.opened (l.queue ++ [⟨.presence (s.life == .serving), none⟩]) } := by
  have hfree : ¬ s.txFull = true := by
    simpa [State.txFull] using hroom
  rw [State.queuePresence, if_neg (by simp [h]), if_neg hfree, State.enqueue, if_neg hfree]
  simp only [insertNotice_presence]

/-- Counting reaches the timer tick itself, and the next one lies one interval on (R124). -/
theorem nextPresence_self (t : Tick) : nextPresence t t = t + 262144 := by
  simp [nextPresence]

/-- Settles O28: one PRESENCE waits at most, and the timer moves on in each case. -/
theorem presenceTimerQueuesOne : Obligations.PresenceTimerQueuesOne := by
  intro s t hdue
  have hexec : exec (.presenceTimer t) s = .next ((s.countedTo t).queuePresence.modLink fun l =>
      { l with presence := some (t + 262144) }) := by
    rw [← nextPresence_self t]
    exact exec_due (d := .presence t) rfl hdue
  refine ⟨fun hwaits => ?_, fun hnone hfull => ?_, fun hnone hroom => ?_⟩
  · rw [hexec, queuePresence_waiting (s := s.countedTo t) hwaits]
    rfl
  · rw [hexec, queuePresence_full (s := s.countedTo t) hnone hfull]
    rfl
  · rw [hexec, queuePresence_room (s := s.countedTo t) hnone hroom]
    rfl

end Sys2Proof.Machine
end

section
/-! SUPPORT. A write to a flow record as one change of the state, and the bid records of 04. -/

namespace Sys2Proof.Machine

-- One proof after another: side by side, as many as stand here need more threads than the check gives.
set_option Elab.async false

/-! ### A write to a flow record, and what it makes of the ready lists (R36, R38) -/

theorem flow_of_record {s : State} {tag : Tag} {ix : Nat} {f : Flow} (hix : s.flowIx tag = some ix)
    (hat : tabGet s.store.flows ix = some f) : s.flow tag = some f := by
  simp [State.flow, hix, hat]

/-- The record at an index is replaced, and nothing else. -/
def State.putFlow (s : State) (ix : Nat) (f : Flow) : State :=
  { s with store := { s.store with flows := tabPut s.store.flows ix f } }

theorem writeFlow_eq {s : State} {tag : Tag} {ix : Nat} (hix : s.flowIx tag = some ix) (f : Flow) :
    s.writeFlow tag f = s.putFlow ix f := by
  simp only [State.writeFlow, hix]
  rfl

/-- The flow's place on its list agrees with its eligibility after the write. -/
theorem updFlow_in_place {s : State} {tag : Tag} {ix : Nat} {f : Flow} {g : Flow → Flow}
    (hix : s.flowIx tag = some ix) (hat : tabGet s.store.flows ix = some f)
    (hstay : (g f).eligible = s.isReady (g f)) : s.updFlow tag g = s.putFlow ix (g f) := by
  rw [updFlow_eq (flow_of_record hix hat), writeFlow_eq hix]
  exact settle_of_agrees hstay

/-- A flow that becomes eligible joins the tail of its list (R77). -/
theorem updFlow_joins {s : State} {tag : Tag} {ix : Nat} {f : Flow} {g : Flow → Flow}
    (hix : s.flowIx tag = some ix) (hat : tabGet s.store.flows ix = some f)
    (helig : (g f).eligible = true) (hout : s.isReady (g f) = false) :
    s.updFlow tag g = (s.putFlow ix (g f)).joinReady (g f) := by
  rw [updFlow_eq (flow_of_record hix hat), writeFlow_eq hix, State.settle, if_pos helig]
  exact if_neg (by rw [show (s.putFlow ix (g f)).isReady (g f) = s.isReady (g f) from rfl, hout]; decide)

/-! ### Records that are refused (R13, R53, R176) -/

theorem record_discarded {s : State} (h : s.life = .start) (take : State → State) :
    s.record take = s.discardRecord := if_pos h

theorem burstDiscarded_unknown {kind : Byte} (h : kind ≠ 1 ∧ kind ≠ 2 ∧ kind ≠ 3 ∧ kind ≠ 4) :
    burstDiscarded kind false = true := by
  obtain ⟨h1, h2, h3, h4⟩ := h
  have hne (b : Byte) (hb : kind ≠ b) : kind.toNat ≠ b.toNat := fun he => hb (BitVec.eq_of_toNat_eq he)
  have hnone : burstLength kind.toNat = none := by
    unfold burstLength
    split
    · exact absurd ‹_› (hne 1 h1)
    · exact absurd ‹_› (hne 2 h2)
    · exact absurd ‹_› (hne 3 h3)
    · exact absurd ‹_› (hne 4 h4)
    · rfl
  simp [burstDiscarded, hnone]

theorem takeBid_malformed {s : State} {r : BidRecord}
    (h : s.enabled r.chan = false ∨ r.tag = 0 ∨ r.bytes = 0) : s.takeBid r
      = (s.modBids r.chan fun k => { k with taken := bump k.taken 1 }).modBids r.chan
          fun k => { k with malformed := bump k.malformed 1 } := by
  have hbad : (!s.enabled r.chan || r.tag == 0 || r.bytes == 0) = true := by
    obtain h | h | h := h <;> simp [h]
  simp only [State.takeBid, modBids_enabled, hbad, if_true]

theorem takeBid_foreign {s : State} {r : BidRecord} (hchan : s.enabled r.chan = true)
    (htag : r.tag ≠ 0) (hbytes : r.bytes ≠ 0) (hflow : s.flow r.tag = none) : s.takeBid r
      = (s.modBids r.chan fun k => { k with taken := bump k.taken 1 }).modBids r.chan
          fun k => { k with foreign := bump k.foreign 1 } := by
  have hgood : (!s.enabled r.chan || r.tag == 0 || r.bytes == 0) = false := by
    rw [hchan, beq_false_of_ne htag, beq_false_of_ne hbytes]
    rfl
  simp only [State.takeBid, modBids_enabled, modBids_flow, hgood, hflow, Bool.false_eq_true, if_false]

/-- Settles O30: the records of START, and the refusals of Bid Intake in the order of R53. -/
theorem burstRecordsRefused : Obligations.BurstRecordsRefused := by
  refine ⟨⟨fun s h => ?_, fun s kind early h => ?_⟩, fun s r h => ⟨fun hbad => ?_,
    fun hchan htag hbytes hflow => ?_⟩⟩
  · exact ⟨fun r => congrArg Host.Outcome.next (record_discarded h _),
      fun r => congrArg Host.Outcome.next (record_discarded h _),
      fun r => congrArg Host.Outcome.next (record_discarded h _),
      fun r => congrArg Host.Outcome.next (record_discarded h _)⟩
  · have hdiscarded : burstDiscarded kind early = true := by
      cases early with
      | true => rfl
      | false => exact burstDiscarded_unknown (h.resolve_left Bool.false_ne_true)
    exact if_pos hdiscarded
  · rw [exec_bidRecord_taken h, takeBid_malformed hbad, modBids_modBids]
    rfl
  · rw [exec_bidRecord_taken h, takeBid_foreign hchan htag hbytes hflow, modBids_modBids]
    rfl

/-! ### A bid of an idle flow (R55, R57) -/

theorem excess_eq (n : Nat) : excess n = n - 1048575 := by
  change n - min n 1048575 = _
  omega

/-- The bid activity mark of an idle flow changes no list. -/
theorem updFlow_active {s : State} {tag : Tag} {ix : Nat} {f : Flow} (now : Beat)
    (hix : s.flowIx tag = some ix) (hat : tabGet s.store.flows ix = some f)
    (hstay : f.eligible = s.isReady f) : s.updFlow tag (·.active now) = s.putFlow ix (f.active now) :=
  updFlow_in_place hix hat hstay

theorem eligible_of_bytes {f : Flow} (hbid : f.cadence = none) (hactive : f.state = .active)
    (hpend : f.pendingCount = 0) : f.eligible = decide (f.tentative < f.outstanding) := by
  have hfew : f.pendingCount < Config.pendingPerFlow := by
    rw [hpend]
    decide
  simp [Flow.eligible, Flow.isBid, Flow.unclaimed, hbid, hactive, hfew]

/-- The bytes of a bid added to a flow off its ready list: the flow joins it when it then has unclaimed
bytes (R38, R55). -/
theorem updFlow_outstanding {s : State} {tag : Tag} {ix : Nat} {f : Flow} (n : Nat)
    (hix : s.flowIx tag = some ix) (hat : tabGet s.store.flows ix = some f) (htag : f.tag = tag)
    (hbid : f.cadence = none) (hactive : f.state = .active) (hpend : f.pendingCount = 0)
    (hout : s.isReady f = false) :
    s.updFlow tag (fun f => { f with outstanding := saturate (f.outstanding + n) })
      = { s.putFlow ix { f with outstanding := saturate (f.outstanding + n) } with
          planner := { s.planner with
            ready := if f.tentative < saturate (f.outstanding + n) then
                s.planner.ready.set f.cls (s.planner.ready.get f.cls ++ [tag])
              else s.planner.ready } } := by
  have helig : ({ f with outstanding := saturate (f.outstanding + n) } : Flow).eligible
      = decide (f.tentative < saturate (f.outstanding + n)) := eligible_of_bytes hbid hactive hpend
  by_cases hmore : f.tentative < saturate (f.outstanding + n)
  · rw [updFlow_joins hix hat (by rw [helig]; exact decide_eq_true hmore) hout, if_pos hmore, ← htag]
    rfl
  · rw [updFlow_in_place hix hat (by rw [helig, decide_eq_false hmore]; exact hout.symm), if_neg hmore]
    rfl

theorem bidForFlow_idle {f : Flow} (hbid : f.cadence = none) (hactive : f.state = .active)
    (hpend : f.pendingCount = 0) (hbytes : f.outstanding ≤ f.tentative) (s : State) (b : Nat)
    (c : Chan) : s.bidForFlow f b c = s.bidApplied f.tag b c := by
  have hidle : f.idle = true := by simp [Flow.idle, Flow.unclaimed, hpend, hbytes]
  have hawake : f.state ≠ .dormant := by simp [hactive]
  simp only [State.bidForFlow, hbid, if_neg hawake, if_pos hidle]

/-- A notice joins the transmit queue by its rank, and on a quiet link a contention opens (R110, R112). -/
theorem enqueue_room {s : State} (q : Queued) (h : s.link.queue.length < 64) :
    s.enqueue q = s.modLink fun l =>
      { l with queue := insertNotice q l.queue, medium := l.medium.opened (insertNotice q l.queue) } := by
  rw [State.enqueue, if_neg (by simpa [State.txFull] using h)]

theorem queueBid_room {s : State} (tag : Tag) (b : Nat) (c : Chan) (h : s.link.queue.length < 64) :
    s.queueBid tag b c = s.modLink fun l => { l with
      queue := insertNotice ⟨.bid tag (BitVec.ofNat 16 b), none⟩ l.queue
      medium := l.medium.opened (insertNotice ⟨.bid tag (BitVec.ofNat 16 b), none⟩ l.queue) } := by
  rw [State.queueBid, if_neg (by simpa [State.txFull] using h), enqueue_room _ h]

theorem queueBid_full {s : State} (tag : Tag) (b : Nat) (c : Chan) (h : 64 ≤ s.link.queue.length) :
    s.queueBid tag b c
      = s.modBids c fun k => { k with noticesDropped := bump k.noticesDropped 1 } := by
  rw [State.queueBid, if_pos (by simpa [State.txFull] using h)]

theorem bidApplied_eq {s u v : State} {tag : Tag} {b : Nat} {c : Chan} {f : Flow}
    (hmarked : s.updFlow tag (·.active s.time.beat) = u) (hflow : u.flow tag = some f)
    (hadded : u.updFlow tag (fun f => { f with outstanding := saturate (f.outstanding + b) }) = v) :
    s.bidApplied tag b c = (if v.spanningActive f then
        (v.modBids c fun k => { k with bytesLost := bump k.bytesLost (f.outstanding + b - 1048575) }).queueBid
          tag b c
      else v.modBids c fun k =>
        { k with bytesLost := bump k.bytesLost (f.outstanding + b - 1048575) }).modBids c
        fun k => { k with applied := bump k.applied 1 } := by
  rw [State.bidApplied, hmarked]
  simp only [State.addBid, hflow, hadded, excess_eq]
  rfl

/-- Settles O31: the mark, the bytes, the place on the ready list, and the BID notice. -/
theorem idleBidApplied : Obligations.IdleBidApplied := by
  intro s r ix f hlife hchan htag hbytes hix hat hftag hbid hactive hpend hle hout ch sum g k t queue
  have hexec : exec (.bidRecord r) s = .next
      ((s.modBids r.chan fun k => { k with taken := bump k.taken 1 }).bidApplied r.tag r.bytes.toNat
        r.chan) := by
    rw [exec_bidRecord_taken hlife, takeBid_of_flow hchan htag hbytes (flow_of_record hix hat),
      bidForFlow_idle hbid hactive hpend hle, hftag]
  set s1 := s.modBids r.chan fun k => { k with taken := bump k.taken 1 } with hs1
  have hidle : f.eligible = false := by
    rw [eligible_of_bytes hbid hactive hpend]
    exact decide_eq_false (Nat.not_lt.mpr hle)
  have hmarked : s1.updFlow r.tag (·.active s1.time.beat) = s1.putFlow ix (f.active s.time.beat) :=
    updFlow_active _ hix hat (hidle.trans hout.symm)
  have hat' : tabGet (s1.putFlow ix (f.active s.time.beat)).store.flows ix
      = some (f.active s.time.beat) := by simp [State.putFlow, tabGet_tabPut]
  have hix' : (s1.putFlow ix (f.active s.time.beat)).flowIx r.tag = some ix := hix
  have hadded := updFlow_outstanding r.bytes.toNat hix' hat' hftag hbid hactive hpend hout
  generalize hv : State.mk _ _ _ _ _ _ _ _ _ _ _ _ _ _ _ _ _ = v at hadded
  rw [hexec, bidApplied_eq hmarked (flow_of_record hix' hat') hadded]
  have hsame : v.spanningActive (f.active s.time.beat) = s.spanningActive f := by
    rw [← hv]
    rfl
  rw [hsame]
  refine ⟨fun hspans => ?_, fun hspans hroom => ?_, fun hspans hfull => ?_⟩
  · rw [if_neg (by simp [hspans]), modBids_modBids, ← hv]
    simp only [State.modBids, State.modChan, State.putFlow, hs1, quad_get_set_same, quad_set_set,
      tabPut_tabPut]
    rfl
  · have hv64 : v.link.queue.length < 64 := by
      rw [← hv]
      exact hroom
    rw [if_pos hspans, queueBid_room (s := v.modBids _ _) _ _ _ hv64, BitVec.ofNat_toNat, BitVec.setWidth_eq, ← hv]
    simp only [State.modBids, State.modChan, State.modLink, State.putFlow, hs1, quad_get_set_same,
      quad_set_set, tabPut_tabPut]
    rfl
  · have hv64 : 64 ≤ v.link.queue.length := by
      rw [← hv]
      exact hfull
    rw [if_pos hspans, queueBid_full (s := v.modBids _ _) _ _ _ hv64, ← hv]
    simp only [State.modBids, State.modChan, State.putFlow, hs1, quad_get_set_same, quad_set_set,
      tabPut_tabPut]
    rfl

/-! ### A bid of a busy flow (R58, R59) -/

theorem bidForFlow_busy {f : Flow} (hbid : f.cadence = none) (hactive : f.state = .active)
    (hbusy : 0 < f.pendingCount ∨ f.tentative < f.outstanding) (s : State) (b : Nat) (c : Chan) :
    s.bidForFlow f b c =
      if f.discard then s.modBids c fun k => { k with policyDiscards := bump k.policyDiscards 1 }
      else s.bidDeferred f.tag b c f.deferred.isSome := by
  have hidle : ¬ f.idle = true := by
    simp only [Flow.idle, Flow.unclaimed, Bool.and_eq_true, beq_iff_eq]
    omega
  have hawake : f.state ≠ .dormant := by simp [hactive]
  simp only [State.bidForFlow, hbid, if_neg hawake, if_neg hidle]

/-- Settles O32: the two policies of a busy flow. -/
theorem busyBidHeldOrDiscarded : Obligations.BusyBidHeldOrDiscarded := by
  intro s r ix f hlife hchan htag hbytes hix hat hftag hbid hactive hbusy ch
  have hexec := exec_bidRecord_taken hlife r
  rw [takeBid_of_flow hchan htag hbytes (flow_of_record hix hat), bidForFlow_busy hbid hactive hbusy,
    hftag] at hexec
  refine ⟨fun hdiscard => ?_, fun hhold hstay => ?_⟩
  · rw [hexec, if_pos hdiscard, modBids_modBids]
    rfl
  · have hput := updFlow_in_place (s := s.modBids r.chan fun k => { k with taken := bump k.taken 1 })
      (g := fun f => { f with deferred := some (r.bytes.toNat, r.chan), lastActivity := s.time.beat })
      hix hat hstay
    rw [hexec, if_neg (by simp [hhold]), State.bidDeferred]
    simp only [modBids_time, hput]
    simp only [State.putFlow, State.modBids, State.modChan, quad_get_set_same, quad_set_set]
    rfl

/-! ### Bids that wake, and bids of a DORMANT flow (R64, R65, R170) -/

theorem bidForFlow_asleep {f : Flow} {cad : Cadence} (hcad : f.cadence = some cad)
    (hsleep : f.state = .sleep) (s : State) (b : Nat) (c : Chan) :
    s.bidForFlow f b c = s.bidWakes f.tag cad c := by
  simp only [State.bidForFlow, hcad, if_pos hsleep]

theorem bidForFlow_dormant {f : Flow} (hbid : f.cadence = none) (hdormant : f.state = .dormant)
    (s : State) (b : Nat) (c : Chan) : s.bidForFlow f b c = s.bidDormant f.tag c := by
  simp only [State.bidForFlow, hbid, if_pos hdormant]

theorem eligible_of_cadence {f : Flow} {cad : Cadence} (h : f.cadence = some cad) :
    f.eligible = false := by
  simp [Flow.eligible, Flow.isBid, h]

theorem offerAttention_queued {s : State} {tag : Tag}
    (h : s.port.attention.any (·.tag == tag) = true) (reason : AttentionReason) :
    s.offerAttention tag reason
      = s.modPort fun p => { p with attDuplicates := bump p.attDuplicates 1 } := if_pos h

theorem offerAttention_full {s : State} {tag : Tag}
    (h : s.port.attention.any (·.tag == tag) = false) (hfull : 64 ≤ s.port.attention.length)
    (reason : AttentionReason) : s.offerAttention tag reason
      = s.modPort fun p => { p with attDropped := bump p.attDropped 1 } := by
  rw [State.offerAttention, if_neg (by simp [h])]
  exact if_pos hfull

theorem offerAttention_room {s : State} {tag : Tag}
    (h : s.port.attention.any (·.tag == tag) = false) (hroom : s.port.attention.length < 64)
    (reason : AttentionReason) : s.offerAttention tag reason
      = (s.modPort fun p => { p with attention := p.attention ++ [⟨tag, reason⟩] }).raise .attention := by
  rw [State.offerAttention, if_neg (by simp [h])]
  exact if_neg (Nat.not_le.mpr hroom)

/-- Settles O34: the wake of a SLEEP flow, and the three outcomes of an offer. -/
theorem bidWakesOrIsOffered : Obligations.BidWakesOrIsOffered := by
  intro s r ix f hlife hchan htag hbytes hix hat hftag ch
  have hexec := exec_bidRecord_taken hlife r
  rw [takeBid_of_flow hchan htag hbytes (flow_of_record hix hat)] at hexec
  constructor
  · intro cad k hcad hsleep hout hclock g
    set s1 := s.modBids r.chan fun k => { k with taken := bump k.taken 1 } with hs1
    have hstream : s1.buildStream cad.chan = k.build := by
      have hclock' : (s1.chans.get cad.chan).clock = some k := by
        by_cases hc : r.chan = cad.chan
        · rw [hs1, modBids_chans, ← hc, quad_get_set_same]
          exact hc ▸ hclock
        · rw [hs1, modBids_chans, quad_get_set_other _ _ _ _ hc]
          exact hclock
      simp only [State.buildStream, hclock']
    have hstay : g.eligible = s1.isReady g := (eligible_of_cadence rfl).trans hout.symm
    have hput : s1.updFlow r.tag (fun f => { f with
        state := .active
        lastActivity := s1.time.beat
        cadence := some { cad with nextDue := k.build, empties := 0 } }) = s1.putFlow ix g :=
      updFlow_in_place hix hat hstay
    rw [bidForFlow_asleep hcad hsleep, hftag, State.bidWakes, hstream, hput] at hexec
    rw [hexec]
    simp only [State.putFlow, State.modBids, State.modChan, hs1, quad_get_set_same, quad_set_set]
    rfl
  · intro hbid hdormant u
    rw [bidForFlow_dormant hbid hdormant, hftag, State.bidDormant, modBids_modBids] at hexec
    refine ⟨fun hqueued => ?_, fun hnone hfull => ?_, fun hnone hroom => ?_⟩
    · rw [hexec, offerAttention_queued (s := s.modBids _ _) hqueued]
      rfl
    · rw [hexec, offerAttention_full (s := s.modBids _ _) hnone hfull]
      rfl
    · rw [hexec, offerAttention_room (s := s.modBids _ _) hnone hroom]
      rfl

end Sys2Proof.Machine
end

section
/-! SUPPORT. Outcome reports, tallies and arrivals (08), and the scores of a modem (09). -/

namespace Sys2Proof.Machine

-- One proof after another: side by side, as many as stand here need more threads than the check gives.
set_option Elab.async false

/-! ### The first checks of a report (R133, R134) -/

theorem exec_outcomeReport_taken {s : State} (h : s.life ≠ .start) (r : OutcomeReport) :
    exec (.outcomeReport r) s = .next (s.takeReport r) :=
  congrArg Host.Outcome.next (record_taken h _)

/-- Two counts of one channel are one change of its counters. -/
theorem modOutcomes_modOutcomes (s : State) (c : Chan) (g k : OutcomeCounters → OutcomeCounters) :
    (s.modOutcomes c g).modOutcomes c k = s.modOutcomes c (k ∘ g) := by
  simp [State.modOutcomes, State.modChan]

theorem resultOf_eq_none_iff : ∀ r : BitVec 2, resultOf r = none ↔ r = 3 := by decide

theorem resultOf_received_iff : ∀ r : BitVec 2, resultOf r = some .received ↔ r = 0 := by decide

theorem resultOf_eq {r : BitVec 2} {res : TurnResult} (h : r = 0 ∧ res = .received ∨
    r = 1 ∧ res = .empty ∨ r = 2 ∧ res = .errored) : resultOf r = some res := by
  obtain ⟨rfl, rfl⟩ | ⟨rfl, rfl⟩ | ⟨rfl, rfl⟩ := h <;> rfl

/-- The report is counted as taken, first (R133). -/
def State.reportTaken (s : State) (c : Chan) : State :=
  s.modOutcomes c fun k => { k with taken := bump k.taken 1 }

theorem takeReport_malformed {s : State} {r : OutcomeReport}
    (h : r.result = 3 ∨ s.enabled r.chan = false ∨
      (s.part r.chan).periodSlots.toNat ≤ r.slot.toNat) : s.takeReport r
      = (s.reportTaken r.chan).modOutcomes r.chan fun k =>
          { k with malformed := bump k.malformed 1 } := by
  unfold State.takeReport
  dsimp only
  split
  · rfl
  · rename_i res hres
    have hbad : (!s.enabled r.chan || decide (partSlots (s.part r.chan) ≤ r.slot.toNat)) = true := by
      obtain h | h | h := h
      · simp [(resultOf_eq_none_iff _).mpr h] at hres
      · simp [h]
      · simp [partSlots, h]
    exact if_pos hbad

theorem takeReport_wellFormed {s : State} {r : OutcomeReport} {res : TurnResult}
    (hres : resultOf r.result = some res) (henabled : s.enabled r.chan = true)
    (hslot : r.slot.toNat < (s.part r.chan).periodSlots.toNat) : s.takeReport r =
      match s.tracker.list.find? (·.hasKey r) with
      | none => (s.reportTaken r.chan).stray r res
      | some e =>
        if e.ended then (s.reportTaken r.chan).consume e r res
        else (s.reportTaken r.chan).modOutcomes r.chan fun k => { k with early := bump k.early 1 } := by
  have hgood : (!s.enabled r.chan || decide (partSlots (s.part r.chan) ≤ r.slot.toNat)) = false := by
    simp [henabled, partSlots, Nat.not_le.mpr hslot]
  have hgood' : ¬ (!(s.reportTaken r.chan).enabled r.chan ||
      decide (partSlots ((s.reportTaken r.chan).part r.chan) ≤ r.slot.toNat)) = true :=
    fun h => Bool.false_ne_true (hgood.symm.trans h)
  unfold State.takeReport
  dsimp only
  rw [hres]
  exact (if_neg hgood')

/-- The tail bid of a RECEIVED report (R62, R176). -/
theorem reportTail_eq {r : OutcomeReport} {res : TurnResult} : reportTail r res =
    if res = .received ∧ r.tailPresent = true ∧ r.tail ≠ 0 then some r.tail.toNat else none := by
  have htail : r.tail.toNat ≠ 0 ↔ r.tail ≠ 0 := by
    rw [ne_eq, ne_eq, BitVec.toNat_eq]
    rfl
  unfold reportTail tailBid
  by_cases hres : res = .received
  · by_cases hpresent : r.tailPresent = true
    · by_cases ht : r.tail = 0
      · simp [hres, ht]
      · simp [hres, hpresent, htail]
    · simp [hres, hpresent]
  · simp [hres]

/-- Settles O35: the checks of R133 and R134 in order. -/
theorem reportMalformedStrayOrEarly : Obligations.ReportMalformedStrayOrEarly := by
  intro s r hlife ch k
  rw [exec_outcomeReport_taken hlife]
  refine ⟨fun hbad => ?_, fun hresult henabled hslot hnone => ?_,
    fun e hresult henabled hslot hfound hended => ?_⟩
  · rw [takeReport_malformed hbad, State.reportTaken, modOutcomes_modOutcomes]
    rfl
  · obtain ⟨res, hres⟩ := Option.ne_none_iff_exists'.mp fun h =>
      hresult ((resultOf_eq_none_iff _).mp h)
    have hreceived : res = .received ↔ r.result = 0 := by
      rw [← resultOf_received_iff, hres, Option.some.injEq]
    have hfind : s.tracker.list.find? (·.hasKey r) = none := by
      refine List.find?_eq_none.mpr fun e he hkey => hnone e he ?_
      simpa [PendingEntry.hasKey, and_assoc] using hkey
    rw [takeReport_wellFormed hres henabled hslot, hfind]
    simp only [State.stray, reportTail_eq, hreceived, State.reportTaken, modOutcomes_modOutcomes]
    split
    · simp only [Option.isSome_some, if_true, State.tailDropped, State.modBids, State.modOutcomes, State.modChan,
        quad_get_set_same, quad_set_set]
      rfl
    · simp only [Option.isSome_none, Bool.false_eq_true, if_false]
      rfl
  · obtain ⟨res, hres⟩ := Option.ne_none_iff_exists'.mp fun h =>
      hresult ((resultOf_eq_none_iff _).mp h)
    rw [takeReport_wellFormed hres henabled hslot, hfound]
    simp only [hended, Bool.false_eq_true, if_false, State.reportTaken, modOutcomes_modOutcomes]
    rfl

/-! ### Tallies and arrivals (R93, R140, R141) -/

theorem exec_windowTally_taken {s : State} (h : s.life ≠ .start) (r : WindowTally) :
    exec (.windowTally r) s = .next (s.takeTally r) :=
  congrArg Host.Outcome.next (record_taken h _)

theorem exec_arrivalRecord_taken {s : State} (h : s.life ≠ .start) (r : ArrivalRecord) :
    exec (.arrivalRecord r) s = .next (s.takeArrival r) :=
  congrArg Host.Outcome.next (record_taken h _)

theorem badTally_iff {s : State} {r : WindowTally} : s.badTally r = true ↔
    s.enabled r.chan = false ∨ 256 < r.length.toNat ∨
      r.length.toNat < r.singles.toNat + r.collisions.toNat + r.empties.toNat := by
  simp [State.badTally, or_assoc]

/-- Settles O38: the checks and the counts of tallies and arrivals, and the tests of R93. -/
theorem talliesAndArrivals : Obligations.TalliesAndArrivals := by
  refine ⟨fun s r hlife => ?_, fun s r hlife => ?_⟩
  · intro ch k p
    rw [exec_windowTally_taken hlife]
    refine ⟨fun hbad => ?_, fun henabled hlen hsum => ?_⟩
    · rw [State.takeTally, if_pos (badTally_iff.mpr hbad)]
      rfl
    · have hgood : ¬ s.badTally r = true := by
        rw [badTally_iff]
        rw [henabled]
        rintro (h | h | h)
        · cases h
        · omega
        · omega
      rw [State.takeTally, if_neg hgood]
      constructor
      · intro hjoin
        rw [if_pos hjoin]
        rfl
      · intro w hjoin hw w'
        have hadapt : adaptW w p.wMin.toNat p.wMax.toNat r.length.toNat r.collisions.toNat
            r.empties.toNat = w' := by
          have hzero : r.length.toNat = 0 ↔ r.length = 0 := by
            rw [BitVec.toNat_eq]
            rfl
          simp only [adaptW, ceilDiv, hzero]
          rfl
        have htallied : (s.chans.get r.chan).tallied p r = { ch with
            w := some w'
            outcomes := { k with
              bidTallies := bump k.bidTallies 1
              grown := if w < w' then bump k.grown 1 else k.grown
              shrunk := if w' < w then bump k.shrunk 1 else k.shrunk } } := by
          rw [Channel.tallied, hw]
          simp only [hadapt]
          rfl
        rw [if_neg (by simp [hjoin]), ← htallied]
        rfl
  · intro ch
    rw [exec_arrivalRecord_taken hlife]
    refine ⟨fun hoff => ?_, fun henabled hroom => ?_, fun henabled hfull => ?_⟩
    · rw [State.takeArrival, if_pos (by simp [hoff])]
      rfl
    · rw [State.takeArrival, if_neg (by simp [henabled])]
      exact congrArg Host.Outcome.next (if_pos hroom)
    · rw [State.takeArrival, if_neg (by simp [henabled])]
      exact congrArg Host.Outcome.next (if_neg (Nat.not_lt.mpr hfull))

/-! ### Scores and transitions (R145 to R154) -/

/-- The record of a key keeps its place when it is replaced by one of the same key. -/
theorem modemIxIn_tabPut {key : Key} {l : List (Nat × Modem)} {i : Nat} {m : Modem}
    (h : modemIxIn key l = some i) (hkey : m.key = key) : modemIxIn key (tabPut l i m) = some i := by
  induction l with
  | nil => cases h
  | cons a l ih =>
    obtain ⟨j, x⟩ := a
    unfold modemIxIn at h
    unfold tabPut
    split at h
    · cases h
      simp [modemIxIn, hkey]
    · rename_i hne
      split
      · simp [modemIxIn, hkey]
      · split
        · simp [modemIxIn, hkey]
        · simp [modemIxIn, hne, ih h]

theorem modemIx_writeModem {s : State} {key : Key} {i : Nat} {m : Modem} (h : s.modemIx key = some i)
    (hkey : m.key = key) : (s.writeModem i m).modemIx key = some i :=
  modemIxIn_tabPut h hkey

theorem modemAt_writeModem_same (s : State) (i : Nat) (m : Modem) :
    (s.writeModem i m).modemAt i = some m := by
  simp [modemAt_writeModem]

theorem appendFault_of_modem {s : State} {key : Key} {i : Nat} {m : Modem}
    (hix : s.modemIx key = some i) (hat : s.modemAt i = some m) (kind : FaultKind) (tag : Tag) :
    s.appendFault kind key tag
      = (s.modHealth (·.append (s.faultRecord kind key tag (some m)))).writeModem i m.faulted := by
  simp only [State.appendFault, hix, hat]

theorem getLast_append (h : Health) (r : FaultRecord) : (h.append r).ring.getLast? = some r := by
  simp [Health.append]

/-- A modem changes its state: its lifetime count rises, and the record is the newest of the ring. -/
theorem transition_record {s : State} {i : Nat} {m : Modem} (hix : s.modemIx m.key = some i)
    (st : ModemState) (count : Health → Health) (kind : FaultKind) (tag : Tag)
    (hseq : (count s.health).seq = s.health.seq) :
    let t := (((s.writeModem i { m with state := st }).modHealth count).appendFault kind m.key
      tag).raise .fault
    t.modemAt i = some { m with state := st, lifetime := min (m.lifetime + 1) 65535 } ∧
      t.health.ring.getLast? = some
        { seq := s.health.seq, kind := kind, key := m.key, tag := tag, time := s.time.nodeTime,
          found := true, presence := m.presence, integrity := m.integrity, margin := m.margin,
          trail := m.trail, lifetime := min (m.lifetime + 1) 65535 } ∧
      t.health.degrades = (count s.health).degrades ∧
      t.health.restores = (count s.health).restores ∧
      t.port = { s.port with latched := s.latchedWith 0x04#7 } := by
  intro t
  have hix' : ((s.writeModem i { m with state := st }).modHealth count).modemIx m.key = some i :=
    modemIx_writeModem hix rfl
  have hat' : ((s.writeModem i { m with state := st }).modHealth count).modemAt i
      = some { m with state := st } := modemAt_writeModem_same s i _
  have ht : t = State.raise (State.writeModem (((s.writeModem i { m with state := st }).modHealth
      count).modHealth (·.append (((s.writeModem i { m with state := st }).modHealth
        count).faultRecord kind m.key tag (some { m with state := st })))) i
          (Modem.faulted { m with state := st })) .fault :=
    congrArg (State.raise · .fault) (appendFault_of_modem hix' hat' kind tag)
  rw [ht]
  refine ⟨modemAt_writeModem_same _ i _, (getLast_append _ _).trans ?_, rfl, rfl, rfl⟩
  exact congrArg some (congrArg (fun n => FaultRecord.mk n kind m.key tag s.time.nodeTime true
    m.presence m.integrity m.margin m.trail (min (m.lifetime + 1) 65535)) hseq)

theorem takeOutcome_scores {s : State} {i : Nat} {m : Modem} {o : TurnOutcome}
    (hat : s.modemAt i = some m) (hresult : o.result ≠ .lost) : s.takeOutcome i m.key o =
      ((s.writeModem i ((m.scored o s.inForce.floor).trailed o)).modHealth fun h =>
        { h with scored := bump h.scored 1 }).transition i ((m.scored o s.inForce.floor).trailed o)
          o := by
  simp only [State.takeOutcome, hat, ne_eq, not_true_eq_false, if_false, if_neg hresult]

theorem failing_iff {m : Modem} {r : StartRecord} : m.failing r = true ↔
    m.presence ≤ r.t1.toNat ∨ m.integrity ≤ r.t2.toNat ∨ m.margin ≤ r.t3.toNat := by
  simp [Modem.failing, or_assoc]

theorem recovered_iff {m : Modem} {r : StartRecord} : m.recovered r = true ↔
    min 200 (r.t1.toNat + r.recover.toNat) ≤ m.presence ∧
      min 200 (r.t2.toNat + r.recover.toNat) ≤ m.integrity ∧
      min 200 (r.t3.toNat + r.recover.toNat) ≤ m.margin := by
  unfold Modem.recovered recoveryLevel
  rw [Bool.and_eq_true, Bool.and_eq_true, decide_eq_true_iff, decide_eq_true_iff,
    decide_eq_true_iff, and_assoc]

/-- Settles O37: the scores and the trail, and a transition exactly at the thresholds. -/
theorem outcomeScoresTheModem : Obligations.OutcomeScoresTheModem := by
  intro s i m o hat hix hresult p g q m' t recordOf level low well
  have hm' : (m.scored o s.inForce.floor).trailed o = m' := by
    obtain ⟨result, cadence, tag, chan, margin, corrected⟩ := o
    cases result with
    | received =>
      simp only [Modem.scored, Modem.trailed, decide_eq_true_eq]
      rfl
    | empty => cases cadence <;> rfl
    | errored =>
      simp only [Modem.scored, Modem.trailed, decide_eq_true_eq]
      rfl
    | lost => exact absurd rfl hresult
  have ht : t = ((s.writeModem i m').modHealth fun h =>
      { h with scored := bump h.scored 1 }).transition i m' o := by
    rw [← hm']
    exact takeOutcome_scores hat hresult
  have hix' : ((s.writeModem i m').modHealth fun h => { h with scored := bump h.scored 1 }).modemIx
      m'.key = some i := modemIx_writeModem hix rfl
  refine ⟨fun hstays => ?_, fun hactive hlow => ?_, fun hdegraded hwell => ?_⟩
  · have hsame : t = (s.writeModem i m').modHealth fun h =>
        { h with scored := bump h.scored 1 } := by
      rw [ht, State.transition]
      obtain ⟨hstate, hnot⟩ | ⟨hstate, hnot⟩ := hstays
      · simp only [show m'.state = .active from hstate]
        exact if_neg fun h => hnot (failing_iff.mp h)
      · simp only [show m'.state = .degraded from hstate]
        exact if_neg fun h => hnot (recovered_iff.mp h)
    rw [hsame]
    exact ⟨modemAt_writeModem_same s i m', rfl, rfl⟩
  · obtain ⟨hmodem, hring, hcount, -, hport⟩ := transition_record hix' .degraded
      (fun h => { h with degrades := bump h.degrades 1 }) .degrade o.tag rfl
    have hnext : t = State.raise (((((s.writeModem i m').modHealth fun h =>
        { h with scored := bump h.scored 1 }).writeModem i { m' with state := .degraded }).modHealth
          fun h => { h with degrades := bump h.degrades 1 }).appendFault .degrade m'.key o.tag) .fault := by
      rw [ht, State.transition]
      simp only [show m'.state = .active from hactive]
      exact if_pos (failing_iff.mpr hlow)
    rw [hnext]
    exact ⟨hmodem, hring, hcount, hport⟩
  · obtain ⟨hmodem, hring, -, hcount, hport⟩ := transition_record hix' .active
      (fun h => { h with restores := bump h.restores 1 }) .restore o.tag rfl
    have hnext : t = State.raise (((((s.writeModem i m').modHealth fun h =>
        { h with scored := bump h.scored 1 }).writeModem i { m' with state := .active }).modHealth
          fun h => { h with restores := bump h.restores 1 }).appendFault .restore m'.key o.tag) .fault := by
      rw [ht, State.transition]
      simp only [show m'.state = .degraded from hdegraded]
      exact if_pos (recovered_iff.mpr hwell)
    rw [hnext]
    exact ⟨hmodem, hring, hcount, hport⟩

end Sys2Proof.Machine
end

section
/-! SUPPORT. What Bid Intake leaves of flows and channels, outcome reports that consume an entry, and
expiry (04, 08). -/

namespace Sys2Proof.Machine

-- One proof after another: side by side, as many as stand here need more threads than the check gives.
set_option Elab.async false

/-! ### Changes of bid counters and flow records alone -/

/-- Of the channels only the bid counters change, and the modem and tag tables stay. -/
structure BidMove (s t : State) : Prop where
  chan : ∀ c, { t.chans.get c with bids := (s.chans.get c).bids } = s.chans.get c
  modems : t.store.modems = s.store.modems
  tags : t.store.tagMap = s.store.tagMap

theorem BidMove.refl (s : State) : BidMove s s := ⟨fun _ => rfl, rfl, rfl⟩

theorem BidMove.trans {s t u : State} (h : BidMove s t) (h' : BidMove t u) : BidMove s u where
  chan c := by
    have hsame := congrArg (fun ch : Channel => { ch with bids := (s.chans.get c).bids }) (h'.chan c)
    exact hsame.trans (h.chan c)
  modems := h'.modems.trans h.modems
  tags := h'.tags.trans h.tags

theorem BidMove.of_chans {s t : State} (hchans : t.chans = s.chans)
    (hmodems : t.store.modems = s.store.modems) (htags : t.store.tagMap = s.store.tagMap) :
    BidMove s t := ⟨fun c => by rw [hchans], hmodems, htags⟩

theorem BidMove.outcomes {s t : State} (h : BidMove s t) (c : Chan) :
    (t.chans.get c).outcomes = (s.chans.get c).outcomes :=
  (congrArg Channel.outcomes (h.chan c) :)

theorem BidMove.cadence {s t : State} (h : BidMove s t) (c : Chan) :
    (t.chans.get c).cadence = (s.chans.get c).cadence :=
  (congrArg Channel.cadence (h.chan c) :)

theorem BidMove.maps {s t : State} (h : BidMove s t) (c : Chan) :
    (t.chans.get c).maps = (s.chans.get c).maps :=
  (congrArg Channel.maps (h.chan c) :)

theorem modBids_move (s : State) (c : Chan) (g : BidCounters → BidCounters) :
    BidMove s (s.modBids c g) where
  chan c' := by
    by_cases hc : c = c'
    · subst hc
      rw [modBids_chans, quad_get_set_same]
    · rw [modBids_chans, quad_get_set_other _ _ _ _ hc]
  modems := rfl
  tags := rfl

theorem updFlow_move (s : State) (tag : Tag) (g : Flow → Flow) : BidMove s (s.updFlow tag g) :=
  .of_chans (by simp) (by simp) (by simp)

theorem enqueue_move (s : State) (q : Queued) : BidMove s (s.enqueue q) :=
  .of_chans (by simp) (by simp) (by simp)

theorem queueBid_move (s : State) (tag : Tag) (b : Nat) (c : Chan) :
    BidMove s (s.queueBid tag b c) := by
  unfold State.queueBid
  split
  · exact modBids_move s c _
  · exact enqueue_move s _

theorem addBid_move (s : State) (tag : Tag) (b : Nat) (c : Chan) : BidMove s (s.addBid tag b c) := by
  unfold State.addBid
  split
  · exact .refl s
  · rename_i f _
    have hadded (k : BidCounters → BidCounters) (g : Flow → Flow) :
        BidMove s ((s.updFlow tag g).modBids c k) :=
      (updFlow_move s tag g).trans (modBids_move _ c k)
    dsimp only
    split
    · exact (hadded _ _).trans (queueBid_move _ tag b c)
    · exact hadded _ _

theorem applyDeferred_move (s : State) (tag : Tag) : BidMove s (s.applyDeferred tag) := by
  unfold State.applyDeferred
  split
  · exact .refl s
  · split
    · exact .refl s
    · exact ((updFlow_move s tag _).trans (addBid_move _ tag _ _)).trans (modBids_move _ _ _)

theorem deferredAtZero_move (s : State) (tag : Tag) : BidMove s (s.deferredAtZero tag) := by
  unfold State.deferredAtZero
  split
  · exact .refl s
  · split
    · exact applyDeferred_move s tag
    · exact .refl s

theorem offerAttention_move (s : State) (tag : Tag) (reason : AttentionReason) :
    BidMove s (s.offerAttention tag reason) :=
  .of_chans (by simp) (by simp) (by simp)

theorem bidDormant_move (s : State) (tag : Tag) (c : Chan) : BidMove s (s.bidDormant tag c) :=
  (modBids_move s c _).trans (offerAttention_move _ tag _)

theorem tailForFlow_move (s : State) (f : Flow) (b : Nat) (c : Chan) :
    BidMove s (s.tailForFlow f b c) := by
  unfold State.tailForFlow
  split
  · exact (modBids_move s c _).trans (modBids_move _ c _)
  · split
    · exact (modBids_move s c _).trans (bidDormant_move _ f.tag c)
    · exact (addBid_move s f.tag b c).trans (modBids_move _ c _)

/-! ### Flows and counters after a bid's addition (R55, R61) -/

theorem flow_addBid {s : State} {tag : Tag} {f : Flow} (h : s.flow tag = some f) (b : Nat) (c : Chan) :
    (s.addBid tag b c).flow tag = some { f with outstanding := saturate (f.outstanding + b) } := by
  have hupd := flow_updFlow_same h fun f => { f with outstanding := saturate (f.outstanding + b) }
  simp only [State.addBid, h]
  split
  · exact (flow_of_store (by simp) tag).trans hupd
  · exact hupd

/-- Beside the addition only the bytes lost and the notices dropped may count. -/
structure BidsAdded (k k' : BidCounters) : Prop where
  tailApplied : k'.tailApplied = k.tailApplied
  applied : k'.applied = k.applied

theorem bids_modBids (s : State) (c c' : Chan) (g : BidCounters → BidCounters) :
    ((s.modBids c g).chans.get c').bids
      = if c = c' then g (s.chans.get c').bids else (s.chans.get c').bids := by
  split
  · rename_i hc
    subst hc
    rw [modBids_chans, quad_get_set_same]
  · rename_i hc
    rw [modBids_chans, quad_get_set_other _ _ _ _ hc]

theorem modBids_added (s : State) (c c' : Chan) {g : BidCounters → BidCounters}
    (hg : ∀ k, BidsAdded k (g k)) :
    BidsAdded (s.chans.get c').bids ((s.modBids c g).chans.get c').bids := by
  rw [bids_modBids]
  split
  · exact hg _
  · exact ⟨rfl, rfl⟩

theorem addBid_added (s : State) (tag : Tag) (b : Nat) (c c' : Chan) :
    BidsAdded (s.chans.get c').bids ((s.addBid tag b c).chans.get c').bids := by
  unfold State.addBid
  split
  · exact ⟨rfl, rfl⟩
  · rename_i f _
    extract_lets u
    have hu : BidsAdded (s.chans.get c').bids (u.chans.get c').bids := by
      have hsame : (s.updFlow tag fun f => { f with
          outstanding := saturate (f.outstanding + b) }).chans = s.chans := by simp
      have := modBids_added (s.updFlow tag fun f => { f with
        outstanding := saturate (f.outstanding + b) }) c c'
        (g := fun k => { k with bytesLost := bump k.bytesLost (excess (f.outstanding + b)) })
        fun k => ⟨rfl, rfl⟩
      rwa [hsame] at this
    split
    · unfold State.queueBid
      split
      · have h' := modBids_added u c c'
          (g := fun k => { k with noticesDropped := bump k.noticesDropped 1 }) fun k => ⟨rfl, rfl⟩
        exact ⟨h'.tailApplied.trans hu.tailApplied, h'.applied.trans hu.applied⟩
      · simpa using hu
    · exact hu

/-- A deferred bid is applied under the channel it named (R61). -/
theorem applyDeferred_spec {s : State} {tag : Tag} {f : Flow} {b : Nat} {c : Chan}
    (h : s.flow tag = some f) (hdeferred : f.deferred = some (b, c)) :
    (s.applyDeferred tag).flow tag
        = some { f with deferred := none, outstanding := saturate (f.outstanding + b) } ∧
      ((s.applyDeferred tag).chans.get c).bids.applied = bump (s.chans.get c).bids.applied 1 := by
  have hcleared := flow_updFlow_same h fun f => { f with deferred := none }
  have hchans : (s.updFlow tag fun f => { f with deferred := none }).chans = s.chans := by simp
  simp only [State.applyDeferred, h, hdeferred]
  refine ⟨flow_addBid hcleared b c, ?_⟩
  have hadded := addBid_added (s.updFlow tag fun f => { f with deferred := none }) tag b c c
  rw [bids_modBids, if_pos rfl]
  dsimp only
  rw [hadded.applied, hchans]

theorem deferredAtZero_none {s : State} {tag : Tag} {f : Flow} (h : s.flow tag = some f)
    (hnone : f.deferred = none ∨ f.pendingCount ≠ 0) : s.deferredAtZero tag = s := by
  simp only [State.deferredAtZero, h]
  split
  · rename_i hzero
    simp only [State.applyDeferred, h, hnone.resolve_right (not_not.mpr hzero)]
  · rfl

theorem deferredAtZero_zero {s : State} {tag : Tag} {f : Flow} (h : s.flow tag = some f)
    (hzero : f.pendingCount = 0) : s.deferredAtZero tag = s.applyDeferred tag := by
  simp only [State.deferredAtZero, h, if_pos hzero]

/-! ### Orphans (R40, R48) -/

theorem orphanGone_draining {s : State} {tag : Tag} {n : Nat}
    (hstate : s.tagState tag = some (.draining n)) (hwf : tabWf s.store.tagMap = true) :
    (s.orphanGone tag).tagState tag = (if n ≤ 1 then none else some (.draining (n - 1))) ∧
      (s.orphanGone tag).store.flows = s.store.flows ∧
      (s.orphanGone tag).store.modems = s.store.modems := by
  simp only [State.orphanGone, hstate]
  refine ⟨?_, rfl, rfl⟩
  simp only [State.tagState, modStore_store]
  split
  · rw [tabGet_tabDel _ _ _ hwf, if_pos rfl]
  · rw [tabGet_tabPut, if_pos rfl]

/-! ### Taking an outcome (R145) -/

theorem appendFault_store (s : State) (kind : FaultKind) (key : Key) (tag : Tag) :
    (s.appendFault kind key tag).store.flows = s.store.flows ∧
      (s.appendFault kind key tag).store.tagMap = s.store.tagMap := by
  unfold State.appendFault
  split
  · split <;> exact ⟨rfl, rfl⟩
  · exact ⟨rfl, rfl⟩

theorem transition_store (s : State) (i : Nat) (m : Modem) (o : TurnOutcome) :
    (s.transition i m o).store.flows = s.store.flows ∧
      (s.transition i m o).store.tagMap = s.store.tagMap := by
  unfold State.transition
  split
  · split
    · exact appendFault_store _ _ _ _
    · exact ⟨rfl, rfl⟩
  · split
    · exact appendFault_store _ _ _ _
    · exact ⟨rfl, rfl⟩

/-- An outcome touches the modem table, the monitor and the port alone. -/
theorem takeOutcome_store (s : State) (i : Nat) (key : Key) (o : TurnOutcome) :
    (s.takeOutcome i key o).store.flows = s.store.flows ∧
      (s.takeOutcome i key o).store.tagMap = s.store.tagMap := by
  unfold State.takeOutcome
  split
  · exact ⟨rfl, rfl⟩
  · split
    · exact ⟨rfl, rfl⟩
    · split
      · exact ⟨rfl, rfl⟩
      · exact transition_store _ _ _ _

theorem takeOutcome_flow (s : State) (i : Nat) (key : Key) (o : TurnOutcome) (tag : Tag) :
    (s.takeOutcome i key o).flow tag = s.flow tag := by
  obtain ⟨hflows, htags⟩ := takeOutcome_store s i key o
  exact flow_of_flowIx hflows (flowIx_of_tagState (by simp [State.tagState, htags]))

/-- An outcome whose modem record is gone or carries another key is not taken (R48). -/
theorem takeOutcome_of_none {s : State} {i : Nat} {key : Key}
    (h : ∀ m, s.modemAt i = some m → m.key ≠ key) (o : TurnOutcome) : s.takeOutcome i key o = s := by
  unfold State.takeOutcome
  split
  · rfl
  · rename_i m hm
    exact if_pos (h m hm)

/-- Where a modem changes its state, FAULT is latched and no other cause; the port is else as it was. -/
theorem transition_port {s u : State} (i : Nat) (m : Modem) (o : TurnOutcome)
    (hr : u.inForce = s.inForce) :
    (u.transition i m o).port = u.port ∧ (s.transition i m o).port = s.port ∨
      (u.transition i m o).port = { u.port with latched := u.latchedWith 0x04#7 } ∧
        (s.transition i m o).port = { s.port with latched := s.latchedWith 0x04#7 } := by
  have hraise (w v : State) (kind : FaultKind) (hport : v.port = w.port) :
      ((v.appendFault kind m.key o.tag).raise .fault).port
        = { w.port with latched := w.latchedWith 0x04#7 } := by
    have happend : (v.appendFault kind m.key o.tag).port = w.port := by simp [hport]
    simp only [State.raise, happend]
    rfl
  unfold State.transition
  rw [hr]
  split
  · split
    · exact .inr ⟨hraise u _ _ rfl, hraise s _ _ rfl⟩
    · exact .inl ⟨rfl, rfl⟩
  · split
    · exact .inr ⟨hraise u _ _ rfl, hraise s _ _ rfl⟩
    · exact .inl ⟨rfl, rfl⟩

theorem causes_or_comm (a b c : BitVec 7) : a ||| b ||| c = a ||| c ||| b := by
  rw [BitVec.or_assoc, BitVec.or_comm b, BitVec.or_assoc]

theorem takeOutcome_port {s u : State} (i : Nat) (key : Key) (o : TurnOutcome)
    (hm : u.store.modems = s.store.modems) (hr : u.inForce = s.inForce) :
    (u.takeOutcome i key o).port = u.port ∧ (s.takeOutcome i key o).port = s.port ∨
      (u.takeOutcome i key o).port = { u.port with latched := u.latchedWith 0x04#7 } ∧
        (s.takeOutcome i key o).port = { s.port with latched := s.latchedWith 0x04#7 } := by
  have hat : u.modemAt i = s.modemAt i := by simp only [State.modemAt, hm]
  unfold State.takeOutcome
  rw [hat, hr]
  split
  · exact .inl ⟨rfl, rfl⟩
  · split
    · exact .inl ⟨rfl, rfl⟩
    · split
      · exact .inl ⟨rfl, rfl⟩
      · exact transition_port i _ o hr

/-! ### A report for a flow that exists (R135) -/

theorem countSleep_awake {f : Flow} {res : TurnResult} (h : f.fallsAsleep res = false) (s : State) :
    s.countSleep f res = s := by
  unfold State.countSleep
  split
  · rw [if_neg (by simp [h])]
  · rfl

theorem countSleep_asleep {f : Flow} {res : TurnResult} {cad : Cadence} (hcad : f.cadence = some cad)
    (h : f.fallsAsleep res = true) (s : State) :
    s.countSleep f res = s.modCadence cad.chan fun k => { k with sleeps := bump k.sleeps 1 } := by
  simp only [State.countSleep, hcad, if_pos h]

theorem fallsAsleep_bid {f : Flow} (hbid : f.cadence = none) (res : TurnResult) :
    f.fallsAsleep res = false := by
  simp only [Flow.fallsAsleep, hbid]

theorem modCadence_get (s : State) (c c' : Chan) (g : CadenceCounters → CadenceCounters) :
    ((s.modCadence c g).chans.get c').outcomes = (s.chans.get c').outcomes ∧
      ((s.modCadence c g).chans.get c').bids = (s.chans.get c').bids ∧
      ((s.modCadence c g).chans.get c').cadence
        = if c = c' then g (s.chans.get c').cadence else (s.chans.get c').cadence := by
  split
  · rename_i hc
    subst hc
    simp [State.modCadence, State.modChan]
  · rename_i hc
    simp [State.modCadence, State.modChan, quad_get_set_other _ _ _ _ hc]

theorem countSleep_get (s : State) (f : Flow) (res : TurnResult) (c : Chan) :
    ((s.countSleep f res).chans.get c).outcomes = (s.chans.get c).outcomes ∧
      ((s.countSleep f res).chans.get c).bids = (s.chans.get c).bids := by
  unfold State.countSleep
  split
  · split
    · obtain ⟨houtcomes, hbids, -⟩ := modCadence_get s _ c _
      exact ⟨houtcomes, hbids⟩
    · exact ⟨rfl, rfl⟩
  · exact ⟨rfl, rfl⟩

/-- What the tail bid of a report does, if it carries one (R62, R63). -/
def State.withTail (s : State) (f : Flow) (r : OutcomeReport) (res : TurnResult) : State :=
  match reportTail r res with
  | some b => s.tailForFlow f b r.chan
  | none => s

theorem withTail_move (s : State) (f : Flow) (r : OutcomeReport) (res : TurnResult) :
    BidMove s (s.withTail f r res) := by
  unfold State.withTail
  split
  · exact tailForFlow_move s f _ _
  · exact .refl s

theorem reportForFlow_bid {f : Flow} (hbid : f.cadence = none) (s : State) (r : OutcomeReport)
    (res : TurnResult) : s.reportForFlow f r res
      = ((s.updFlow f.tag (·.reported res s.time.beat)).deferredAtZero f.tag).withTail f r res := by
  have hisBid : f.isBid = true := by simp [Flow.isBid, hbid]
  simp only [State.reportForFlow, countSleep_awake (fallsAsleep_bid hbid res), hisBid, if_true]
  rfl

theorem reportForFlow_cadence {f : Flow} {cad : Cadence} (hcad : f.cadence = some cad) (s : State)
    (r : OutcomeReport) (res : TurnResult) : s.reportForFlow f r res
      = ((s.updFlow f.tag (·.reported res s.time.beat)).countSleep f res).withTail f r res := by
  have hisBid : ¬ f.isBid = true := by simp [Flow.isBid, hcad]
  simp only [State.reportForFlow, if_neg hisBid]
  rfl

/-! ### A report that consumes its entry (R134 to R136) -/

/-- The entry leaves the list and the channel counts the report. -/
def State.entryConsumed (s : State) (e : PendingEntry) (r : OutcomeReport) (res : TurnResult) : State :=
  (s.erasePending e).modOutcomes r.chan (·.consumed e r res)

/-- What a consumed report does to the flow or the tag of its entry. -/
def State.acted (s : State) (e : PendingEntry) (r : OutcomeReport) (res : TurnResult) : State :=
  if e.orphan then s.reportForOrphan e r res
  else
    match s.flow e.tag with
    | some f => s.reportForFlow f r res
    | none => s

theorem consume_eq (s : State) (e : PendingEntry) (r : OutcomeReport) (res : TurnResult) :
    s.consume e r res = ((s.entryConsumed e r res).acted e r res).takeOutcome e.modemIx e.modemKey
      ⟨res, e.cadence, e.tag, e.chan, r.margin, r.corrected.toNat⟩ := rfl

theorem acted_flow {s : State} {e : PendingEntry} {f : Flow} (horphan : e.orphan = false)
    (hf : s.flow e.tag = some f) (r : OutcomeReport) (res : TurnResult) :
    s.acted e r res = s.reportForFlow f r res := by
  simp only [State.acted, horphan, Bool.false_eq_true, if_false, hf]

theorem acted_orphan {e : PendingEntry} (horphan : e.orphan = true) (s : State) (r : OutcomeReport)
    (res : TurnResult) : s.acted e r res = s.reportForOrphan e r res := if_pos horphan

/-- What a consumed report leaves unchanged. -/
theorem acted_frame (s : State) (e : PendingEntry) (r : OutcomeReport) (res : TurnResult) :
    (s.acted e r res).tracker = s.tracker ∧ (s.acted e r res).health = s.health ∧
      (s.acted e r res).time = s.time ∧ (s.acted e r res).life = s.life ∧
      (s.acted e r res).accepted = s.accepted := by
  unfold State.acted
  split
  · simp
  · split <;> simp

theorem reportForFlow_outcomes (s : State) (f : Flow) (r : OutcomeReport) (res : TurnResult) :
    (s.reportForFlow f r res).store.modems = s.store.modems ∧
      ∀ c, ((s.reportForFlow f r res).chans.get c).outcomes = (s.chans.get c).outcomes := by
  have hupd := updFlow_move s f.tag (·.reported res s.time.beat)
  cases hcad : f.cadence with
  | none =>
    rw [reportForFlow_bid hcad]
    have hmove := (hupd.trans (deferredAtZero_move _ f.tag)).trans (withTail_move _ f r res)
    exact ⟨hmove.modems, hmove.outcomes⟩
  | some cad =>
    rw [reportForFlow_cadence hcad]
    have hmove := withTail_move ((s.updFlow f.tag (·.reported res s.time.beat)).countSleep f res) f r res
    refine ⟨hmove.modems.trans ((by simp : _ = _).trans hupd.modems), fun c => ?_⟩
    exact (hmove.outcomes c).trans ((countSleep_get _ f res c).1.trans (hupd.outcomes c))

theorem acted_outcomes (s : State) (e : PendingEntry) (r : OutcomeReport) (res : TurnResult) :
    (s.acted e r res).store.modems = s.store.modems ∧
      ∀ c, ((s.acted e r res).chans.get c).outcomes = (s.chans.get c).outcomes := by
  unfold State.acted
  split
  · unfold State.reportForOrphan
    have hmodems : (s.orphanGone e.tag).store.modems = s.store.modems := (orphanGone_tables s e.tag).2
    have hchans : (s.orphanGone e.tag).chans = s.chans := by simp
    dsimp only
    split
    · refine ⟨hmodems, fun c => ?_⟩
      rw [← hchans]
      exact (modBids_move (s.orphanGone e.tag) r.chan _).outcomes c
    · exact ⟨hmodems, fun c => by rw [hchans]⟩
  · split
    · exact reportForFlow_outcomes s _ r res
    · exact ⟨rfl, fun _ => rfl⟩

/-- The bytes of the tail bid of a report, 0 for none. -/
def tailBytes (r : OutcomeReport) (res : TurnResult) : Nat :=
  if res = .received ∧ r.tailPresent = true ∧ r.tail ≠ 0 then r.tail.toNat else 0

theorem reportTail_of_bytes (r : OutcomeReport) (res : TurnResult) :
    reportTail r res = if tailBytes r res = 0 then none else some (tailBytes r res) := by
  rw [reportTail_eq]
  unfold tailBytes
  split
  · rename_i h
    have hne : r.tail.toNat ≠ 0 := fun h0 => h.2.2 (BitVec.eq_of_toNat_eq h0)
    rw [if_neg hne]
  · rfl

theorem withTail_none {r : OutcomeReport} {res : TurnResult} (h : tailBytes r res = 0) (s : State)
    (f : Flow) : s.withTail f r res = s := by
  simp only [State.withTail, reportTail_of_bytes, if_pos h]

theorem withTail_some {r : OutcomeReport} {res : TurnResult} (h : tailBytes r res ≠ 0) (s : State)
    (f : Flow) : s.withTail f r res = s.tailForFlow f (tailBytes r res) r.chan := by
  simp only [State.withTail, reportTail_of_bytes, if_neg h]

theorem tailForFlow_active {f : Flow} (hbid : f.cadence = none) (hawake : f.state ≠ .dormant)
    (s : State) (b : Nat) (c : Chan) : s.tailForFlow f b c
      = (s.addBid f.tag b c).modBids c fun k => { k with tailApplied := bump k.tailApplied 1 } := by
  simp only [State.tailForFlow, hbid, Option.isSome_none, Bool.false_eq_true, if_false,
    if_neg hawake]

theorem tailForFlow_dormant {f : Flow} (hbid : f.cadence = none) (hdormant : f.state = .dormant)
    (s : State) (b : Nat) (c : Chan) :
    s.tailForFlow f b c = (s.tailDropped c).bidDormant f.tag c := by
  simp only [State.tailForFlow, hbid, Option.isSome_none, Bool.false_eq_true, if_false,
    if_pos hdormant]

theorem tailForFlow_cadence {f : Flow} {cad : Cadence} (hcad : f.cadence = some cad) (s : State)
    (b : Nat) (c : Chan) : s.tailForFlow f b c
      = (s.tailDropped c).modBids c fun k => { k with cadenceIgnored := bump k.cadenceIgnored 1 } := by
  simp only [State.tailForFlow, hcad, Option.isSome_some, if_true]

/-- The record of a bid flow after R135's first steps. -/
theorem reported_bid {f : Flow} (hbid : f.cadence = none) (res : TurnResult) (now : Beat) :
    f.reported res now = { f with
      pendingCount := f.pendingCount - 1
      lastService := now
      lastActivity := if res = .received then now else f.lastActivity } := by
  simp [Flow.reported, fallsAsleep_bid hbid, hbid]

/-- The record of a cadence flow after R135's first steps (R104). -/
theorem reported_cadence {f : Flow} {cad : Cadence} (hcad : f.cadence = some cad) (res : TurnResult)
    (now : Beat) : f.reported res now = { f with
      pendingCount := f.pendingCount - 1
      lastService := now
      lastActivity := if res = .received then now else f.lastActivity
      cadence := some (cad.counted res)
      state := if f.fallsAsleep res then .sleep else f.state } := by
  simp [Flow.reported, hcad]

section
variable {s : State} {f : Flow} {tag : Tag} {r : OutcomeReport} {res : TurnResult}

/-- A bid flow with no deferred bid, ACTIVE: the tail bid is added (R62, R135). -/
theorem reportForFlow_active (hf : s.flow tag = some f) (htag : f.tag = tag) (hbid : f.cadence = none)
    (hdeferred : f.deferred = none) (hactive : f.state = .active) :
    (s.reportForFlow f r res).flow tag = some { f.reported res s.time.beat with
        outstanding := if tailBytes r res = 0 then f.outstanding
          else min (f.outstanding + tailBytes r res) 1048575 } ∧
      ((s.reportForFlow f r res).chans.get r.chan).bids.tailApplied
        = if tailBytes r res = 0 then (s.chans.get r.chan).bids.tailApplied
          else bump (s.chans.get r.chan).bids.tailApplied 1 := by
  subst htag
  have hread := flow_updFlow_same hf (·.reported res s.time.beat)
  have hchans : (s.updFlow f.tag (·.reported res s.time.beat)).chans = s.chans := by simp
  rw [reportForFlow_bid hbid, deferredAtZero_none hread (.inl hdeferred)]
  split
  · rename_i hzero
    rw [withTail_none hzero, hchans]
    exact ⟨hread, rfl⟩
  · rename_i hsome
    rw [withTail_some hsome, tailForFlow_active hbid (by simp [hactive])]
    refine ⟨flow_addBid hread _ _, ?_⟩
    rw [bids_modBids, if_pos rfl]
    dsimp only
    rw [(addBid_added _ _ _ _ _).tailApplied, hchans]

/-- The deferred bid of a bid flow, when the report carries no tail bid (R61). -/
theorem reportForFlow_deferred {b : Nat} {c : Chan} (hf : s.flow tag = some f) (htag : f.tag = tag)
    (hbid : f.cadence = none) (hdeferred : f.deferred = some (b, c)) (hlast : f.pendingCount = 1)
    (hzero : tailBytes r res = 0) :
    (s.reportForFlow f r res).flow tag = some { f.reported res s.time.beat with
        deferred := none, outstanding := min (f.outstanding + b) 1048575 } ∧
      ((s.reportForFlow f r res).chans.get c).bids.applied
        = bump (s.chans.get c).bids.applied 1 := by
  subst htag
  have hread := flow_updFlow_same hf (·.reported res s.time.beat)
  have hchans : (s.updFlow f.tag (·.reported res s.time.beat)).chans = s.chans := by simp
  have hnone : (f.reported res s.time.beat).pendingCount = 0 := by simp [Flow.reported, hlast]
  obtain ⟨hflow, happlied⟩ := applyDeferred_spec hread (b := b) (c := c) hdeferred
  rw [reportForFlow_bid hbid, withTail_none hzero, deferredAtZero_zero hread hnone]
  exact ⟨hflow, hchans ▸ happlied⟩

theorem reportForFlow_kept (hf : s.flow tag = some f) (htag : f.tag = tag) (hbid : f.cadence = none)
    (hmore : f.pendingCount ≠ 1) (hsome : f.pendingCount ≠ 0) (hzero : tailBytes r res = 0) :
    (s.reportForFlow f r res).flow tag = some (f.reported res s.time.beat) := by
  subst htag
  have hread := flow_updFlow_same hf (·.reported res s.time.beat)
  have hleft : (f.reported res s.time.beat).pendingCount ≠ 0 := by
    simp only [Flow.reported]
    omega
  rw [reportForFlow_bid hbid, withTail_none hzero, deferredAtZero_none hread (.inr hleft)]
  exact hread

/-- The tail bid of a DORMANT flow is dropped and offered to the host (R63, R64). -/
theorem reportForFlow_dormant (hf : s.flow tag = some f) (htag : f.tag = tag) (hbid : f.cadence = none)
    (hdeferred : f.deferred = none) (hdormant : f.state = .dormant) (hsome : tailBytes r res ≠ 0) :
    let t := s.reportForFlow f r res
    t.flow tag = some (f.reported res s.time.beat) ∧
      (t.chans.get r.chan).bids.tailDropped = bump (s.chans.get r.chan).bids.tailDropped 1 ∧
      (t.chans.get r.chan).bids.dormant = bump (s.chans.get r.chan).bids.dormant 1 ∧
      ((∀ a ∈ s.port.attention, a.tag ≠ tag) → s.port.attention.length < 64 →
        t.port = { s.port with
          attention := s.port.attention ++ [⟨tag, .dormantBid⟩]
          latched := s.latchedWith 0x01#7 }) := by
  subst htag
  have hread := flow_updFlow_same hf (·.reported res s.time.beat)
  set v := s.updFlow f.tag (·.reported res s.time.beat) with hv
  have hchans : v.chans = s.chans := by simp [hv]
  have hport : v.port = s.port := by simp [hv]
  have ht : s.reportForFlow f r res = (v.tailDropped r.chan).bidDormant f.tag r.chan := by
    rw [reportForFlow_bid hbid, deferredAtZero_none hread (.inl hdeferred), withTail_some hsome,
      tailForFlow_dormant hbid hdormant]
  intro t
  have hcounts : (t.chans.get r.chan).bids = { (s.chans.get r.chan).bids with
      tailDropped := bump (s.chans.get r.chan).bids.tailDropped 1
      dormant := bump (s.chans.get r.chan).bids.dormant 1 } := by
    simp only [t, ht, State.bidDormant, offerAttention_frame, State.tailDropped, modBids_chans,
      quad_get_set_same, hchans]
  refine ⟨?_, by rw [hcounts], by rw [hcounts], fun hnone hroom => ?_⟩
  · simp only [t, ht, State.bidDormant]
    exact (flow_of_store (by simp) f.tag).trans hread
  · have hnone' : ((v.tailDropped r.chan).modBids r.chan fun k =>
        { k with dormant := bump k.dormant 1 }).port.attention.any (·.tag == f.tag) = false := by
      change v.port.attention.any _ = false
      rw [hport]
      simpa using hnone
    have hroom' : ((v.tailDropped r.chan).modBids r.chan fun k =>
        { k with dormant := bump k.dormant 1 }).port.attention.length < 64 := by
      change v.port.attention.length < 64
      rwa [hport]
    simp only [t, ht, State.bidDormant]
    rw [offerAttention_room hnone' hroom']
    exact congrArg (fun p : Port => { p with
      attention := p.attention ++ [AttentionEntry.mk f.tag .dormantBid]
      latched := p.latched ||| (0x01#7 &&& p.mask) }) hport

/-- The record of a cadence flow, and whether it falls asleep (R104, R105). -/
theorem reportForFlow_counted {cad : Cadence} (hf : s.flow tag = some f) (htag : f.tag = tag)
    (hcad : f.cadence = some cad) :
    let t := s.reportForFlow f r res
    t.flow tag = some (f.reported res s.time.beat) ∧
      (t.chans.get cad.chan).cadence = (if f.fallsAsleep res then
          { (s.chans.get cad.chan).cadence with
            sleeps := bump (s.chans.get cad.chan).cadence.sleeps 1 }
        else (s.chans.get cad.chan).cadence) ∧
      (t.chans.get r.chan).bids = if tailBytes r res = 0 then (s.chans.get r.chan).bids
        else { (s.chans.get r.chan).bids with
          tailDropped := bump (s.chans.get r.chan).bids.tailDropped 1
          cadenceIgnored := bump (s.chans.get r.chan).bids.cadenceIgnored 1 } := by
  subst htag
  have hread := flow_updFlow_same hf (·.reported res s.time.beat)
  set v := s.updFlow f.tag (·.reported res s.time.beat) with hv
  have hchans : v.chans = s.chans := by simp [hv]
  have ht : s.reportForFlow f r res = (v.countSleep f res).withTail f r res :=
    reportForFlow_cadence hcad s r res
  have hmove := withTail_move (v.countSleep f res) f r res
  have hflow : (v.countSleep f res).flow f.tag = some (f.reported res s.time.beat) :=
    (flow_of_store (by simp) f.tag).trans hread
  intro t
  refine ⟨?_, ?_, ?_⟩
  · simp only [t, ht]
    by_cases hzero : tailBytes r res = 0
    · rwa [withTail_none hzero]
    · rw [withTail_some hzero, tailForFlow_cadence hcad]
      exact hflow
  · simp only [t, ht]
    rw [hmove.cadence]
    split
    · rename_i hasleep
      rw [countSleep_asleep hcad hasleep, (modCadence_get _ _ _ _).2.2, if_pos rfl, hchans]
    · rename_i hawake
      rw [countSleep_awake (Bool.not_eq_true _ ▸ hawake), hchans]
  · have hbids := (countSleep_get v f res r.chan).2
    rw [hchans] at hbids
    simp only [t, ht]
    split
    · rename_i hzero
      rw [withTail_none hzero, hbids]
    · rename_i hsome
      rw [withTail_some hsome, tailForFlow_cadence hcad, State.tailDropped, bids_modBids, if_pos rfl,
        bids_modBids, if_pos rfl, hbids]

end

/-- A report of an orphan: its tag has one orphan fewer, and a tail bid is dropped (R48, R63). -/
theorem reportForOrphan_spec {s : State} {e : PendingEntry} {r : OutcomeReport} {res : TurnResult}
    {n : Nat} (hstate : s.tagState e.tag = some (.draining n)) (hwf : tabWf s.store.tagMap = true) :
    let t := s.reportForOrphan e r res
    t.tagState e.tag = (if n ≤ 1 then none else some (.draining (n - 1))) ∧
      t.store.flows = s.store.flows ∧
      (t.chans.get r.chan).bids = if tailBytes r res = 0 then (s.chans.get r.chan).bids
        else { (s.chans.get r.chan).bids with
          tailDropped := bump (s.chans.get r.chan).bids.tailDropped 1 } := by
  obtain ⟨htag, hflows, -⟩ := orphanGone_draining hstate hwf
  have hchans : (s.orphanGone e.tag).chans = s.chans := by simp
  intro t
  have ht : t = if tailBytes r res = 0 then s.orphanGone e.tag
      else (s.orphanGone e.tag).tailDropped r.chan := by
    simp only [t, State.reportForOrphan, reportTail_of_bytes]
    by_cases hzero : tailBytes r res = 0
    · simp [hzero]
    · simp [hzero]
  rw [ht]
  split
  · exact ⟨htag, hflows, by rw [hchans]⟩
  · refine ⟨htag, hflows, ?_⟩
    rw [State.tailDropped, bids_modBids, if_pos rfl, hchans]

/-- The host hears of a report only where it carries a tail bid of a DORMANT flow. -/
theorem acted_port {s : State} {e : PendingEntry} {r : OutcomeReport} {res : TurnResult}
    (h : tailBytes r res = 0 ∨ e.orphan = true ∨
      ∀ f, s.flow e.tag = some f → f.cadence ≠ none ∨ f.state ≠ .dormant) :
    (s.acted e r res).port = s.port := by
  unfold State.acted
  split
  · simp
  · rename_i horphan
    split
    · rename_i f hf
      have hpre : ∀ w : State, w.port = s.port →
          (tailBytes r res = 0 ∨ f.cadence ≠ none ∨ f.state ≠ .dormant) →
          (w.withTail f r res).port = s.port := by
        intro w hw hcond
        by_cases hzero : tailBytes r res = 0
        · rwa [withTail_none hzero]
        · rw [withTail_some hzero]
          cases hcad : f.cadence with
          | some cad => rwa [tailForFlow_cadence hcad]
          | none =>
            have hawake := (hcond.resolve_left hzero).resolve_left (not_not.mpr hcad)
            rw [tailForFlow_active hcad hawake]
            simpa using hw
      have hcond : tailBytes r res = 0 ∨ f.cadence ≠ none ∨ f.state ≠ .dormant :=
        h.imp_right fun h => (h.resolve_left horphan) f hf
      cases hcad : f.cadence with
      | none =>
        rw [reportForFlow_bid hcad]
        exact hpre _ (by simp) hcond
      | some cad =>
        rw [reportForFlow_cadence hcad]
        exact hpre _ (by simp) hcond
    · rfl

theorem entryConsumed_get (s : State) (e : PendingEntry) (r : OutcomeReport) (res : TurnResult)
    (c : Chan) : (((s.reportTaken r.chan).entryConsumed e r res).chans.get c).bids
        = (s.chans.get c).bids ∧
      (((s.reportTaken r.chan).entryConsumed e r res).chans.get c).cadence
        = (s.chans.get c).cadence := by
  by_cases hc : r.chan = c
  · subst hc
    simp [State.entryConsumed, State.erasePending, State.reportTaken, State.modOutcomes, State.modChan]
  · simp [State.entryConsumed, State.erasePending, State.reportTaken, State.modOutcomes, State.modChan,
      quad_get_set_other _ _ _ _ hc]

theorem fallsAsleep_iff {f : Flow} {cad : Cadence} (hcad : f.cadence = some cad) (res : TurnResult) :
    f.fallsAsleep res = true ↔ res = .empty ∧ cad.idleLimit ≠ 0 ∧
      (cad.counted res).empties = cad.idleLimit ∧ f.state = .active := by
  simp [Flow.fallsAsleep, hcad, and_assoc]

/-- Settles O36: the entry goes and is counted, the flow or the tag of the entry is served, and the
outcome is taken by the modem that the entry names. -/
theorem reportConsumesItsEntry : Obligations.ReportConsumesItsEntry := by
  intro s r e res hlife henabled hslot hfound hended hres k bids got tail taken
  set u := (s.reportTaken r.chan).entryConsumed e r res with hu
  set o : TurnOutcome := ⟨res, e.cadence, e.tag, e.chan, r.margin, r.corrected.toNat⟩ with ho
  have hexec : exec (.outcomeReport r) s
      = .next ((u.acted e r res).takeOutcome e.modemIx e.modemKey o) := by
    rw [exec_outcomeReport_taken hlife, takeReport_wellFormed (resultOf_eq hres) henabled hslot, hfound]
    simp only [hended, if_true]
    rw [consume_eq]
  obtain ⟨htracker, hhealth, htime, hlife', haccepted⟩ := acted_frame u e r res
  have hmodems : (u.acted e r res).store.modems = s.store.modems := (acted_outcomes u e r res).1
  have houtcomes := (acted_outcomes u e r res).2 r.chan
  obtain ⟨hmodems', hhealth', hport'⟩ := takeOutcome_agrees (s := s) e.modemIx e.modemKey o hmodems
    hhealth htime hlife' haccepted
  have hchans : ((u.acted e r res).takeOutcome e.modemIx e.modemKey o).chans
      = (u.acted e r res).chans := by simp
  have hsame (tag : Tag) := takeOutcome_flow (u.acted e r res) e.modemIx e.modemKey o tag
  obtain ⟨hbids, -⟩ := entryConsumed_get s e r res r.chan
  refine ⟨_, hexec, ?list, hmodems', hhealth', fun hquiet => hport' (acted_port hquiet),
    fun hnone => ?nomodem, ?outcomes, fun f horphan hf htag hbid => ?bid,
    fun f cad horphan hf htag hcad => ?cadence, fun n horphan hstate hwf => ?orphan⟩
  case list =>
    simp only [takeOutcome_frame, htracker]
    rfl
  case nomodem =>
    rw [takeOutcome_of_none (by simpa only [State.modemAt, hmodems] using hnone)]
    exact ⟨hmodems, hhealth⟩
  case outcomes =>
    rw [hchans, houtcomes]
    simp only [hu, State.entryConsumed, State.reportTaken, State.erasePending, State.modOutcomes,
      State.modChan, State.modTracker, quad_get_set_same]
    rfl
  case bid =>
    have hacted := acted_flow (s := u) horphan hf r res
    have hrec := reported_bid hbid res s.time.beat
    rw [hsame, hchans, hacted]
    intro g
    refine ⟨fun hdeferred hactive => ?_, fun b c hdeferred hlast hzero => ?_,
      fun b c hdeferred hmore hsome hzero => ?_, fun hdeferred hdormant hsome => ?_⟩
    · obtain ⟨hflow, htail⟩ :=
        reportForFlow_active (s := u) (r := r) (res := res) hf htag hbid hdeferred hactive
      rw [hbids] at htail
      exact ⟨hflow.trans (by rw [show u.time.beat = s.time.beat from rfl, hrec]; rfl), htail⟩
    · obtain ⟨hflow, happlied⟩ :=
        reportForFlow_deferred (s := u) (r := r) (res := res) hf htag hbid hdeferred hlast hzero
      rw [(entryConsumed_get s e r res c).1] at happlied
      exact ⟨hflow.trans (by rw [show u.time.beat = s.time.beat from rfl, hrec]), happlied⟩
    · have hflow := reportForFlow_kept (s := u) (r := r) (res := res) hf htag hbid hmore hsome hzero
      exact hflow.trans (congrArg some hrec)
    · obtain ⟨hflow, hdropped, hcount, hroom⟩ :=
        reportForFlow_dormant (s := u) (r := r) (res := res) hf htag hbid hdeferred hdormant hsome
      rw [hbids] at hdropped hcount
      refine ⟨hflow.trans (congrArg some hrec), hdropped, hcount, fun hnone hfew => ?_⟩
      have hport := hroom hnone hfew
      rw [← hacted] at hport
      have hinForce : (u.acted e r res).inForce = s.inForce := by
        simp only [State.inForce, hlife', haccepted]
        rfl
      rcases takeOutcome_port e.modemIx e.modemKey o hmodems hinForce with ⟨h, h'⟩ | ⟨h, h'⟩
      · rw [← hacted, h, hport]
        exact ⟨rfl, congrArg (fun p : Port => p.latched ||| (0x01#7 &&& s.port.mask)) h'.symm⟩
      · rw [← hacted, h]
        simp only [State.latchedWith, hport, taken]
        rw [h']
        exact ⟨rfl, causes_or_comm _ _ _⟩
  case cadence =>
    have hacted := acted_flow (s := u) horphan hf r res
    obtain ⟨hflow, hcount, htail⟩ :=
      reportForFlow_counted (s := u) (r := r) (res := res) hf htag hcad
    rw [(entryConsumed_get s e r res cad.chan).2] at hcount
    rw [hbids] at htail
    rw [hsame, hchans, hacted, hflow, hcount]
    have hiff := fallsAsleep_iff hcad res
    intro empties sleeps g
    have hcounted : cad.counted res = { cad with empties := empties } := by cases res <;> rfl
    refine ⟨fun hsleeps => ?_, fun hawake => ?_, fun hsome => ?_⟩
    · have hasleep : f.fallsAsleep res = true := hiff.mpr (hcounted ▸ hsleeps)
      rw [if_pos hasleep, reported_cadence hcad, hcounted, if_pos hasleep]
      exact ⟨rfl, rfl⟩
    · have hnot : ¬ f.fallsAsleep res = true := fun h => hawake (by simpa [hcounted] using hiff.mp h)
      rw [if_neg hnot, reported_cadence hcad, hcounted, if_neg hnot]
      exact ⟨rfl, rfl⟩
    · exact htail.trans (if_neg hsome)
  case orphan =>
    obtain ⟨htag, hflows, htail⟩ := reportForOrphan_spec (s := u) (r := r) (res := res) hstate hwf
    rw [hbids] at htail
    obtain ⟨hflows', htags'⟩ := takeOutcome_store (u.acted e r res) e.modemIx e.modemKey o
    rw [hchans, State.tagState, htags', hflows', acted_orphan horphan]
    exact ⟨htag, hflows, htail⟩

end Sys2Proof.Machine
end

section
/-! SUPPORT. Expiry of pending entries (8.3). -/

namespace Sys2Proof.Machine

-- One proof after another: side by side, as many as stand here need more threads than the check gives.
set_option Elab.async false

/-- The one entry that satisfies a test is erased by leaving out what satisfies it. -/
theorem erase_of_filter_eq {α : Type} [BEq α] [LawfulBEq α] {p : α → Bool} {a : α} :
    ∀ {l : List α}, l.filter p = [a] → l.erase a = l.filter (!p ·)
  | [], h => by simp at h
  | x :: l, h => by
    by_cases hx : p x = true
    · rw [List.filter_cons_of_pos hx] at h
      obtain ⟨rfl, hrest⟩ := List.cons.inj h
      have hall : ∀ y ∈ l, (!p y) = true := by
        simpa [List.filter_eq_nil_iff] using hrest
      rw [List.erase_cons_head, List.filter_cons_of_neg (by simp [hx]), List.filter_eq_self.mpr hall]
    · rw [List.filter_cons_of_neg hx] at h
      have hpa : p a = true := (List.mem_filter.mp (h ▸ List.mem_singleton_self a)).2
      have hne : x ≠ a := fun hxa => hx (hxa ▸ hpa)
      rw [List.erase_cons_tail (by simpa using hne), List.filter_cons_of_pos (by simp [hx]),
        erase_of_filter_eq h]

/-- The entries that expire at a tick, after node time has passed end ticks. -/
theorem filter_expiry_countedTo (s : State) (t u : Tick) :
    (s.countedTo u).tracker.list.filter (·.expiry = t)
      = (s.tracker.list.filter (·.expiry = t)).map
          (·.endedBy s.time.nodeTime (u - s.time.nodeTime).toNat) :=
  List.filter_map

theorem modOutcomes_get (s : State) (c c' : Chan) (g : OutcomeCounters → OutcomeCounters) :
    ((s.modOutcomes c g).chans.get c').outcomes
        = (if c = c' then g (s.chans.get c').outcomes else (s.chans.get c').outcomes) ∧
      ((s.modOutcomes c g).chans.get c').bids = (s.chans.get c').bids := by
  split
  · rename_i hc
    subst hc
    simp [State.modOutcomes, State.modChan]
  · rename_i hc
    simp [State.modOutcomes, State.modChan, quad_get_set_other _ _ _ _ hc]

/-- What an entry consumed as LOST does, before its modem's trail. -/
def State.goneLost (s : State) (e : PendingEntry) : State :=
  let s := (s.erasePending e).modOutcomes e.chan fun k => { k with lost := bump k.lost 1 }
  if e.orphan then s.orphanGone e.tag else (s.lowerPending e.tag).deferredAtZero e.tag

theorem expireEntry_eq (s : State) (e : PendingEntry) : s.expireEntry e
    = (s.goneLost e).takeOutcome e.modemIx e.modemKey ⟨.lost, e.cadence, e.tag, e.chan, 0, 0⟩ := rfl

theorem goneLost_flow {s : State} {e : PendingEntry} (h : e.orphan = false) : s.goneLost e
    = ((((s.erasePending e).modOutcomes e.chan fun k => { k with lost := bump k.lost 1 }).lowerPending
        e.tag).deferredAtZero e.tag) := by
  rw [State.goneLost, if_neg (by simp [h])]

theorem goneLost_tracker (s : State) (e : PendingEntry) :
    (s.goneLost e).tracker = { s.tracker with list := s.tracker.list.erase e } := by
  unfold State.goneLost
  dsimp only
  split <;> simp [State.lowerPending] <;> rfl

/-- One entry expires: it is consumed alone. -/
theorem exec_pendingExpiry_one {s : State} {t : Tick} {e : PendingEntry} (hdue : s.due (.expiry t))
    (hone : s.tracker.list.filter (·.expiry = t) = [e]) :
    ∃ ended, let v := s.countedTo t
      let e' := { e with ended := ended }
      exec (.pendingExpiry t) s = .next ((v.goneLost e').takeOutcome e.modemIx e.modemKey
        ⟨.lost, e.cadence, e.tag, e.chan, 0, 0⟩) ∧
      v.tracker.list.erase e' = v.tracker.list.filter (·.expiry ≠ t) := by
  refine ⟨(e.endedBy s.time.nodeTime (t - s.time.nodeTime).toNat).ended, ?_⟩
  intro v e'
  have hfilter : v.tracker.list.filter (·.expiry = t) = [e'] := by
    rw [filter_expiry_countedTo, hone]
    rfl
  refine ⟨?_, ?_⟩
  · refine (exec_due (d := .expiry t) rfl hdue).trans (congrArg Host.Outcome.next ?_)
    change v.expire t = _
    rw [State.expire, hfilter]
    rfl
  · rw [erase_of_filter_eq hfilter]
    simp

/-- Settles O29: the one entry that expires is consumed as LOST. -/
theorem pendingExpiryIsLost : Obligations.PendingExpiryIsLost := by
  intro s t e hdue hone left
  obtain ⟨ended, hexec, herase⟩ := exec_pendingExpiry_one hdue hone
  set v := s.countedTo t with hv
  set e' : PendingEntry := { e with ended := ended } with he'
  set o : TurnOutcome := ⟨.lost, e.cadence, e.tag, e.chan, 0, 0⟩ with ho
  set w := (v.erasePending e').modOutcomes e'.chan fun k => { k with lost := bump k.lost 1 } with hw
  have hlist : ((v.goneLost e').takeOutcome e.modemIx e.modemKey o).tracker.list = left := by
    simp only [takeOutcome_frame, goneLost_tracker]
    exact herase
  have hflowOf (f : Flow) (hf : s.flow e.tag = some f) :
      (w.lowerPending e.tag).flow e.tag = some { f with pendingCount := f.pendingCount - 1 } :=
    flow_updFlow_same (s := w) hf _
  refine ⟨fun f m horphan hf hnone hm hkey => ?_, fun f b c horphan hf hlast hdeferred => ?_,
    fun n horphan hstate hwf => ?_⟩
  · have hgone : v.goneLost e' = w.lowerPending e.tag := by
      rw [goneLost_flow (by exact horphan)]
      exact deferredAtZero_none (hflowOf f hf) (.inl hnone)
    have hmodem : (w.lowerPending e.tag).modemAt e.modemIx = some m := by
      rw [State.modemAt, State.lowerPending, (updFlow_move w e.tag _).modems]
      exact hm
    have htake : (w.lowerPending e.tag).takeOutcome e.modemIx e.modemKey o
        = ((w.lowerPending e.tag).writeModem e.modemIx (m.trailed o)).modHealth
          fun h => { h with lost := bump h.lost 1 } := by
      simp only [State.takeOutcome, hmodem, hkey, ho, ne_eq, not_true_eq_false, if_false, if_true]
    rw [hgone] at hexec hlist
    refine ⟨_, hexec, hlist, ?_, ?_, ?_, ?_⟩
    · rw [takeOutcome_flow]
      exact hflowOf f hf
    · have hchans : ((w.lowerPending e.tag).takeOutcome e.modemIx e.modemKey o).chans = w.chans := by
        simp [State.lowerPending]
      rw [hchans]
      rw [(modOutcomes_get _ _ _ _).1, if_pos rfl]
      rfl
    · rw [htake]
      exact modemAt_writeModem_same _ _ _
    · rw [htake]
      have hhealth : (w.lowerPending e.tag).health = s.health := by
        simp only [State.lowerPending, updFlow_frame]
        rfl
      exact congrArg (fun h : Health => { h with lost := bump h.lost 1 }) hhealth
  · have hzero : (f.pendingCount - 1) = 0 := by omega
    have hlow := hflowOf f hf
    have hgone : v.goneLost e' = (w.lowerPending e.tag).applyDeferred e.tag := by
      rw [goneLost_flow (by exact horphan)]
      exact deferredAtZero_zero hlow hzero
    obtain ⟨hflow, happlied⟩ := applyDeferred_spec hlow (b := b) (c := c) hdeferred
    have hbids : ((w.lowerPending e.tag).chans.get c).bids = (s.chans.get c).bids := by
      simp only [State.lowerPending, updFlow_frame, hw, (modOutcomes_get _ _ _ _).2]
      rfl
    rw [hgone] at hexec hlist
    refine ⟨_, hexec, hlist, ?_, ?_⟩
    · rw [takeOutcome_flow, hflow]
      simp only [hzero, saturate]
    · rw [← hbids, ← happlied]
      simp
  · have hgone : v.goneLost e' = w.orphanGone e.tag := by
      rw [State.goneLost]
      exact if_pos horphan
    rw [hgone] at hexec hlist
    refine ⟨_, hexec, hlist, ?_⟩
    obtain ⟨-, htags⟩ := takeOutcome_store (w.orphanGone e.tag) e.modemIx e.modemKey o
    rw [State.tagState, htags]
    exact (orphanGone_draining (s := w) hstate hwf).1

end Sys2Proof.Machine
end

section
/-! SUPPORT. The end of building, the framer, contentions, notices heard, and sweep steps over records
that are FREE (5.4, 7.3, 7.4, 10.2). -/

namespace Sys2Proof.Machine

-- One proof after another: side by side, as many as stand here need more threads than the check gives.
set_option Elab.async false

/-! ### The end of building (R84, R87) -/

theorem placeSteps_fixed {s : State} (h : s.placeOne = s) (n : Nat) : State.placeSteps n s = s := by
  induction n with
  | zero => rfl
  | succ n ih => rw [State.placeSteps, h, ih]

theorem placeOne_done {s : State} {b : Build} (hb : s.planner.building = some b)
    (hdone : b.phase = .done) : s.placeOne = s := by
  simp only [State.placeOne, hb, hdone]

theorem finishBuild_done {s : State} {b : Build} (hb : s.planner.building = some b)
    (hdone : b.phase = .done) : s.finishBuild = s.endBuild b := by
  have hrest : s.placeRest = s := placeSteps_fixed (placeOne_done hb hdone) _
  simp only [State.finishBuild, hrest, hb]

/-- The sweep once the planner is free: it resumes when no request waits (R84, log 10). -/
def State.resumedSweep (s : State) : Sweep :=
  if s.sweep.state = .suspended ∧ s.planner.requests = [] then { s.sweep with state := .running }
  else s.sweep

theorem freePlanner_eq (s : State) : s.freePlanner
    = { s with planner := { s.planner with building := none }, sweep := s.resumedSweep } := by
  simp only [State.freePlanner, State.resumeSweep, State.modPlanner, State.modSweep,
    State.resumedSweep, true_and]
  split <;> rfl

theorem modMaps_eq (s : State) (c : Chan) (g : MapCounters → MapCounters) : s.modMaps c g
    = { s with chans := s.chans.set c { s.chans.get c with maps := g (s.chans.get c).maps } } := rfl

theorem handOver_room {s : State} (m : TurnMap) (h : s.mapPort.queue.length < 4) : s.handOver m
    = { s with
        mapPort := { s.mapPort with queue := s.mapPort.queue ++ [m] }
        chans := s.chans.set m.name.chan { s.chans.get m.name.chan with
          maps := { (s.chans.get m.name.chan).maps with
            handed := bump (s.chans.get m.name.chan).maps.handed 1 } } } :=
  if_pos h

theorem handOver_full {s : State} (m : TurnMap) (h : 4 ≤ s.mapPort.queue.length) :
    s.handOver m = s.discardLate m := if_neg (Nat.not_lt.mpr h)

/-- Windows have nothing to withdraw (R89). -/
theorem withdrawAll_windows (s : State) (m : MapName) (late : Bool) {es : List Entry}
    (h : ∀ e ∈ es, e.kind = .join ∨ e.kind = .bid) : s.withdrawAll m late es = s := by
  induction es with
  | nil => rfl
  | cons e es ih =>
    have hwindow : s.withdrawTurn m e late = s := by
      rcases h e List.mem_cons_self with hk | hk <;> simp only [State.withdrawTurn, hk]
    change (s.withdrawTurn m e late).withdrawAll m late es = s
    rw [hwindow]
    exact ih fun x hx => h x (List.mem_cons_of_mem e hx)

/-- A map of windows that is LATE: counted, with MAP raised (R89). -/
theorem discardLate_windows (s : State) {m : TurnMap}
    (h : ∀ e ∈ m.entries, e.kind = .join ∨ e.kind = .bid) : s.discardLate m
      = { s with
          chans := s.chans.set m.name.chan { s.chans.get m.name.chan with
            maps := { (s.chans.get m.name.chan).maps with
              late := bump (s.chans.get m.name.chan).maps.late 1 } }
          port := { s.port with latched := s.latchedWith 0x10#7 } } :=
  withdrawAll_windows _ _ _ h

theorem settled_iff {m : TurnMap} : m.settled = true ↔
    ∀ e ∈ m.entries, ¬ (e.hold = true ∧ (e.fate = .queued ∨ e.fate = .inTx)) := by
  simp only [TurnMap.settled, Entry.unconfirmed, List.all_eq_true, Bool.not_eq_true',
    Bool.and_eq_false_iff, Bool.or_eq_false_iff, beq_eq_false_iff_ne, not_and_or, not_or, ne_eq,
    Bool.not_eq_true]

theorem settled_of_standing {m : TurnMap} (h : ∀ e ∈ m.entries, e.hold = false ∨ e.fate = .standing) :
    m.settled = true := by
  refine settled_iff.mpr fun e he => ?_
  rintro ⟨hhold, hfate⟩
  rcases h e he with hno | hstands
  · simp [hno] at hhold
  · simp [hstands] at hfate

/-- Settles O41: the build that is done is handed over, LATE, or SEALING; the framer takes the head. -/
theorem buildEndsAndFramerTakes : Obligations.BuildEndsAndFramerTakes := by
  refine ⟨fun s => ⟨fun hfree => congrArg Host.Outcome.next (finishBuild_of_free hfree),
    fun b hb hdone => ?_⟩, fun s => ⟨fun hempty => ?_, fun m rest hqueue => ?_⟩⟩
  · have hexec : exec .buildEnd s = .next (s.endBuild b) :=
      congrArg Host.Outcome.next (finishBuild_done hb hdone)
    have hsettled (h : b.map.settled = true) : s.endBuild b = s.freePlanner.handOver b.map := if_pos h
    rw [freePlanner_eq] at hsettled
    intro sweep ch
    refine ⟨fun hstand hroom => ?_, fun hwindows hfull => ?_, fun e he hhold hfate => ?_⟩
    · rw [hexec, hsettled (settled_of_standing hstand), handOver_room]
      · rfl
      · exact hroom
    · have hstand (e : Entry) (he : e ∈ b.map.entries) := (hwindows e he).1
      rw [hexec, hsettled (settled_of_standing fun e he => .inl (hstand e he)), handOver_full,
        discardLate_windows]
      · rfl
      · exact fun e he => (hwindows e he).2
      · exact hfull
    · have hopen : ¬ b.map.settled = true := fun h => settled_iff.mp h e he ⟨hhold, hfate⟩
      rw [hexec, State.endBuild, if_neg hopen, freePlanner_eq]
      rfl
  · have hnone : s.framerTakes = s := by simp only [State.framerTakes, hempty]
    exact congrArg Host.Outcome.next hnone
  · have htakes : s.framerTakes = State.modMaps { s with
        mapPort := ⟨rest, s.mapPort.delivered ++ [m]⟩
        out := { s.out with turnMap := s.mapBytes m } }
      m.name.chan fun k => { k with delivered := bump k.delivered 1 } := by
      simp only [State.framerTakes, hqueue]
    exact congrArg Host.Outcome.next htakes

/-! ### Contentions (R112) -/

theorem noticeRank_le (n : Notice) : noticeRank n ≤ 4 := by
  cases n <;> simp [noticeRank]

theorem arbitrationField_toNat (k : StationNo) (n : Notice) :
    (arbitrationField k n).toNat = noticeRank n * 8 + k.toNat := by
  have hrank := noticeRank_le n
  have hk := k.isLt
  simp only [arbitrationField, BitVec.toNat_ofNat]
  exact Nat.mod_eq_of_lt (by omega)

theorem takesPart_iff {others : List (BitVec 6)} {joined atEnd : Bool} :
    takesPart others joined atEnd = true ↔ joined = true ∨ atEnd = true ∨ others = [] := by
  simp [takesPart, or_assoc]

theorem lowestField_iff {k : StationNo} {n : Notice} {others : List (BitVec 6)} :
    lowestField (arbitrationField k n) others = true ↔
      ∀ f ∈ others, noticeRank n * 8 + k.toNat ≤ f.toNat := by
  simp [lowestField, arbitrationField_toNat]

theorem exec_contentionDecided (others : List (BitVec 6)) (j : Bool) (s : State) :
    exec (.contentionDecided others j) s = .next (s.decideContention others j) := rfl

theorem setLinkedFate_link (s : State) (t : Option TurnKey) (fate : Fate) :
    (s.setLinkedFate t fate).link = s.link := by
  cases t <;> rfl

/-- Settles O42: a contention by the medium, by who takes part, and by the fields. -/
theorem contentionWinsLosesOrPasses : Obligations.ContentionWinsLosesOrPasses := by
  intro s others
  refine ⟨fun hsending j => ?_, fun e j hidle => ?_, fun q e j hidle => ⟨fun hpart => ?_, ?_⟩⟩
  · rw [exec_contentionDecided, State.decideContention, hsending]
  · rw [exec_contentionDecided, State.decideContention, hidle]
    simp only [List.isEmpty_iff]
    rfl
  · have htakes : takesPart others j e = true := takesPart_iff.mpr hpart
    refine ⟨fun hlowest => ⟨s.winContention q, ?_, ?_, fun hunlinked => ?_⟩, fun hlower => ?_⟩
    · rw [exec_contentionDecided, State.decideContention, hidle]
      simp only [htakes, lowestField_iff.mpr hlowest, if_true]
    · exact setLinkedFate_link _ _ _
    · rw [State.winContention, hunlinked]
      rfl
    · have hlose : ¬ lowestField (arbitrationField s.station q.notice) others = true := by
        rw [lowestField_iff]
        intro h
        obtain ⟨f, hf, hlt⟩ := hlower
        exact absurd (h f hf) (Nat.not_le.mpr hlt)
      rw [exec_contentionDecided, State.decideContention, hidle]
      simp only [htakes, if_true, if_neg hlose]
      rfl
  · intro hj he hothers
    have hpass : ¬ takesPart others j e = true := by
      rw [takesPart_iff]
      simp [hj, he, hothers]
    rw [exec_contentionDecided, State.decideContention, hidle]
    simp only [if_neg hpass]
    rfl

/-! ### Transmissions of other stations (R114, R115, R125) -/

theorem exec_transmissionEnd (bs : List Byte) (s : State) :
    exec (.transmissionEnd bs) s = .next (s.endTransmission bs) := rfl

theorem endTransmission_unheard {s : State} {bs : List Byte} (hother : s.link.inTx = none)
    (h : s.life = .start ∨ s.link.deaf = true) : s.endTransmission bs = s.openAtEnd := by
  have hdeaf : ¬ (s.onLink && !s.link.deaf) = true := by
    rcases h with h | h <;> simp [State.onLink, h]
  simp only [State.endTransmission, hother, if_neg hdeaf]

theorem endTransmission_heard {s : State} {bs : List Byte} (hother : s.link.inTx = none)
    (hlife : s.life ≠ .start) (hdeaf : s.link.deaf = false) :
    s.endTransmission bs = (s.hearBytes bs).openAtEnd := by
  have hhears : (s.onLink && !s.link.deaf) = true := by simp [State.onLink, hlife, hdeaf]
  simp only [State.endTransmission, hother, if_pos hhears]

/-- A notice heard is counted (R115). -/
def State.countHeard (s : State) : State :=
  s.modLinkCounters fun k => { k with heard := bump k.heard 1 }

theorem hearBytes_own {s : State} {bs : List Byte} {n : Notice}
    (h : noticeOf bs = some (s.station, n)) : s.hearBytes bs = s.countHeard.conflict := by
  simp only [State.hearBytes, h]
  exact if_pos rfl

theorem hearBytes_peer {s : State} {bs : List Byte} {k : StationNo} {n : Notice}
    (h : noticeOf bs = some (k, n)) (hpeer : k ≠ s.station) :
    s.hearBytes bs = s.countHeard.hearPeer k n := by
  simp only [State.hearBytes, h]
  exact if_neg hpeer

theorem hearPeer_presence (s : State) (k : StationNo) (serving : Bool) :
    s.hearPeer k (.presence serving) = s.refreshRoster k (.presence serving) := rfl

/-- The roster entry that a notice of a station leaves (R125). -/
def State.refreshed (s : State) (k : StationNo) (n : Notice) : State :=
  s.setRoster k ⟨true, (announcedBy n).getD (s.stored k).announced, some (s.time.nodeTime + 786432)⟩

theorem refreshRoster_same {s : State} {k : StationNo} {n : Notice}
    (hpresent : (s.stored k).present = true)
    (hsaid : (announcedBy n).getD (s.stored k).announced = (s.stored k).announced) :
    s.refreshRoster k n = s.refreshed k n := by
  unfold State.refreshRoster
  exact if_pos (by simp [hpresent, hsaid])

theorem refreshRoster_changed {s : State} {k : StationNo} {n : Notice}
    (h : ¬ ((s.stored k).present = true ∧
      (announcedBy n).getD (s.stored k).announced = (s.stored k).announced)) :
    s.refreshRoster k n = (s.refreshed k n).raise .peer := by
  unfold State.refreshRoster
  exact if_neg (by simpa using h)

/-- Settles O43: the end of another station's transmission, by what is heard of it. -/
theorem noticesHeardAreChecked : Obligations.NoticesHeardAreChecked := by
  intro s bs hother quiet k
  refine ⟨fun hunheard => ?_, fun hlife hdeaf hcorrupt => ?_, fun n hlife hdeaf hown => ?_,
    fun from_ serving hlife hdeaf hne hpresence => ?_⟩
  · rw [exec_transmissionEnd, endTransmission_unheard hother hunheard]
    rfl
  · rw [exec_transmissionEnd, endTransmission_heard hother hlife hdeaf]
    simp only [State.hearBytes, hcorrupt]
    rfl
  · rw [exec_transmissionEnd, endTransmission_heard hother hlife hdeaf]
    rw [hearBytes_own hown]
    rfl
  · intro saying
    have hsaid : (announcedBy (.presence serving)).getD (s.stored from_).announced = saying := by
      cases serving <;> rfl
    rw [exec_transmissionEnd, endTransmission_heard hother hlife hdeaf]
    have hrefreshed : s.countHeard.refreshed from_ (.presence serving) = s.countHeard.setRoster from_
        ⟨true, saying, some (s.time.nodeTime + 786432)⟩ :=
      congrArg (fun a => s.countHeard.setRoster from_ ⟨true, a, some (s.time.nodeTime + 786432)⟩) hsaid
    rw [hearBytes_peer hpresence hne, hearPeer_presence]
    by_cases hsame : (s.stored from_).present = true ∧ (s.stored from_).announced = saying
    · rw [refreshRoster_same (s := s.countHeard) hsame.1 (hsaid.trans hsame.2.symm), if_pos hsame,
        hrefreshed]
      rfl
    · have hchanged : ¬ ((s.stored from_).present = true ∧
          (announcedBy (.presence serving)).getD (s.stored from_).announced
            = (s.stored from_).announced) := by
        rw [hsaid]
        exact fun h => hsame ⟨h.1, h.2.symm⟩
      rw [refreshRoster_changed (s := s.countHeard) hchanged, if_neg hsame, hrefreshed]
      rfl

/-! ### Sweep steps (R159, R160) -/

theorem advance_eq (w : Sweep) : w.advance = { w with
    cursor := if w.cursor < 8191 then w.cursor + 1 else 0
    pass := if w.cursor < 8191 then w.pass else w.pass + 1 } := by
  unfold Sweep.advance
  by_cases h : w.cursor < 8191
  · rw [if_pos (show w.cursor + 1 < 8192 by omega), if_pos h, if_pos h]
  · rw [if_neg (show ¬ w.cursor + 1 < 8192 by omega), if_neg h, if_neg h]

theorem beginStep_begins {s : State} (hrun : s.sweep.state = .running) (hstep : s.sweep.step = none)
    (hfree : s.planner.building = none) : s.beginStep
      = { s with sweep := { s.sweep with step := some ⟨s.cursorFlow.map (·.tag)⟩ } } :=
  if_pos ⟨hrun, hstep, hfree⟩

theorem beginStep_waits {s : State}
    (h : s.sweep.state ≠ .running ∨ s.sweep.step ≠ none ∨ s.planner.building ≠ none) :
    s.beginStep = s := by
  refine if_neg ?_
  rintro ⟨hrun, hstep, hfree⟩
  simp [hrun, hstep, hfree] at h

theorem exec_sweepStepCompletion (s : State) :
    exec .sweepStepCompletion s = .next s.completeStep := rfl

/-- Settles O47: a step begins in RUNNING with no build, and passes a FREE record. -/
theorem sweepStepsBeginAndPass : Obligations.SweepStepsBeginAndPass := by
  intro s
  refine ⟨fun hrun hstep hfree => congrArg Host.Outcome.next (beginStep_begins hrun hstep hfree),
    fun h => congrArg Host.Outcome.next (beginStep_waits h), fun hnone => ?_,
    fun st hstep hrun hrecord => ?_⟩
  · have hidle : s.completeStep = s := by simp only [State.completeStep, hnone]
    exact congrArg Host.Outcome.next hidle
  · have hcomplete : s.completeStep
        = (s.modSweep (·.completed s.planner.building.isSome)).beginStep := by
      simp only [State.completeStep, hstep, State.cursorFlow, hrecord]
    rw [exec_sweepStepCompletion, hcomplete]
    intro at_ moved
    refine ⟨fun hfree => ?_, fun hbuild => ?_⟩
    · have hmoved : s.sweep.completed s.planner.building.isSome = { moved with step := none } := by
        rw [Sweep.completed, advance_eq, hfree]
        rfl
      rw [beginStep_begins (s := s.modSweep _), State.modSweep, hmoved]
      · rfl
      · exact (congrArg Sweep.state hmoved).trans hrun
      · exact congrArg Sweep.step hmoved
      · exact hfree
    · have hsome : s.planner.building.isSome = true := Option.isSome_iff_ne_none.mpr hbuild
      have hmoved : s.sweep.completed s.planner.building.isSome
          = { moved with step := none, state := .suspended } := by
        rw [Sweep.completed, advance_eq, hsome]
        exact if_pos (by simp [hrun])
      rw [beginStep_waits (s := s.modSweep _) (.inr (.inr hbuild)), State.modSweep, hmoved]

end Sys2Proof.Machine
end

section
/-! SUPPORT. The exchange of the Management Port, and the host commands that read or that change one
record (11; 3.4, 3.5, 9.5, 10.5). -/

namespace Sys2Proof.Machine

-- One proof after another: side by side, as many as stand here need more threads than the check gives.
set_option Elab.async false

/-! ### The exchange (R166, R167, R177) -/

/-- The life states in which a host command is taken, by its code (11.2). -/
def takenBy (code : Byte) : Life → Bool :=
  if code = 0x01 then inStart
  else if code = 0x02 ∨ code = 0x0D ∨ code = 0x0E then inAnyLife
  else inService

theorem exec_of_hostCode {i : Instr} {code : Byte} (h : hostCode i = some code) (s : State) :
    ∃ run, exec i s = .next (s.hostCommand code (takenBy code) run) := by
  cases i <;> cases h <;> exact ⟨_, rfl⟩

theorem refuseBusy_answered {s : State} {r : Response} (h : s.port.slot = .answered r) :
    s.refuseBusy = { s with
      out := { s.out with statusByte := 1 }
      port := { s.port with busy := bump s.port.busy 1 } } := by
  simp only [State.refuseBusy, State.shiftStatus, State.modPort, h]
  rfl

theorem hostCommand_busy {s : State} {r : Response} (h : s.port.slot = .answered r) (code : Byte)
    (takenIn : Life → Bool) (run : State → State × Reply) :
    s.hostCommand code takenIn run = s.refuseBusy := by
  simp only [State.hostCommand, h]

/-- Settles O50: the slot turns a command away first, then the life state. -/
theorem hostCommandsTurnedAway : Obligations.HostCommandsTurnedAway := by
  intro s i code hcode
  obtain ⟨run, hexec⟩ := exec_of_hostCode hcode s
  refine ⟨fun r hanswered => ?_, fun hready hstart hload hrestart hstatus hfaults => ?_,
    fun hready hlife hload => ?_⟩
  · rw [hexec, hostCommand_busy hanswered, refuseBusy_answered hanswered]
  · have htaken : takenBy code s.life = false := by
      rw [takenBy, if_neg hload, if_neg (by tauto), hstart]
      rfl
    rw [hexec, hostCommand_not_taken hready htaken]
  · have htaken : takenBy code s.life = false := by
      rw [takenBy, if_pos hload]
      exact beq_eq_false_iff_ne.mpr hlife
    rw [hexec, hostCommand_not_taken hready htaken]

theorem exec_badCommandFrame {f : CommandFrame} {offset : Nat} (hlen : f.body.length = f.length.toNat)
    (hfault : frameFault f = some offset) (s : State) :
    exec (.badCommandFrame f) s = .next (s.takeBadFrame f offset) := by
  change execBadCommandFrame f s = _
  rw [execBadCommandFrame, if_neg (not_not.mpr hlen), hfault]

theorem takeBadFrame_ready {s : State} (h : s.port.slot = .ready) (f : CommandFrame) (offset : Nat) :
    s.takeBadFrame f offset = s.replied f.code .badField (be2 offset) := by
  simp only [State.takeBadFrame, h]
  exact answer_takeFrame h f.code (badField offset)

theorem frameFault_check {f : CommandFrame} (h : f.check ≠ crc16 (frameBytes f)) :
    frameFault f = some (3 + f.length.toNat) := if_pos (bne_iff_ne.mpr h)

theorem frameFault_code {f : CommandFrame} (h : f.check = crc16 (frameBytes f))
    (hcode : requiredLength f.code.toNat = none) : frameFault f = some 0 := by
  rw [frameFault, if_neg (by simp [h]), hcode]

theorem frameFault_length {f : CommandFrame} {n : Nat} (h : f.check = crc16 (frameBytes f))
    (hcode : requiredLength f.code.toNat = some n) (hlen : n ≠ f.length.toNat) :
    frameFault f = some 1 := by
  rw [frameFault, if_neg (by simp [h]), hcode]
  exact if_neg hlen

/-- Settles O49: a write and a read by the slot, and a frame by the first check that it fails. -/
theorem portExchange : Obligations.PortExchange := by
  refine ⟨fun s r hanswered => ?_, fun s n hready => ?_, fun s b h1 h2 => ?_,
    fun s f hready hlen => ⟨fun hcheck => ?_, fun hcheck hcode => ?_, fun n hcheck hcode hne => ?_⟩⟩
  · have hbusy := refuseBusy_answered hanswered
    refine ⟨?_, fun f hlen hfault => ?_, fun n => ?_⟩
    · change execCommandBusy s = _
      rw [execCommandBusy, hanswered, ← hbusy]
      rfl
    · obtain ⟨offset, hoffset⟩ := Option.isSome_iff_exists.mp hfault
      have htake : s.takeBadFrame f offset = s.refuseBusy := by
        simp only [State.takeBadFrame, hanswered]
      rw [exec_badCommandFrame hlen hoffset, htake, hbusy]
    · change Host.Outcome.next (s.readResponse n) = _
      simp only [State.readResponse, State.shiftStatus, State.modPort, hanswered]
      rfl
  · change Host.Outcome.next (s.readResponse n) = _
    have hport : { s.port with slot := Slot.ready } = s.port := by rw [← hready]
    simp only [State.readResponse, State.shiftStatus, State.modPort, hready, hport]
    rfl
  · refine ⟨rfl, ?_⟩
    change execBadDirectionByte b s = _
    rw [execBadDirectionByte, if_neg (by tauto)]
    rfl
  · rw [exec_badCommandFrame hlen (frameFault_check hcheck), takeBadFrame_ready hready]
  · rw [exec_badCommandFrame hlen (frameFault_code hcheck hcode), takeBadFrame_ready hready]
    rfl
  · rw [exec_badCommandFrame hlen (frameFault_length hcheck hcode hne), takeBadFrame_ready hready]
    rfl

/-! ### Commands taken in LISTEN and SERVING -/

/-- A host command that is taken: its block's change, and the exchange beside it. -/
theorem exec_in_service {s t : State} {i : Instr} {code : Byte} {run : State → State × Reply}
    {result : ResultCode} {body : List Byte} (hready : s.hostReady)
    (hi : exec i s = .next (s.hostCommand code inService run)) (ht : t.port.slot = .ready)
    (hrun : run s.takeFrame = (t.takeFrame, ⟨result, body⟩)) :
    exec i s = .next (t.replied code result body) := by
  obtain ⟨hslot, hlife⟩ := hready
  rw [hi, hostCommand_taken hslot (inService_eq_true hlife) ht hrun]

/-- One that answers and changes nothing. -/
theorem exec_answers {s : State} {i : Instr} {code : Byte} {run : State → State × Reply}
    {result : ResultCode} {body : List Byte} (hready : s.hostReady)
    (hi : exec i s = .next (s.hostCommand code inService run))
    (hrun : run s.takeFrame = (s.takeFrame, ⟨result, body⟩)) :
    exec i s = .next (s.replied code result body) :=
  exec_in_service hready hi hready.1 hrun

/-! ### The host's queues, the mask, SWEEP RESTART (R165, R171, R172) -/

theorem restarted_eq (w : Sweep) : w.restarted = { w with
    cursor := 0
    step := none
    abandoned := if w.step = none then w.abandoned else bump w.abandoned 1 } := by
  unfold Sweep.restarted
  split
  · rename_i st hst
    rw [if_neg (by simp [hst])]
    rfl
  · rename_i hst
    simp only [hst, if_true]

/-- Settles O59: the queues, the mask and the sweep, each past the exchange. -/
theorem hostQueuesMaskAndSweepRestart : Obligations.HostQueuesMaskAndSweepRestart := by
  intro s hready
  refine ⟨?_, ?_, fun causes => ?_, ?_⟩
  · exact exec_in_service (t := { s with port := { s.port with
      attention := s.port.attention.drop 8 } }) hready rfl hready.1 rfl
  · exact exec_in_service (t := { s with port := { s.port with
      arrivals := s.port.arrivals.drop 4 } }) hready rfl hready.1 rfl
  · exact exec_in_service (t := { s with port := { s.port with
      mask := causes.truncate 7 } }) hready rfl hready.1 rfl
  · have hrestarted := restarted_eq s.sweep
    intro ended
    have hended : s.takeFrame.modSweep (·.restarted)
        = ({ s with sweep := ended } : State).takeFrame := by
      rw [State.modSweep, show s.takeFrame.sweep = s.sweep from rfl, hrestarted]
      rfl
    refine ⟨fun hrun hfree => ?_, fun hbarred => ?_⟩
    · refine exec_in_service (t := { s with sweep := { ended with
        step := some ⟨(tabGet s.store.flows 0).map (·.tag)⟩ } }) hready rfl hready.1 ?_
      rw [State.restartSweep, hended]
      exact congrArg (·, plain .done)
        (beginStep_begins (s := ({ s with sweep := ended } : State).takeFrame) hrun rfl hfree)
    · refine exec_in_service (t := { s with sweep := ended }) hready rfl hready.1 ?_
      rw [State.restartSweep, hended]
      exact congrArg (·, plain .done)
        (beginStep_waits (s := ({ s with sweep := ended } : State).takeFrame) (hbarred.imp_right .inr))

/-! ### REVIVE FLOW and READ FLOW (R49, R50) -/

theorem takeFrame_flow (s : State) (tag : Tag) : s.takeFrame.flow tag = s.flow tag := rfl

/-- Settles O57: the two commands by what the tag map and the record hold. -/
theorem flowRevivedAndRead : Obligations.FlowRevivedAndRead := by
  intro s tag hready
  refine ⟨fun hnone => exec_answers hready rfl ?_, fun hfree => exec_answers hready rfl ?_,
    fun n hdraining => exec_answers hready rfl ?_, fun ix f hix hat =>
      ⟨fun hother => exec_answers hready rfl ?_, fun hdormant hbid hout hoff => ?_,
        exec_answers hready rfl ?_⟩⟩
  · simp only [State.reviveFlow, takeFrame_flow, hnone]
    rfl
  · have hfree' : s.takeFrame.tagState tag = none := hfree
    simp only [State.readFlow, hfree']
    rfl
  · have hdraining' : s.takeFrame.tagState tag = some (.draining n) := hdraining
    simp only [State.readFlow, hdraining']
    rfl
  · have hflow : s.takeFrame.flow tag = some f := flow_of_record hix hat
    have hnot : ¬ (f.state = .dormant ∧ f.isBid = true) := by
      rintro ⟨hdormant, hbid⟩
      rcases hother with h | h
      · exact h hdormant
      · exact h (Option.isNone_iff_eq_none.mp hbid)
    simp only [State.reviveFlow, hflow, if_neg hnot]
    rfl
  · intro g
    have hflow : s.takeFrame.flow tag = some f := flow_of_record hix hat
    have hbid' : f.isBid = true := by simp [Flow.isBid, hbid]
    have hstay : (f.revived s.time.beat).eligible = s.takeFrame.isReady (f.revived s.time.beat) := by
      have hnone : (f.revived s.time.beat).eligible = false := by
        simp [Flow.eligible, Flow.revived, Flow.unclaimed, hout]
      exact hnone.trans hoff.symm
    refine exec_in_service (t := s.putFlow ix g) hready rfl hready.1 ?_
    simp only [State.reviveFlow, hflow, hdormant, hbid', and_self, if_true]
    rw [updFlow_in_place (s := s.takeFrame) (g := (·.revived s.takeFrame.time.beat)) hix hat hstay]
    rfl
  · have hbound : s.takeFrame.tagState tag = some (.bound ix) := flowIx_eq_some.mp hix
    have hat' : tabGet s.takeFrame.store.flows ix = some f := hat
    simp only [State.readFlow, hbound, hat']
    rfl

/-! ### ADMIT FLOW (R42 to R45) -/

section
variable {s : State} {a : AdmitFlow} {mi : Nat} {m : Modem}

theorem admitFlow_checked (htag : a.tag ≠ 0) (hix : s.modemIx a.key = some mi)
    (hm : s.modemAt mi = some m) : s.admitFlow a = s.admitFor a mi m := by
  simp only [State.admitFlow, if_neg htag, hix, hm]

theorem admitFor_fault {offset : Nat} (hfree : s.tagState a.tag = none)
    (hquiet : s.takeInTx a.tag = false) (hfault : s.flowFieldFault a = some offset) :
    s.admitFor a mi m = (s, badField offset) := by
  simp only [State.admitFor, hfree, hquiet, Bool.false_eq_true, if_false, hfault]

theorem admitFor_passed (hfree : s.tagState a.tag = none) (hquiet : s.takeInTx a.tag = false)
    (hfault : s.flowFieldFault a = none) : s.admitFor a mi m = s.placeFlow a mi m := by
  simp only [State.admitFor, hfree, hquiet, Bool.false_eq_true, if_false, hfault]

theorem flowFieldFault_bid (hbid : a.cadence = false) : s.flowFieldFault a
    = if s.maskServed a.chanMask = true then none else some 7 := by
  simp only [State.flowFieldFault, hbid, Bool.not_false, if_true]

theorem flowFieldFault_cadence (hcad : a.cadence = true) : s.flowFieldFault a
    = if s.enabled a.cadChan = false then some 18
      else if a.interval = 0 then some 20
      else if ¬ (16 ≤ a.cadBytes.toNat ∧ a.cadBytes.toNat ≤ 2048) then some 21
      else if (s.part a.cadChan).periodSlots.toNat ≤ a.phase.toNat then some 23
      else none := by
  simp only [State.flowFieldFault, hcad, inRange, Bool.not_true, Bool.false_eq_true, if_false,
    Bool.not_eq_true', Bool.and_eq_false_iff, decide_eq_false_iff_not, not_and_or, partSlots]
  rfl

theorem maskServed_iff {mask : BitVec 4} : s.maskServed mask = true ↔
    ∃ c : Chan, mask.getLsbD c.val = true ∧ s.enabled c = true := by
  have hall (c : Chan) : c ∈ quadIndexes := by
    fin_cases c <;> decide
  simp [State.maskServed, hall]

theorem placeFlow_full (h : freeRecord s.store.flows 8192 = none ∨ 16 ≤ m.flowCount) :
    s.placeFlow a mi m = (s, plain .noRoom) := by
  unfold State.placeFlow
  split
  · rfl
  · rename_i ix hix
    rw [if_pos (h.resolve_left (by simp [hix]))]

theorem placeFlow_room {ix : Nat} (hix : freeRecord s.store.flows 8192 = some ix)
    (hroom : m.flowCount < 16) : s.placeFlow a mi m
      = ((s.newFlow a mi).2.bindFlow ix (s.newFlow a mi).1 mi m, doneBody (be2 ix)) := by
  unfold State.placeFlow
  split
  · rename_i hnone
    exact absurd (hix.symm.trans hnone) (Option.some_ne_none ix)
  · rename_i ix' hix'
    cases hix'.symm.trans hix
    exact if_neg (Nat.not_le.mpr hroom)

end

/-- Settles O54: the checks of R42 in order, and the record of R43 and R44. -/
theorem admitFlowFillsARecord : Obligations.AdmitFlowFillsARecord := by
  intro s a hready
  refine ⟨fun hzero => exec_answers hready rfl ?_, fun htag hunknown => exec_answers hready rfl ?_,
    fun mi m htag hix hm => ?_⟩
  · simp only [State.admitFlow, if_pos hzero]
    rfl
  · have hunknown' : s.takeFrame.modemIx a.key = none := hunknown
    simp only [State.admitFlow, if_neg htag, hunknown']
    rfl
  · have hchecked : s.takeFrame.admitFlow a = s.takeFrame.admitFor a mi m :=
      admitFlow_checked (s := s.takeFrame) htag hix hm
    have hpassed (hfree : s.tagState a.tag = none) (hquiet : s.takeInTx a.tag = false)
        (hbid : a.cadence = false) (hserved : ∃ c, a.chanMask.getLsbD c.val = true ∧ s.enabled c = true) :
        s.takeFrame.admitFlow a = s.takeFrame.placeFlow a mi m := by
      refine hchecked.trans (admitFor_passed (s := s.takeFrame) hfree hquiet ?_)
      exact (flowFieldFault_bid hbid).trans (if_pos (maskServed_iff.mpr hserved))
    refine ⟨fun i hbound => exec_answers hready rfl ?_, fun n hdraining => exec_answers hready rfl ?_,
      fun hfree hsending => exec_answers hready rfl ?_,
      fun hfree hquiet hbid hoff => exec_answers hready rfl ?_,
      fun hfree hquiet hbid hserved hfull => exec_answers hready rfl ?_,
      fun ix hfree hquiet hbid hserved hix hroom => ?_⟩
    · have hbound' : s.takeFrame.tagState a.tag = some (.bound i) := hbound
      rw [hchecked]
      simp only [State.admitFor, hbound']
      rfl
    · have hdraining' : s.takeFrame.tagState a.tag = some (.draining n) := hdraining
      rw [hchecked]
      simp only [State.admitFor, hdraining']
      rfl
    · have hfree' : s.takeFrame.tagState a.tag = none := hfree
      have hsending' : s.takeFrame.takeInTx a.tag = true := hsending
      rw [hchecked]
      simp only [State.admitFor, hfree', hsending', if_true]
      rfl
    · have hunserved : ¬ s.takeFrame.maskServed a.chanMask = true := by
        rw [maskServed_iff]
        rintro ⟨c, hc, henabled⟩
        exact absurd ((hoff c hc).symm.trans henabled) Bool.false_ne_true
      exact hchecked.trans (admitFor_fault (s := s.takeFrame) hfree hquiet
        ((flowFieldFault_bid hbid).trans (if_neg hunserved)))
    · rw [hpassed hfree hquiet hbid hserved]
      exact placeFlow_full hfull
    · intro f m'
      refine exec_in_service (t := { s with store :=
        { modems := tabPut s.store.modems mi m'
          flows := tabPut s.store.flows ix f
          tagMap := tabPut s.store.tagMap a.tag.toNat (.bound ix) } }) hready rfl hready.1 ?_
      have hnew : s.takeFrame.newFlow a mi = (f, s.takeFrame) := by
        rw [State.newFlow, if_neg (by simp [hbid])]
        rfl
      rw [hpassed hfree hquiet hbid hserved]
      exact (placeFlow_room (s := s.takeFrame) (a := a) (mi := mi) hix hroom).trans (by rw [hnew]; rfl)

/-- Settles O55: the checks of a cadence flow in order, and the record of R37 and R45. -/
theorem admitCadenceFlow : Obligations.AdmitCadenceFlow := by
  intro s a mi m k hready htag hix hm hfree hquiet hcad
  have hchecked : s.takeFrame.admitFlow a = s.takeFrame.admitFor a mi m :=
    admitFlow_checked (s := s.takeFrame) htag hix hm
  have hfields : s.takeFrame.flowFieldFault a = _ := flowFieldFault_cadence (s := s) hcad
  have hrefused (offset : Nat) (h : s.takeFrame.flowFieldFault a = some offset) :
      exec (.admitFlow a) s = .next (s.replied 0x07 .badField (be2 offset)) :=
    exec_answers hready rfl (hchecked.trans (admitFor_fault (s := s.takeFrame) hfree hquiet h))
  have henabled (h : s.enabled a.cadChan = true) : ¬ s.enabled a.cadChan = false := by simp [h]
  have hpassed (hon : s.enabled a.cadChan = true) (hinterval : a.interval ≠ 0)
      (hlo : 16 ≤ a.cadBytes.toNat) (hhi : a.cadBytes.toNat ≤ 2048)
      (hphase : a.phase.toNat < (s.part a.cadChan).periodSlots.toNat) :
      s.takeFrame.admitFlow a = s.takeFrame.placeFlow a mi m := by
    refine hchecked.trans (admitFor_passed (s := s.takeFrame) hfree hquiet ?_)
    rw [hfields, if_neg (henabled hon), if_neg hinterval, if_neg (not_not.mpr ⟨hlo, hhi⟩),
      if_neg (Nat.not_le.mpr hphase)]
  refine ⟨fun hoff => hrefused 18 ?_, fun hon hinterval => hrefused 20 ?_,
    fun hon hinterval hbytes => hrefused 21 ?_, fun hon hinterval hlo hhi hphase => hrefused 23 ?_,
    fun hon hinterval hlo hhi hphase hfull => exec_answers hready rfl ?_,
    fun ix hon hinterval hlo hhi hphase hix hroom hclock => ?_⟩
  · rw [hfields, if_pos hoff]
  · rw [hfields, if_neg (henabled hon), if_pos hinterval]
  · rw [hfields, if_neg (henabled hon), if_neg hinterval, if_pos (by omega)]
  · rw [hfields, if_neg (henabled hon), if_neg hinterval, if_neg (not_not.mpr ⟨hlo, hhi⟩),
      if_pos hphase]
  · rw [hpassed hon hinterval hlo hhi hphase]
    exact placeFlow_full hfull
  · set x := s.takeFrame.freeValue with hx
    set y := x.2.freeValue with hy
    refine ⟨x.1, y.1.toNat, y.2.free, ?_⟩
    intro f
    have hdue : s.buildStream a.cadChan = k.build := by simp only [State.buildStream, hclock]
    have hnew : s.takeFrame.newFlow a mi = (f, y.2) := by
      rw [State.newFlow, if_pos hcad]
      refine congrArg (·, y.2) ?_
      rw [State.newCadenceFlow, State.newCadence]
      rw [show s.takeFrame.buildStream a.cadChan = k.build from hdue]
      rfl
    refine exec_in_service (t := { s with
      free := y.2.free
      store :=
        { modems := tabPut s.store.modems mi { m with flowCount := m.flowCount + 1 }
          flows := tabPut s.store.flows ix f
          tagMap := tabPut s.store.tagMap a.tag.toNat (.bound ix) } }) hready rfl hready.1 ?_
    rw [hpassed hon hinterval hlo hhi hphase]
    exact (placeFlow_room (s := s.takeFrame) (a := a) (mi := mi) hix hroom).trans (by rw [hnew]; rfl)

/-! ### The reads (R155, R172, R173) -/

theorem order_perm {α : Type} (n : Nat) (l : List α) (s : State) : (State.order n l s).1.Perm l := by
  induction n generalizing l s with
  | zero => exact .refl l
  | succ n ih =>
    match l with
    | [] => exact .refl _
    | [_] => exact .refl _
    | a :: b :: r =>
      have hlt : Config.freeChoice s.free % (r.length + 2) < (a :: b :: r).length :=
        Nat.mod_lt _ (Nat.succ_pos _)
      have hrest := ih ((a :: b :: r).eraseIdx (Config.freeChoice s.free % (r.length + 2)))
        { s with free := s.free + 1 }
      refine (List.Perm.cons _ hrest).trans ?_
      rw [List.getD_eq_getElem _ _ hlt]
      exact List.getElem_cons_eraseIdx_perm hlt

/-- The records of a lawful ring carry distinct numbers: each differs from the counter by its place. -/
theorem ring_seq_sub {s : State} (h : RingLaw s) {i : Nat} (hi : i < s.health.ring.length) :
    (s.health.seq - (s.health.ring[i]).seq).toNat = s.health.ring.length - i := by
  obtain ⟨hlen, hnumbered⟩ := h
  rw [hnumbered i _ (List.getElem?_eq_getElem hi)]
  have hsub : s.health.seq - (s.health.seq - BitVec.ofNat 32 (s.health.ring.length - i))
      = BitVec.ofNat 32 (s.health.ring.length - i) := by bv_omega
  rw [hsub, BitVec.toNat_ofNat, Nat.mod_eq_of_lt (by omega)]

theorem faultsFrom_of_before {ring : List FaultRecord} {asked : BitVec 32} {r : FaultRecord}
    (hhead : ring.head? = some r) (h : before asked r.seq = true) :
    faultsFrom ring asked = ring.take 4 := by
  cases ring with
  | nil => simp at hhead
  | cons x rest =>
    cases hhead
    exact if_pos h

theorem faultsFrom_of_not_before {ring : List FaultRecord} {asked : BitVec 32}
    (h : ∀ r, ring.head? = some r → before asked r.seq = false) :
    faultsFrom ring asked = (ring.dropWhile (·.seq ≠ asked)).take 4 := by
  cases ring with
  | nil => rfl
  | cons x rest => exact if_neg (by simp [h x rfl])

theorem dropWhile_eq_drop {α : Type} {p : α → Bool} : ∀ {l : List α} {i : Nat} (hi : i < l.length),
    p l[i] = false → (∀ j (hj : j < i), p (l[j]) = true) → l.dropWhile p = l.drop i
  | [], _, hi, _, _ => absurd hi (Nat.not_lt_zero _)
  | x :: l, 0, _, hx, _ => by simpa using hx
  | x :: l, i + 1, hi, hx, hbelow => by
    have hfirst : p x = true := hbelow 0 (Nat.succ_pos i)
    rw [List.dropWhile_cons_of_pos hfirst, List.drop_succ_cons]
    exact dropWhile_eq_drop (Nat.lt_of_succ_lt_succ hi) hx fun j hj => hbelow (j + 1) (by omega)

theorem faultsFrom_held {s : State} (h : RingLaw s) {i : Nat} (hi : i < s.health.ring.length) :
    faultsFrom s.health.ring (s.health.ring[i]).seq = (s.health.ring.drop i).take 4 := by
  have hlen := h.1
  have hi' := ring_seq_sub h hi
  have hfirst : ∀ r, s.health.ring.head? = some r →
      before (s.health.ring[i]).seq r.seq = false := by
    intro r hr
    have h0 : 0 < s.health.ring.length := by omega
    have hr' : r = s.health.ring[0] := by
      rw [List.head?_eq_getElem?, List.getElem?_eq_getElem h0] at hr
      exact (Option.some.inj hr).symm
    have hzero := ring_seq_sub h h0
    rw [hr']
    simp only [before, Bool.and_eq_false_iff, decide_eq_false_iff_not]
    bv_omega
  rw [faultsFrom_of_not_before hfirst]
  refine congrArg (List.take 4) (dropWhile_eq_drop hi (by simp) fun j hj => ?_)
  have hj' := ring_seq_sub h (show j < s.health.ring.length by omega)
  simp only [ne_eq, decide_not, Bool.not_eq_true', decide_eq_false_iff_not]
  intro heq
  rw [heq] at hj'
  omega

/-- Settles O58: the bodies read off the state, and the records by their numbers. -/
theorem readsAnswerFromTheState : Obligations.ReadsAnswerFromTheState := by
  refine ⟨⟨fun s b hready => ⟨fun hb => exec_answers hready rfl ?_, fun c hc => ?_,
    exec_answers hready rfl rfl⟩, fun s asked hslot => ?_⟩, fun s asked hring => ?_⟩
  · exact if_pos hb
  · have hchan : chanOf b.toNat = c := by
      rw [hc]
      exact Fin.ext (Nat.mod_eq_of_lt c.isLt)
    obtain ⟨k, hk⟩ := order_eq (s.existing c).length (s.existing c) s.takeFrame
    refine ⟨(State.order (s.existing c).length (s.existing c) s.takeFrame).1, k,
      order_perm _ _ _, ?_⟩
    refine exec_in_service (t := { s with free := k }) hready rfl hready.1 ?_
    have hlow : ¬ 3 < b.toNat := by omega
    simp only [State.readChannel, if_neg hlow, hchan]
    exact Prod.ext hk rfl
  · intro after
    refine ⟨?_, ?_⟩
    · have htaken : s.takeFrame = { s with out := { s.out with statusByte := 0 }, port := after } := by
        simp only [State.takeFrame, State.shiftStatus, State.modPort, after, hslot]
        rfl
      have hexec : exec .readStatus s
          = .next (s.takeFrame.readStatus.1.answer 0x0D s.takeFrame.readStatus.2) := by
        change Host.Outcome.next (s.hostCommand 0x0D inAnyLife fun s => s.readStatus) = _
        simp only [State.hostCommand, hslot, inAnyLife, if_true]
      rw [hexec, htaken]
      rfl
    · have hanswer : exec (.readFaults asked) s
          = .next (s.hostCommand 0x0E inAnyLife fun s => (s, doneBody (s.health.faultsBody asked))) := rfl
      rw [hanswer, hostCommand_taken (t := s) hslot rfl hslot rfl]
      rfl
  · refine ⟨fun hnil => ?_, fun i hi hasked => ?_, fun r hr hbefore => faultsFrom_of_before hr hbefore,
      fun hfrom hne hnone => ?_⟩
    · rw [hnil]
      rfl
    · have hheld : asked = (s.health.ring[i]).seq :=
        hasked.trans (hring.2 i _ (List.getElem?_eq_getElem hi)).symm
      rw [hheld, faultsFrom_held hring hi]
    · have hall : ∀ r ∈ s.health.ring, decide (r.seq ≠ asked) = true := by
        intro r hr
        obtain ⟨i, hi, rfl⟩ := List.getElem_of_mem hr
        have hplace := ring_seq_sub hring hi
        have hlen := hring.1
        rw [decide_eq_true_iff]
        rintro rfl
        rcases hfrom with heq | hbefore
        · rw [heq] at hplace
          simp at hplace
          omega
        · simp only [before, Bool.and_eq_true, decide_eq_true_eq] at hbefore
          bv_omega
      rw [faultsFrom_of_not_before fun r hr => hnone r (List.mem_of_mem_head? hr),
        List.dropWhile_eq_nil_iff.mpr hall]
      rfl

end Sys2Proof.Machine
end

section
/-! SUPPORT. The byte effects and the holds of the notices that this station hears (7.4, 7.5). -/

namespace Sys2Proof.Machine

-- One proof after another: side by side, as many as stand here need more threads than the check gives.
set_option Elab.async false

/-! ### Byte effects (R116 to R118) -/

theorem applyDeferred_none {s : State} {tag : Tag} {f : Flow} (h : s.flow tag = some f)
    (hnone : f.deferred = none) : s.applyDeferred tag = s := by
  simp only [State.applyDeferred, h, hnone]

theorem deferredAfterTake_none {s : State} {tag : Tag} {f : Flow} (h : s.flow tag = some f)
    (hnone : f.deferred = none) (n : Nat) : s.deferredAfterTake tag n = s := by
  simp only [State.deferredAfterTake, h]
  split
  · exact applyDeferred_none h hnone
  · rfl

theorem taken_deferred (f : Flow) (b : Nat) (own : Bool) : (f.taken b own).deferred = f.deferred := by
  unfold Flow.taken
  split <;> dsimp only <;> split <;> rfl

/-- A standing TAKE on a flow with no deferred bid is one change of its record. -/
theorem applyTake_eq {s : State} {f : Flow} (h : s.flow f.tag = some f) (hnone : f.deferred = none)
    (b : Nat) (own : Bool) : s.applyTake f b own = s.updFlow f.tag (·.taken b own) :=
  deferredAfterTake_none (flow_updFlow_same h _) ((taken_deferred f b own).trans hnone) _

theorem taken_active {f : Flow} (h : f.state = .active) (b : Nat) (own : Bool) : f.taken b own = { f with
    tentative := if own then f.tentative - b else f.tentative
    outstanding := f.outstanding - b
    overgrant := bump f.overgrant (b - f.outstanding) } := by
  cases own <;> simp [Flow.taken, h]

theorem takesEffects_iff {f : Flow} {own : Bool} {sender : StationNo} :
    f.takesEffects own sender = true ↔ f.cadence = none ∧
      (own = true ∨ f.state = .active ∧ f.spanMask.getLsbD sender.toNat = true) := by
  simp [Flow.takesEffects, Flow.isBid]

theorem applyBytes_taken {s : State} {n : Notice} {tag : Tag} {b : Nat} {f : Flow} {own : Bool}
    {sender : StationNo} (hn : noticeTag n = some (tag, b)) (hf : s.flow tag = some f)
    (heffects : f.takesEffects own sender = true) (v : Option Verdict) :
    s.applyBytes n own sender v = s.byteEffects n f own v := by
  simp only [State.applyBytes, hn, hf, heffects, if_true]

theorem applyBytes_ignored {s : State} {n : Notice} {tag : Tag} {b : Nat} {own : Bool}
    {sender : StationNo} (hn : noticeTag n = some (tag, b))
    (hnone : ∀ f, s.flow tag = some f → f.takesEffects own sender = false) (v : Option Verdict) :
    s.applyBytes n own sender v = s.ignoredNotice := by
  simp only [State.applyBytes, hn]
  split
  · rfl
  · rename_i f hf
    rw [if_neg (by simp [hnone f hf])]

theorem addHeard_eq {s : State} {tag : Tag} {f : Flow} (h : s.flow tag = some f) (b : Nat) :
    s.addHeard tag b = (s.updFlow tag fun f => { f with
        outstanding := saturate (f.outstanding + b) }).modLinkCounters fun k =>
      { k with bytesLost := bump k.bytesLost (excess (f.outstanding + b)) } := by
  simp only [State.addHeard, h]

theorem modLinkCounters_flow (s : State) (g : LinkCounters → LinkCounters) (tag : Tag) :
    (s.modLinkCounters g).flow tag = s.flow tag := rfl

theorem openAtEnd_flow (s : State) (tag : Tag) : s.openAtEnd.flow tag = s.flow tag := rfl

/-! ### A notice of a peer (R115) -/

/-- A peer's notice refreshes the roster and no other part of the link (R125). -/
theorem refreshRoster_link (s : State) (k : StationNo) (n : Notice) :
    (s.refreshRoster k n).link = { s.link with roster := (s.refreshRoster k n).link.roster } := by
  unfold State.refreshRoster
  dsimp only
  split <;> rfl

/-- The state in which the byte effects of a peer's notice are judged. -/
def State.greeted (s : State) (k : StationNo) (n : Notice) : State := s.countHeard.refreshRoster k n

theorem greeted_store (s : State) (k : StationNo) (n : Notice) : (s.greeted k n).store = s.store := by
  simp [State.greeted, State.countHeard]

theorem greeted_counters (s : State) (k : StationNo) (n : Notice) : (s.greeted k n).link.counters
    = { s.link.counters with heard := bump s.link.counters.heard 1 } := by
  rw [State.greeted, refreshRoster_link]
  rfl

theorem greeted_holds (s : State) (k : StationNo) (n : Notice) :
    (s.greeted k n).link.holds = s.link.holds := by
  rw [State.greeted, refreshRoster_link]
  rfl

/-- A transmission that carries a notice of a peer: the verdict on a hold, then the byte effects. -/
theorem exec_transmissionEnd_peer {s : State} {bs : List Byte} {k : StationNo} {n : Notice}
    (hother : s.link.inTx = none) (hdeaf : s.link.deaf = false) (hlife : s.life ≠ .start)
    (hpeer : k ≠ s.station) (hn : noticeOf bs = some (k, n)) :
    exec (.transmissionEnd bs) s = .next (State.openAtEnd
      (((s.greeted k n).enterVerdict n k).applyBytes n false k ((s.greeted k n).verdictOf n))) := by
  rw [exec_transmissionEnd, endTransmission_heard hother hlife hdeaf, hearBytes_peer hn hpeer]
  rfl

/-- Settles O44: on a flow that the notice reaches it is one change of the record; on no other it counts
as ignored. -/
theorem peerNoticesMoveBytes : Obligations.PeerNoticesMoveBytes := by
  intro s bs from_ tag b hother hdeaf hlife hpeer k
  have hexec {n : Notice} (hn : noticeOf bs = some (from_, n)) :=
    exec_transmissionEnd_peer hother hdeaf hlife hpeer hn
  refine ⟨fun f hf htag hbid hactive hspan hnone => ?_, fun n hn hkind hnot => ?_⟩
  · have heffects : f.takesEffects false from_ = true := takesEffects_iff.mpr ⟨hbid, .inr ⟨hactive, hspan⟩⟩
    have hgreeted (n : Notice) : (s.greeted from_ n).flow tag = some f :=
      (flow_of_store (greeted_store s from_ n) tag).trans hf
    refine ⟨fun hadds => ?_, fun htake => ?_⟩
    · have hadded (n : Notice) (hn : noticeOf bs = some (from_, n))
          (hnotice : noticeTag n = some (tag, b.toNat)) (henter : ∀ u : State, u.enterVerdict n from_ = u)
          (hbytes : ∀ (u : State) v, u.byteEffects n f false v = u.addHeard tag b.toNat) :
          ∃ t, exec (.transmissionEnd bs) s = .next t ∧
            t.flow tag = some { f with outstanding := min (f.outstanding + b.toNat) 1048575 } ∧
            t.link.counters = { k with
              heard := bump k.heard 1
              bytesLost := bump k.bytesLost (f.outstanding + b.toNat - 1048575) } := by
        have hheard := hexec hn
        rw [henter, applyBytes_taken hnotice (hgreeted n) heffects, hbytes,
          addHeard_eq (hgreeted n)] at hheard
        refine ⟨_, hheard, ?_, ?_⟩
        · rw [openAtEnd_flow, modLinkCounters_flow]
          exact flow_updFlow_same (hgreeted n) _
        · simp only [State.openAtEnd, State.modLink, State.modLinkCounters, updFlow_frame,
            greeted_counters, excess_eq]
          rfl
      rcases hadds with hn | hn
      · exact hadded _ hn rfl (fun _ => rfl) fun _ _ => rfl
      · exact hadded _ hn rfl (fun _ => rfl) fun _ _ => rfl
    · subst htag
      have hheard := hexec htake
      have henter (u : State) : u.enterVerdict (.take f.tag b) from_ = u := rfl
      have hbytes (u : State) (v : Option Verdict) :
          u.byteEffects (.take f.tag b) f false v = u.applyTake f b.toNat false := rfl
      rw [henter, applyBytes_taken (tag := f.tag) (b := b.toNat) rfl (hgreeted _) heffects, hbytes,
        applyTake_eq (hgreeted _) hnone] at hheard
      refine ⟨_, hheard, ?_, ?_⟩
      · rw [openAtEnd_flow]
        exact (flow_updFlow_same (hgreeted _) _).trans (congrArg some (taken_active hactive _ _))
      · simp only [State.openAtEnd, State.modLink, updFlow_frame, greeted_counters]
        rfl
  · have hnone (f : Flow) (hf : (s.greeted from_ n).flow tag = some f) :
        f.takesEffects false from_ = false := by
      have hf' : s.flow tag = some f := (flow_of_store (greeted_store s from_ n) tag).symm.trans hf
      rw [Bool.eq_false_iff, ne_eq, takesEffects_iff]
      rintro ⟨hbid, hown | ⟨hactive, hspan⟩⟩
      · exact Bool.false_ne_true hown
      · simpa [hbid, hactive, hspan] using hnot f hf'
    have hbytes := hexec hn
    have henter (u : State) : u.enterVerdict n from_ = u := by
      rcases hkind with rfl | rfl | rfl <;> rfl
    have hnotice : noticeTag n = some (tag, b.toNat) := by
      rcases hkind with rfl | rfl | rfl <;> rfl
    rw [henter, applyBytes_ignored hnotice hnone] at hbytes
    refine ⟨_, hbytes, greeted_store s from_ n, ?_, ?_⟩
    · simp [State.greeted, State.countHeard, State.openAtEnd, State.ignoredNotice]
    · exact congrArg (fun k : LinkCounters => { k with ignored := bump k.ignored 1 })
        (greeted_counters s from_ n)

/-! ### Holds (R119, R120) -/

/-- Some shared hold of the key overlaps the span (R119). -/
def State.clashes (s : State) (key : Key) (a z : Tick) : Bool :=
  s.link.holds.any fun h => h.key == key && before a h.stop && before h.start z

theorem judge_clash {s : State} {key : Key} {a z : Tick} (h : s.clashes key a z = true) :
    s.judge key a z = .overlapped := by
  refine if_pos ?_
  simpa only [State.clashes, overlaps, Bool.and_assoc] using h

theorem judge_clear {s : State} {key : Key} {a z : Tick} (h : s.clashes key a z = false) :
    s.judge key a z = if 256 ≤ s.link.holds.length then .full else .stands := by
  refine if_neg ?_
  simpa only [State.clashes, overlaps, Bool.and_assoc, Bool.not_eq_true] using h

theorem applyVerdict_stands (s : State) (h : SharedHold) : s.applyVerdict .stands h
    = { s with link := { s.link with
        holds := s.link.holds ++ if before s.time.nodeTime h.stop then [h] else []
        counters := { s.link.counters with standing := bump s.link.counters.standing 1 } } } := by
  simp only [State.applyVerdict, State.modLink, State.modLinkCounters]
  split
  · rfl
  · rw [List.append_nil]

/-- Settles O45: the hold is judged, and the notice of no flow is ignored. -/
theorem peerHoldsAreJudged : Obligations.PeerHoldsAreJudged := by
  intro s bs from_ tag b key a z hother hdeaf hlife hpeer hn hnoflow k clash
  set n : Notice := .takeHold tag b key a z with hnotice
  set u := s.greeted from_ n with hu
  set v := u.applyVerdict (u.judge key a z) ⟨key, a, z, from_⟩ with hv
  have hexec := exec_transmissionEnd_peer hother hdeaf hlife hpeer hn
  have hstore : v.store = s.store := (by simp [v] : v.store = u.store).trans (greeted_store s from_ n)
  have hignored : (u.enterVerdict n from_).applyBytes n false from_ (u.verdictOf n)
      = v.ignoredNotice :=
    applyBytes_ignored (tag := tag) (b := b.toNat) rfl (fun f hf => absurd
      ((flow_of_store hstore tag).symm.trans hf) (by simp [hnoflow])) _
  rw [hignored] at hexec
  have hclash : u.clashes key a z = clash := by
    rw [State.clashes, greeted_holds]
  have hholds := greeted_holds s from_ n
  have hcounters := greeted_counters s from_ n
  have hnow : u.time = s.time := by simp [u, State.greeted, State.countHeard]
  refine ⟨_, hexec, hstore, fun hclear hroom => ?_, fun hmeets => ?_, fun hclear hfull => ?_⟩
  · have hjudge : u.judge key a z = .stands := by
      rw [judge_clear (hclash.trans hclear), hholds, if_neg (Nat.not_le.mpr hroom)]
    rw [hv, hjudge, applyVerdict_stands]
    refine ⟨?_, fun hlater => ?_, fun hpast => ?_⟩
    · exact congrArg (fun k : LinkCounters => { k with
        standing := bump k.standing 1, ignored := bump k.ignored 1 }) hcounters
    · change u.link.holds ++ (if before u.time.nodeTime z then [_] else []) = _
      rw [hholds, hnow, if_pos hlater]
    · change u.link.holds ++ (if before u.time.nodeTime z then [_] else []) = _
      rw [hholds, hnow, if_neg (by simp [hpast]), List.append_nil]
  · rw [hv, judge_clash (hclash.trans hmeets)]
    exact ⟨hholds, congrArg (fun k : LinkCounters => { k with
      void := bump k.void 1, ignored := bump k.ignored 1 }) hcounters⟩
  · have hjudge : u.judge key a z = .full := by
      rw [judge_clear (hclash.trans hclear), hholds, if_pos hfull]
    rw [hv, hjudge]
    exact ⟨hholds, congrArg (fun k : LinkCounters => { k with
      void := bump k.void 1, voidFull := bump k.voidFull 1, ignored := bump k.ignored 1 }) hcounters⟩

end Sys2Proof.Machine
end

section
/-! SUPPORT. What a change of a flow record leaves of the planner; the fate of this station's own TAKE
(5.5, 7.3 to 7.5). -/

namespace Sys2Proof.Machine

-- One proof after another: side by side, as many as stand here need more threads than the check gives.
set_option Elab.async false

/-! ### What the eligibility rule leaves of the planner (R38) -/

/-- The requests, the maps and the local holds are the same; ready lists and visits may differ. -/
structure SamePlan (p q : Planner) : Prop where
  requests : q.requests = p.requests := by rfl
  building : q.building.map (·.map) = p.building.map (·.map) := by rfl
  sealing : q.sealing = p.sealing := by rfl
  localHolds : q.localHolds = p.localHolds := by rfl

theorem SamePlan.refl (p : Planner) : SamePlan p p := {}

theorem SamePlan.trans {p q r : Planner} (h : SamePlan p q) (h' : SamePlan q r) : SamePlan p r :=
  ⟨h'.requests.trans h.requests, h'.building.trans h.building, h'.sealing.trans h.sealing,
    h'.localHolds.trans h.localHolds⟩

theorem SamePlan.of_eq {p q : Planner} (h : q = p) : SamePlan p q := h ▸ .refl p

theorem leaveReady_plan (s : State) (f : Flow) : SamePlan s.planner (s.leaveReady f).planner where
  building := by
    simp only [State.leaveReady, State.modPlanner, Option.map_map]
    rfl

theorem settle_plan (s : State) (f : Flow) : SamePlan s.planner (s.settle f).planner := by
  unfold State.settle
  split
  · split
    · exact .refl _
    · exact {}
  · split
    · exact leaveReady_plan s f
    · exact .refl _

theorem updFlow_plan (s : State) (tag : Tag) (g : Flow → Flow) :
    SamePlan s.planner (s.updFlow tag g).planner := by
  unfold State.updFlow
  split
  · exact .refl _
  · exact (SamePlan.of_eq (by simp)).trans (settle_plan _ _)

theorem building_none_of_plan {p q : Planner} (h : SamePlan p q) (hp : p.building = none) :
    q.building = none := by
  have hsame := h.building
  rw [hp] at hsame
  exact Option.map_eq_none_iff.mp hsame

/-! ### Withdrawing a data turn (R90) -/

/-- The pending entry has gone, and the flow's pending count and credit are set back. -/
def State.unturned (s : State) (t : TurnKey) (tag : Tag) (b : Nat) : State :=
  ((s.dropPending t).lowerPending tag).updFlow tag (·.refund b)

theorem refund_eq (f : Flow) (b : Nat) : f.refund b
    = { f with credit := if f.rate = 0 then f.credit else min f.ceiling (f.credit + b) } := by
  unfold Flow.refund
  split <;> rfl

section
variable {s : State} {t : TurnKey} {e : Entry} {f : Flow}

theorem lowered_flow (hf : s.flow e.tag = some f) :
    ((s.dropPending t).lowerPending e.tag).flow e.tag
      = some { f with pendingCount := f.pendingCount - 1 } :=
  flow_updFlow_same (s := s.dropPending t) hf _

theorem unturned_flow (hf : s.flow e.tag = some f) (b : Nat) : (s.unturned t e.tag b).flow e.tag
    = some { f with
        pendingCount := f.pendingCount - 1
        credit := if f.rate = 0 then f.credit else min f.ceiling (f.credit + b) } := by
  rw [State.unturned, flow_updFlow_same (lowered_flow hf), refund_eq]

theorem unpend_eq (hp : (s.pendingEntry t).isSome = true) (hf : s.flow e.tag = some f)
    (hnone : f.deferred = none) : s.unpend t e.tag = (s.dropPending t).lowerPending e.tag := by
  rw [State.unpend, if_pos hp]
  exact deferredAtZero_none (lowered_flow hf) (.inl hnone)

/-- A data turn of a flow with no deferred bid is withdrawn by the fate of its TAKE (R90). -/
theorem withdrawData_eq (hp : (s.pendingEntry t).isSome = true) (hf : s.flow e.tag = some f)
    (hnone : f.deferred = none) : s.withdrawData t e
      = ((s.unturned t e.tag e.bytes).returnBytes t { f with
          pendingCount := f.pendingCount - 1
          credit := if f.rate = 0 then f.credit else min f.ceiling (f.credit + e.bytes) }
        e).dropLocalHold t := by
  unfold State.withdrawData
  rw [unpend_eq hp hf hnone]
  have hflow := unturned_flow (t := t) hf e.bytes
  unfold State.unturned at hflow
  dsimp only
  rw [hflow]
  rfl

end

theorem unturned_plan (s : State) (t : TurnKey) (tag : Tag) (b : Nat) :
    SamePlan s.planner (s.unturned t tag b).planner :=
  (updFlow_plan (s.dropPending t) tag _).trans (updFlow_plan _ tag _)

theorem unturned_frame (s : State) (t : TurnKey) (tag : Tag) (b : Nat) :
    (s.unturned t tag b).chans = s.chans ∧ (s.unturned t tag b).link = s.link ∧
      (s.unturned t tag b).mapPort = s.mapPort ∧ (s.unturned t tag b).health = s.health ∧
      (s.unturned t tag b).sweep = s.sweep ∧ (s.unturned t tag b).port = s.port ∧
      (s.unturned t tag b).tracker.list = s.tracker.list.filter (fun q => !q.isTurn t) := by
  simp [State.unturned, State.lowerPending, State.dropPending, State.modTracker]

/-! ### Hand-over of a settled map (R85, R87) -/

theorem handIfSettled_settled {s : State} {m : TurnMap} (hs : s.planner.sealing = [m])
    (hsettled : m.settled = true) (hroom : s.mapPort.queue.length < 4) :
    s.handIfSettled m.name = { s with
      planner := { s.planner with sealing := [] }
      mapPort := { s.mapPort with queue := s.mapPort.queue ++ [m] }
      chans := s.chans.set m.name.chan { s.chans.get m.name.chan with
        maps := { (s.chans.get m.name.chan).maps with
          handed := bump (s.chans.get m.name.chan).maps.handed 1 } } } := by
  have hfind : s.planner.sealing.find? (·.name == m.name) = some m := by simp [hs]
  simp only [State.handIfSettled, hfind, hsettled, if_true]
  rw [handOver_room m (by exact hroom)]
  simp [State.modPlanner, hs]

theorem handIfSettled_unsealed {s : State} (h : s.planner.sealing = []) (name : MapName) :
    s.handIfSettled name = s := by
  simp only [State.handIfSettled, h, List.find?_nil]

theorem setFate_name (m : TurnMap) (t : TurnKey) (fate : Fate) : (m.setFate t fate).name = m.name := by
  unfold TurnMap.setFate
  split <;> rfl

/-- With the turn confirmed nothing unconfirmed is left, if nothing else was unconfirmed. -/
theorem setFate_settled {m : TurnMap} {t : TurnKey} (hname : m.name = ⟨t.chan, t.period⟩)
    (hothers : ∀ e ∈ m.entries, e.start ≠ t.slot → e.unconfirmed = false) :
    (m.setFate t .standing).settled = true := by
  rw [TurnMap.setFate, if_pos hname, TurnMap.settled, List.all_eq_true]
  intro e' he'
  obtain ⟨e, he, rfl⟩ := List.mem_map.mp he'
  by_cases hslot : e.start = t.slot
  · simp [hslot, Entry.unconfirmed, Entry.withFate]
  · simp [if_neg hslot, hothers e he hslot]

theorem without_eq {m : TurnMap} {t : TurnKey} (hname : m.name = ⟨t.chan, t.period⟩) :
    m.without t = { m with entries := m.entries.filter (·.start ≠ t.slot) } := if_pos hname

theorem without_settled {m : TurnMap} {t : TurnKey} (hname : m.name = ⟨t.chan, t.period⟩)
    (hothers : ∀ e ∈ m.entries, e.start ≠ t.slot → e.unconfirmed = false) :
    (m.without t).settled = true := by
  rw [without_eq hname, TurnMap.settled, List.all_eq_true]
  intro e he
  obtain ⟨hmem, hslot⟩ := List.mem_filter.mp he
  simp [hothers e hmem (by simpa using hslot)]

/-- The entry of a turn in the one SEALING map, once its hold is void. -/
theorem openEntry_void {s : State} {x : TurnMap} {t : TurnKey} {e : Entry}
    (hbuild : s.planner.building = none) (hsealing : s.planner.sealing = [x])
    (hname : x.name = ⟨t.chan, t.period⟩) (hfind : x.entries.find? (·.start == t.slot) = some e) :
    (s.setFate t .void).openEntry t = some (e.withFate .void) := by
  have hslot : e.start = t.slot := by simpa using List.find?_some hfind
  have hkeeps (e : Entry) : (if e.start = t.slot then e.withFate .void else e).start = e.start := by
    split <;> rfl
  have hmap : (x.setFate t .void).entries.find? (·.start == t.slot) = some (e.withFate .void) := by
    rw [TurnMap.setFate, if_pos hname, List.find?_map]
    have hsame : ((fun e : Entry => e.start == t.slot) ∘ fun e =>
        if e.start = t.slot then e.withFate .void else e) = fun e => e.start == t.slot :=
      funext fun e => congrArg (· == t.slot) (hkeeps e)
    rw [hsame, hfind]
    simp [hslot]
  have hfound : ((x.setFate t .void).name == (⟨t.chan, t.period⟩ : MapName)) = true := by
    rw [setFate_name, hname]
    exact beq_self_eq_true _
  simp only [State.openEntry, State.setFate, hbuild, hsealing, Option.map_none, Option.toList_none,
    List.map_cons, List.map_nil, List.nil_append, List.find?_cons, hfound, hmap]

/-- A void hold withdraws the data turn of a flow with no deferred bid from the one SEALING map, which is
handed over when nothing unconfirmed is left (R85, R90). -/
theorem voidTurn_eq {s : State} {x : TurnMap} {t : TurnKey} {e : Entry} {p : PendingEntry} {f : Flow}
    (hbuild : s.planner.building = none) (hsealing : s.planner.sealing = [x])
    (hname : x.name = ⟨t.chan, t.period⟩) (hfind : x.entries.find? (·.start == t.slot) = some e)
    (hkind : e.kind = .data) (horphan : e.orphan = false) (hp : s.pendingEntry t = some p)
    (hf : s.flow e.tag = some f) (hnone : f.deferred = none) : s.voidTurn t
      = (((((s.dropEntry t).modMaps t.chan fun k => { k with holdsVoid := bump k.holdsVoid 1 }).unturned t
        e.tag e.bytes).dropLocalHold t).handIfSettled t.map) := by
  have hslot : e.start = t.slot := by simpa using List.find?_some hfind
  have hturn : t.map.turn (e.withFate .void).start = t := by
    change (⟨t.chan, t.period, e.start⟩ : TurnKey) = t
    rw [hslot]
  set w := (s.dropEntry t).modMaps t.chan fun k => { k with holdsVoid := bump k.holdsVoid 1 } with hw
  have hdata : w.withdrawTurn t.map (e.withFate .void) false = w.withdrawData t (e.withFate .void) := by
    have hkind' : (e.withFate .void).kind = .data := hkind
    simp only [State.withdrawTurn, hkind', hturn]
    exact if_neg (by simpa [Entry.withFate] using horphan)
  have hp' : (w.pendingEntry t).isSome = true := Option.isSome_iff_exists.mpr ⟨p, hp⟩
  have hf' : w.flow (e.withFate .void).tag = some f := hf
  simp only [State.voidTurn, openEntry_void hbuild hsealing hname hfind]
  rw [← hw, hdata, withdrawData_eq hp' hf' hnone]
  rfl

/-! ### Fault records (R153, R154) -/

/-- The record of a fault is the newest of the ring. -/
theorem appendFault_last (s : State) (kind : FaultKind) (key : Key) (tag : Tag) :
    ∃ r, (s.appendFault kind key tag).health.ring.getLast? = some r ∧ r.kind = kind ∧ r.key = key ∧
      r.tag = tag ∧ r.seq = s.health.seq := by
  have happended (m : Option Modem) : ∃ r, (s.health.append (s.faultRecord kind key tag m)).ring.getLast?
      = some r ∧ r.kind = kind ∧ r.key = key ∧ r.tag = tag ∧ r.seq = s.health.seq := by
    refine ⟨_, getLast_append _ _, ?_⟩
    cases m <;> exact ⟨rfl, rfl, rfl, rfl⟩
  unfold State.appendFault
  split
  · split
    · exact happended _
    · exact happended _
  · exact happended _

theorem appendFault_flow (s : State) (kind : FaultKind) (key : Key) (tag tag' : Tag) :
    (s.appendFault kind key tag).flow tag' = s.flow tag' := by
  obtain ⟨hflows, htags⟩ := appendFault_store s kind key tag
  exact flow_of_flowIx hflows (flowIx_of_tagState (by simp [State.tagState, htags]))

/-! ### This station's own transmission (R114, R117, R120, R121) -/

/-- The notice has left the transmitter, and counts as sent. -/
def State.sent (s : State) (n : Notice) : State :=
  { s with link := { s.link with
    inTx := none, counters := s.link.counters.sentOne (noticeRank n) } }

theorem exec_transmissionEnd_own {s : State} {x : InTx} (hown : s.link.inTx = some x)
    (hlife : s.life ≠ .start) (hheard : x.silent = false) (bs : List Byte) :
    exec (.transmissionEnd bs) s = .next (State.openAtEnd
      ((((s.sent x.own.notice).enterVerdict x.own.notice s.station).applyBytes x.own.notice true
        s.station ((s.sent x.own.notice).verdictOf x.own.notice)).ownFate x
          ((s.sent x.own.notice).verdictOf x.own.notice))) := by
  have hhears : (({ s with link := { s.link with inTx := none } } : State).onLink && !x.silent) = true := by
    simp [State.onLink, hlife, hheard]
  rw [exec_transmissionEnd]
  simp only [State.endTransmission, hown]
  exact congrArg Host.Outcome.next (if_pos hhears)

theorem takesEffects_own {f : Flow} (hbid : f.cadence = none) (k : StationNo) :
    f.takesEffects true k = true := takesEffects_iff.mpr ⟨hbid, .inl rfl⟩

/-- This station hears its own TAKE: the bytes leave its flow, and the fate of the TAKE follows. -/
theorem exec_transmissionEnd_take {s : State} {f : Flow} {b : BitVec 16} {turn : Option TurnKey}
    {w : Bool} (hown : s.link.inTx = some ⟨⟨.take f.tag b, turn⟩, w, false⟩) (hlife : s.life ≠ .start)
    (hf : s.flow f.tag = some f) (hbid : f.cadence = none) (hnone : f.deferred = none)
    (bs : List Byte) : exec (.transmissionEnd bs) s = .next (State.openAtEnd
      (((s.sent (.take f.tag b)).updFlow f.tag (·.taken b.toNat true)).standingFate
        ⟨⟨.take f.tag b, turn⟩, w, false⟩ f.tag b.toNat)) := by
  have hsent : (s.sent (.take f.tag b)).flow f.tag = some f := hf
  have hexec := exec_transmissionEnd_own hown hlife rfl bs
  have henter (u : State) : u.enterVerdict (.take f.tag b) s.station = u := rfl
  have hbytes (u : State) (v : Option Verdict) :
      u.byteEffects (.take f.tag b) f true v = u.applyTake f b.toNat true := rfl
  dsimp only at hexec
  rw [henter, applyBytes_taken (tag := f.tag) (b := b.toNat) rfl hsent (takesEffects_own hbid _), hbytes,
    applyTake_eq hsent hnone] at hexec
  exact hexec

/-- This station hears its own TAKE with hold, which is void: the bytes leave tentative. -/
theorem exec_transmissionEnd_void {s : State} {f : Flow} {b : BitVec 16} {key : Key} {a z : Tick}
    {turn : Option TurnKey} {w : Bool}
    (hown : s.link.inTx = some ⟨⟨.takeHold f.tag b key a z, turn⟩, w, false⟩) (hlife : s.life ≠ .start)
    (hf : s.flow f.tag = some f) (hbid : f.cadence = none) (hclash : s.clashes key a z = true)
    (bs : List Byte) : exec (.transmissionEnd bs) s = .next (State.openAtEnd
      (((((s.sent (.takeHold f.tag b key a z)).modLinkCounters fun k =>
        { k with void := bump k.void 1 }).dropTentative f.tag b.toNat).voidFate
          ⟨⟨.takeHold f.tag b key a z, turn⟩, w, false⟩ f.tag key))) := by
  set n : Notice := .takeHold f.tag b key a z with hn
  have hjudge : (s.sent n).judge key a z = .overlapped := judge_clash (s := s.sent n) hclash
  have hverdict : (s.sent n).verdictOf n = some .overlapped := congrArg some hjudge
  have henter : (s.sent n).enterVerdict n s.station
      = (s.sent n).modLinkCounters fun k => { k with void := bump k.void 1 } := by
    change (s.sent n).applyVerdict ((s.sent n).judge key a z) _ = _
    rw [hjudge]
    rfl
  have hcounted : ((s.sent n).modLinkCounters fun k => { k with void := bump k.void 1 }).flow f.tag
      = some f := hf
  have hexec := exec_transmissionEnd_own hown hlife rfl bs
  dsimp only at hexec
  rw [hverdict, henter, applyBytes_taken (tag := f.tag) (b := b.toNat) rfl hcounted
    (takesEffects_own hbid _)] at hexec
  exact hexec

/-- This station hears its own TAKE with hold, which stands: the hold is entered, the bytes leave the
flow, and the fate of the TAKE follows. -/
theorem exec_transmissionEnd_stands {s : State} {f : Flow} {b : BitVec 16} {key : Key} {a z : Tick}
    {turn : Option TurnKey} {w : Bool}
    (hown : s.link.inTx = some ⟨⟨.takeHold f.tag b key a z, turn⟩, w, false⟩) (hlife : s.life ≠ .start)
    (hf : s.flow f.tag = some f) (hbid : f.cadence = none) (hnone : f.deferred = none)
    (hclear : s.clashes key a z = false) (hroom : s.link.holds.length < 256) (bs : List Byte) :
    exec (.transmissionEnd bs) s = .next (State.openAtEnd
      (((((s.sent (.takeHold f.tag b key a z)).applyVerdict .stands ⟨key, a, z, s.station⟩).updFlow f.tag
        (·.taken b.toNat true)).standingFate ⟨⟨.takeHold f.tag b key a z, turn⟩, w, false⟩ f.tag
          b.toNat))) := by
  set n : Notice := .takeHold f.tag b key a z with hn
  have hjudge : (s.sent n).judge key a z = .stands := by
    rw [judge_clear (s := s.sent n) hclear]
    exact if_neg (Nat.not_le.mpr hroom)
  have hverdict : (s.sent n).verdictOf n = some .stands := congrArg some hjudge
  have henter : (s.sent n).enterVerdict n s.station
      = (s.sent n).applyVerdict .stands ⟨key, a, z, s.station⟩ := by
    change (s.sent n).applyVerdict ((s.sent n).judge key a z) _ = _
    rw [hjudge]
  set u := (s.sent n).applyVerdict .stands ⟨key, a, z, s.station⟩ with hu
  have hflow : u.flow f.tag = some f :=
    (flow_of_store (s := s) (by rw [hu, applyVerdict_stands]; rfl) f.tag).trans hf
  have hexec := exec_transmissionEnd_own hown hlife rfl bs
  dsimp only at hexec
  rw [hverdict, henter, applyBytes_taken (tag := f.tag) (b := b.toNat) rfl hflow
    (takesEffects_own hbid _)] at hexec
  have hbytes : u.byteEffects n f true (some .stands) = u.applyTake f b.toNat true := rfl
  rw [hbytes, applyTake_eq hflow hnone] at hexec
  exact hexec

/-! ### A GIVE of this station (R110, R121) -/

theorem queueGive_room {s : State} (tag : Tag) (b : Nat) (h : s.link.queue.length < 64) :
    s.queueGive tag b = s.modLink fun l => { l with
      queue := insertNotice ⟨.give tag (BitVec.ofNat 16 b), none⟩ l.queue
      medium := l.medium.opened (insertNotice ⟨.give tag (BitVec.ofNat 16 b), none⟩ l.queue) } := by
  rw [State.queueGive, if_neg (by simpa [State.txFull] using h), enqueue_room _ h]

theorem queueGive_full {s : State} (tag : Tag) (b : Nat) (h : 64 ≤ s.link.queue.length) :
    s.queueGive tag b
      = s.modLinkCounters fun k => { k with giveDropped := bump k.giveDropped 1 } :=
  if_pos (by simpa [State.txFull] using h)

theorem giveBack_awake {s : State} {tag : Tag} {f : Flow} (hf : s.flow tag = some f)
    (hawake : f.state ≠ .dormant) (b : Nat) :
    s.giveBack tag b = (s.queueGive tag b).addHeard tag b := by
  simp only [State.giveBack, hf, if_neg hawake]

theorem giveBack_dormant {s : State} {tag : Tag} {f : Flow} (hf : s.flow tag = some f)
    (hdormant : f.state = .dormant) (b : Nat) :
    s.giveBack tag b = (s.queueGive tag b).addIdleBytes b := by
  simp only [State.giveBack, hf, if_pos hdormant]

theorem lateStanding_gives {s : State} {tag : Tag} {f : Flow} {b : Nat} (hf : s.flow tag = some f)
    (hbid : f.cadence = none) (hpos : 0 < b) : s.lateStanding tag b
      = (s.giveBack tag b).modLinkCounters fun k => { k with giveLate := bump k.giveLate 1 } := by
  simp only [State.lateStanding, hf]
  exact if_pos ⟨Option.isNone_iff_eq_none.mpr hbid, hpos⟩

theorem confirmTurn_unsealed {s : State} (h : s.planner.sealing = []) (t : TurnKey) :
    s.confirmTurn t = s.setFate t .standing :=
  handIfSettled_unsealed (by simp [State.setFate, h]) _

/-- Settles O46: by the kind of the notice sent, and for a hold by its verdict. -/
theorem ownTransmissionEnds : Obligations.OwnTransmissionEnds := by
  refine ⟨fun s bs x hown hunheard => ?_, fun s bs tag b turn f hlife hsealing hf htag hbid hactive
    hnone => ?_, ?_⟩
  · have hnot : ¬ (({ s with link := { s.link with inTx := none } } : State).onLink && !x.silent)
        = true := by
      rcases hunheard with h | h <;> simp [State.onLink, h]
    rw [exec_transmissionEnd]
    simp only [State.endTransmission, hown]
    exact congrArg Host.Outcome.next (if_neg hnot)
  · subst htag
    intro k
    refine ⟨fun hown => ?_, fun hown hpos hroom => ?_, fun key a z hown hclash => ?_⟩
    · have hexec := exec_transmissionEnd_take hown hlife hf hbid hnone bs
      set v := (s.sent (.take f.tag b)).updFlow f.tag (·.taken b.toNat true) with hv
      have hlink : v.link = (s.sent (.take f.tag b)).link := by simp [v]
      have hflow : v.flow f.tag = some (f.taken b.toNat true) :=
        flow_updFlow_same (s := s.sent (.take f.tag b)) hf _
      have hplan : v.planner.sealing = [] := (updFlow_plan _ _ _).sealing.trans hsealing
      obtain ⟨w, hw, hwlink, hwstore⟩ : ∃ w, v.standingFate ⟨⟨.take f.tag b, turn⟩, false, false⟩ f.tag
          b.toNat = w ∧ w.link = v.link ∧ w.store = v.store := by
        cases turn with
        | none => exact ⟨v, rfl, rfl, rfl⟩
        | some t => exact ⟨v.setFate t .standing, confirmTurn_unsealed hplan t, rfl, rfl⟩
      rw [hw] at hexec
      refine ⟨_, hexec, ?_, ?_, ?_⟩
      · change w.link.inTx = none
        rw [hwlink, hlink]
        rfl
      · change w.link.counters = _
        rw [hwlink, hlink]
        rfl
      · rw [openAtEnd_flow, flow_of_store hwstore, hflow, taken_active hactive]
        rfl
    · have hexec := exec_transmissionEnd_take hown hlife hf hbid hnone bs
      set v := (s.sent (.take f.tag b)).updFlow f.tag (·.taken b.toNat true) with hv
      have hlink : v.link = (s.sent (.take f.tag b)).link := by simp [v]
      have hflow : v.flow f.tag = some (f.taken b.toNat true) :=
        flow_updFlow_same (s := s.sent (.take f.tag b)) hf _
      rw [taken_active hactive] at hflow
      have hgives : v.standingFate ⟨⟨.take f.tag b, turn⟩, true, false⟩ f.tag b.toNat
          = ((v.queueGive f.tag b.toNat).addHeard f.tag b.toNat).modLinkCounters fun k =>
            { k with giveLate := bump k.giveLate 1 } := by
        change v.lateStanding f.tag b.toNat = _
        rw [lateStanding_gives hflow hbid hpos, giveBack_awake hflow (by simp [hactive])]
      have hqueued := queueGive_room (s := v) f.tag b.toNat (by rw [hlink]; exact hroom)
      have hqflow : (v.queueGive f.tag b.toNat).flow f.tag = _ := (flow_of_store (by simp) f.tag).trans hflow
      rw [hgives, addHeard_eq hqflow] at hexec
      refine ⟨_, hexec, ?_, ?_, ?_, ?_⟩
      · simp only [State.openAtEnd, State.modLink, State.modLinkCounters, updFlow_frame, hqueued, hlink]
        rfl
      · simp only [State.openAtEnd, State.modLink, State.modLinkCounters, updFlow_frame, hqueued, hlink,
          BitVec.ofNat_toNat, BitVec.setWidth_eq]
        rfl
      · simp only [State.openAtEnd, State.modLink, State.modLinkCounters, updFlow_frame, hqueued, hlink]
        rfl
      · rw [openAtEnd_flow, modLinkCounters_flow, modLinkCounters_flow, flow_updFlow_same hqflow]
        rfl
    · have hexec := exec_transmissionEnd_void hown hlife hf hbid hclash bs
      set u := (s.sent (.takeHold f.tag b key a z)).modLinkCounters fun k =>
        { k with void := bump k.void 1 } with hu
      have hfate : (u.dropTentative f.tag b.toNat).voidFate
          ⟨⟨.takeHold f.tag b key a z, turn⟩, true, false⟩ f.tag key
          = (u.dropTentative f.tag b.toNat).appendFault .holdVoid key f.tag := rfl
      rw [hfate] at hexec
      obtain ⟨r, hlast, hkind, hkey, htag, hseq⟩ :=
        appendFault_last (u.dropTentative f.tag b.toNat) .holdVoid key f.tag
      have hlink : ((u.dropTentative f.tag b.toNat).appendFault .holdVoid key f.tag).link = u.link := by
        simp [State.dropTentative]
      refine ⟨_, r, hexec, ?_, ?_, ?_, ?_, hlast, hkind, hkey, htag, ?_⟩
      · simp only [State.openAtEnd, State.modLink, hlink]
        rfl
      · simp only [State.openAtEnd, State.modLink, hlink]
        rfl
      · simp only [State.openAtEnd, State.modLink, hlink]
        rfl
      · rw [openAtEnd_flow, appendFault_flow]
        exact flow_updFlow_same (s := u) hf _
      · rw [hseq, State.dropTentative]
        simp only [updFlow_frame]
        rfl
  · intro s bs tag b turn key a z f x hlife hbuild hsealing hname hroom hothers hf htag hbid hactive
      hnone hown k maps clash confirmed
    subst htag
    refine ⟨fun hclear hfew => ?_, fun e p hclash hfind hkind horphan hetag hpending => ?_⟩
    · have hexec := exec_transmissionEnd_stands hown hlife hf hbid hnone hclear hfew bs
      set n : Notice := .takeHold f.tag b key a z with hn
      rw [applyVerdict_stands] at hexec
      set u : State := { s.sent n with link := { (s.sent n).link with
        holds := (s.sent n).link.holds ++ if before (s.sent n).time.nodeTime z then
          [⟨key, a, z, s.station⟩] else []
        counters := { (s.sent n).link.counters with
          standing := bump (s.sent n).link.counters.standing 1 } } } with hu
      set v := u.updFlow f.tag (·.taken b.toNat true) with hv
      have hflow : v.flow f.tag = some (f.taken b.toNat true) := flow_updFlow_same (s := u) hf _
      have hplan : v.planner.sealing = [x] := (updFlow_plan _ _ _).sealing.trans hsealing
      set y := x.setFate turn .standing with hy
      have hyname : y.name = turn.map := (setFate_name _ _ _).trans hname
      have hmapPort : v.mapPort = s.mapPort := by
        simp only [hv, updFlow_frame]
        rfl
      have hhanded : v.standingFate ⟨⟨n, some turn⟩, false, false⟩ f.tag b.toNat
          = (v.setFate turn .standing).handIfSettled y.name := by
        rw [hyname]
        rfl
      rw [hhanded, handIfSettled_settled (s := v.setFate turn .standing) (m := y)
        (by simp [State.setFate, hplan, y]) (setFate_settled hname hothers)
        (by simpa [State.setFate, hmapPort] using hroom)] at hexec
      have hchan : y.name.chan = turn.chan := congrArg MapName.chan hyname
      have hlink : v.link = u.link := by simp [v]
      have hchans : v.chans = s.chans := by
        simp only [hv, updFlow_frame]
        rfl
      refine ⟨_, hexec, ?_, ?_, ?_, ?_, rfl, ?_, ?_, ?_⟩
      · change v.link.inTx = none
        rw [hlink]
        rfl
      · change v.link.counters = _
        rw [hlink]
        rfl
      · change v.link.holds = _
        rw [hlink]
        rfl
      · change v.flow f.tag = _
        rw [hflow, taken_active hactive]
        rfl
      · have hconfirmed : confirmed = (·.setFate turn .standing) := by
          funext m
          simp only [confirmed, TurnMap.setFate, hname]
          rfl
        change v.mapPort.queue.map (·.setFate turn .standing) ++ [y] = _
        rw [hmapPort, hconfirmed, List.map_append]
        rfl
      · change ((v.chans.set y.name.chan _).get turn.chan).maps = _
        rw [hchan, quad_get_set_same]
        change ({ (v.chans.get turn.chan).maps with
          handed := bump (v.chans.get turn.chan).maps.handed 1 } : MapCounters) = _
        rw [hchans]
      · change v.health = s.health
        simp only [hv, updFlow_frame]
        rfl
    · have hexec := exec_transmissionEnd_void hown hlife hf hbid hclash bs
      set n : Notice := .takeHold f.tag b key a z with hn
      set u := (s.sent n).modLinkCounters fun k => { k with void := bump k.void 1 } with hu
      set v := u.dropTentative f.tag b.toNat with hv
      have hflow : v.flow f.tag = some { f with tentative := f.tentative - b.toNat } :=
        flow_updFlow_same (s := u) hf _
      have hplan : SamePlan s.planner v.planner := updFlow_plan u f.tag _
      have hlink : v.link = u.link := by simp [hv, State.dropTentative]
      have hsame : v.mapPort = s.mapPort ∧ v.chans = s.chans ∧ v.health = s.health ∧
          v.tracker = s.tracker := by
        simp only [hv, State.dropTentative, updFlow_frame]
        exact ⟨rfl, rfl, rfl, rfl⟩
      obtain ⟨hmapPort, hchans, hhealth, htracker⟩ := hsame
      have hvoid := voidTurn_eq (s := v) (p := p)
        (f := { f with tentative := f.tentative - b.toNat }) (building_none_of_plan hplan hbuild)
        (hplan.sealing.trans hsealing) hname hfind hkind horphan
        (by rw [State.pendingEntry, htracker]; exact hpending) (by rw [hetag]; exact hflow) hnone
      have hfate : v.voidFate ⟨⟨n, some turn⟩, false, false⟩ f.tag key
          = (v.voidTurn turn).appendFault .holdVoid key f.tag := rfl
      rw [hetag] at hvoid
      set w := (v.dropEntry turn).modMaps turn.chan fun k => { k with holdsVoid := bump k.holdsVoid 1 }
        with hw
      set y := (w.unturned turn f.tag e.bytes).dropLocalHold turn with hy
      obtain ⟨hychans, hylink, hymapPort, hyhealth, -, -, hylist⟩ := unturned_frame w turn f.tag e.bytes
      have hyplan := unturned_plan w turn f.tag e.bytes
      have hwsealing : w.planner.sealing = [x.without turn] := by
        change v.planner.sealing.map (·.without turn) = _
        rw [hplan.sealing.trans hsealing]
        rfl
      have hxname : (x.without turn).name = turn.map := by
        rw [without_eq hname]
        exact hname
      rw [hfate, hvoid, ← hxname, handIfSettled_settled (s := y) (hyplan.sealing.trans hwsealing)
        (without_settled hname hothers)
        (by rw [show y.mapPort = s.mapPort from hymapPort.trans hmapPort]; exact hroom)] at hexec
      set q : State := { y with
        planner := { y.planner with sealing := [] }
        mapPort := { y.mapPort with queue := y.mapPort.queue ++ [x.without turn] }
        chans := y.chans.set (x.without turn).name.chan { y.chans.get (x.without turn).name.chan with
          maps := { (y.chans.get (x.without turn).name.chan).maps with
            handed := bump (y.chans.get (x.without turn).name.chan).maps.handed 1 } } } with hq
      obtain ⟨r, hlast, hrkind, hrkey, hrtag, hrseq⟩ := appendFault_last q .holdVoid key f.tag
      have hqlink : (q.appendFault .holdVoid key f.tag).link = u.link :=
        (by simp : _ = q.link).trans (hylink.trans hlink)
      have hyf := unturned_flow (s := w) (t := turn) (e := e) (by rw [hetag]; exact hflow) e.bytes
      refine ⟨_, r, hexec, ?_, ?_, ?_, ?_, ?_, ?_, ?_, ?_, ?_, hlast, hrkind, hrkey, hrtag, ?_⟩
      · change (q.appendFault .holdVoid key f.tag).link.inTx = none
        rw [hqlink]
        rfl
      · change (q.appendFault .holdVoid key f.tag).link.holds = _
        rw [hqlink]
        rfl
      · change (q.appendFault .holdVoid key f.tag).link.counters = _
        rw [hqlink]
        rfl
      · rw [openAtEnd_flow, appendFault_flow]
        rw [hetag] at hyf
        exact hyf
      · change (q.appendFault .holdVoid key f.tag).tracker.list = _
        simp only [appendFault_frame]
        exact hylist.trans (by rw [← htracker]; rfl)
      · change (q.appendFault .holdVoid key f.tag).planner.localHolds = _
        simp only [appendFault_frame]
        change (w.unturned turn f.tag e.bytes).planner.localHolds.filter _ = _
        rw [hyplan.localHolds, ← hplan.localHolds]
        rfl
      · change (q.appendFault .holdVoid key f.tag).planner.sealing = _
        simp only [appendFault_frame]
        rfl
      · change (q.appendFault .holdVoid key f.tag).mapPort.queue = _
        simp only [appendFault_frame]
        change y.mapPort.queue ++ [x.without turn] = _
        rw [show y.mapPort = s.mapPort from hymapPort.trans hmapPort, without_eq hname]
      · change ((q.appendFault .holdVoid key f.tag).chans.get turn.chan).maps = _
        have hchan : (x.without turn).name.chan = turn.chan := congrArg MapName.chan hxname
        have hwchans : y.chans = v.chans.set turn.chan { v.chans.get turn.chan with
          maps := { (v.chans.get turn.chan).maps with
            holdsVoid := bump (v.chans.get turn.chan).maps.holdsVoid 1 } } := hychans
        simp only [appendFault_frame, hq, hchan, quad_get_set_same, hwchans, hchans]
        rfl
      · rw [hrseq]
        exact congrArg Health.seq (hyhealth.trans hhealth)

end Sys2Proof.Machine
end

section
/-! SUPPORT. A sweep step on an ACTIVE bid flow (10.2, 10.3). -/

namespace Sys2Proof.Machine

-- One proof after another: side by side, as many as stand here need more threads than the check gives.
set_option Elab.async false

/-! ### The end of a step (R159, R160) -/

theorem completed_eq (w : Sweep) (building : Bool) : w.completed building = { w with
    step := none
    steps := bump w.steps 1
    cursor := if w.cursor < 8191 then w.cursor + 1 else 0
    pass := if w.cursor < 8191 then w.pass else w.pass + 1
    state := if building = true ∧ w.state = .running then .suspended else w.state } := by
  rw [Sweep.completed, advance_eq, Sweep.afterStep]
  by_cases h : building = true ∧ w.state = .running
  · rw [if_pos (by simpa using h), if_pos h]
  · rw [if_neg (by simpa using h), if_neg h]

/-- A step has ended: it counts, the cursor has moved, and a RUNNING sweep begins the next. -/
def State.stepped (s : State) : State :=
  (s.modSweep (·.completed s.planner.building.isSome)).beginStep

theorem stepped_beside (s : State) : s.stepped = { s with sweep := s.stepped.sweep } := by
  unfold State.stepped State.beginStep
  split <;> rfl

theorem stepped_sweep (s : State) : s.stepped.sweep = { s.sweep with
    steps := bump s.sweep.steps 1
    cursor := if s.sweep.cursor < 8191 then s.sweep.cursor + 1 else 0
    pass := if s.sweep.cursor < 8191 then s.sweep.pass else s.sweep.pass + 1
    step := s.stepped.sweep.step
    state := s.stepped.sweep.state } := by
  unfold State.stepped State.beginStep
  split <;> simp only [State.modSweep, completed_eq]

theorem stepped_running {s : State} (hrun : s.sweep.state = .running)
    (hfree : s.planner.building = none) : s.stepped.sweep.state = .running ∧
      s.stepped.sweep.step
        = some ⟨(tabGet s.stepped.store.flows s.stepped.sweep.cursor).map (·.tag)⟩ := by
  have hbegins : s.stepped = _ := beginStep_begins (s := s.modSweep _)
    (by simp [State.modSweep, completed_eq, hrun, hfree]) (by simp [State.modSweep, completed_eq])
    hfree
  rw [hbegins]
  refine ⟨?_, rfl⟩
  simp [State.modSweep, completed_eq, hrun, hfree]

theorem stepped_suspended {s : State} (hrun : s.sweep.state = .running)
    (hbuild : s.planner.building ≠ none) : s.stepped.sweep.state = .suspended ∧
      s.stepped.sweep.step = none := by
  have hsome : s.planner.building.isSome = true := Option.isSome_iff_ne_none.mpr hbuild
  have hwaits : s.stepped = _ := beginStep_waits (s := s.modSweep _) (.inr (.inr hbuild))
  rw [hwaits]
  simp [State.modSweep, completed_eq, hrun, hsome]

/-! ### The tests (R160 to R163) -/

theorem stale_iff {f : Flow} {now : Beat} {limit : Nat} : f.stale now limit = true ↔
    0 < f.outstanding ∧ limit < (now - f.lastService).toNat := by
  simp [Flow.stale]

theorem idleOut_iff {f : Flow} {now : Beat} : f.idleOut now = true ↔
    f.idleCode ≠ 0 ∧ idleBeats f.idleCode ≤ (now - f.lastActivity).toNat := by
  simp [Flow.idleOut]

section
variable {s : State} {f : Flow}

theorem offered_port {tag : Tag} (hnone : ∀ e ∈ s.port.attention, e.tag ≠ tag)
    (hroom : s.port.attention.length < 64) (reason : AttentionReason) :
    (s.offerAttention tag reason).port = { s.port with
      attention := s.port.attention ++ [⟨tag, reason⟩], latched := s.latchedWith 0x01#7 } := by
  rw [offerAttention_room (by simpa using hnone) hroom]
  rfl

theorem offerAttention_port {u : State} (h : u.port = s.port) (tag : Tag) (reason : AttentionReason) :
    (u.offerAttention tag reason).port = (s.offerAttention tag reason).port := by
  unfold State.offerAttention
  rw [h]
  split
  · simp [State.modPort, h]
  · split <;> simp [State.modPort, State.raise, h]

theorem offerAttention_flow (tag tag' : Tag) (reason : AttentionReason) :
    (s.offerAttention tag reason).flow tag' = s.flow tag' := flow_of_store (by simp) tag'

/-- A stale discard (R162). -/
theorem staleDiscard_spec (hf : s.flow f.tag = some f) :
    (s.staleDiscard f).flow f.tag = some { f with outstanding := 0, deferred := none } ∧
      (s.staleDiscard f).sweep = { s.sweep with
        staleDiscards := bump s.sweep.staleDiscards 1
        staleBytes := bump s.sweep.staleBytes f.owedBytes } ∧
      (s.staleDiscard f).port = (s.offerAttention f.tag .stale).port ∧
      (s.staleDiscard f).time = s.time ∧ SamePlan s.planner (s.staleDiscard f).planner ∧
      ∃ r, (s.staleDiscard f).health.ring.getLast? = some r ∧ r.kind = .staleDiscard ∧
        r.key = f.modemKey ∧ r.tag = f.tag := by
  unfold State.staleDiscard
  extract_lets u v
  have hport : v.port = s.port := by simp [v, u]
  refine ⟨?_, ?_, ?_, by simp [v, u], ?_, ?_⟩
  · rw [appendFault_flow, offerAttention_flow]
    exact flow_updFlow_same hf _
  · simp only [appendFault_frame, offerAttention_frame, v, u, State.modSweep, updFlow_frame]
    rfl
  · simp only [appendFault_frame]
    exact offerAttention_port hport _ _
  · have hplan : SamePlan s.planner v.planner := updFlow_plan s f.tag _
    simpa only [appendFault_frame, offerAttention_frame] using hplan
  · obtain ⟨r, hlast, hkind, hkey, htag, -⟩ :=
      appendFault_last (v.offerAttention f.tag .stale) .staleDiscard f.modemKey f.tag
    exact ⟨r, hlast, hkind, hkey, htag⟩

/-- An idle expiry (R163). -/
theorem idleExpiry_spec (hf : s.flow f.tag = some f) :
    (s.idleExpiry f).flow f.tag = some { f with state := .dormant, outstanding := 0, deferred := none } ∧
      (s.idleExpiry f).sweep = { s.sweep with
        idleExpiries := bump s.sweep.idleExpiries 1
        idleBytes := bump s.sweep.idleBytes f.owedBytes } ∧
      (s.idleExpiry f).port = (s.offerAttention f.tag .idleExpired).port ∧
      (s.idleExpiry f).health = s.health ∧ SamePlan s.planner (s.idleExpiry f).planner := by
  unfold State.idleExpiry
  extract_lets u v
  have hport : v.port = s.port := by simp [v, u]
  refine ⟨?_, ?_, ?_, by simp [v, u], ?_⟩
  · rw [offerAttention_flow]
    exact flow_updFlow_same hf _
  · simp only [offerAttention_frame, v, u, State.modSweep, updFlow_frame]
    rfl
  · exact offerAttention_port hport _ _
  · have hplan : SamePlan s.planner v.planner := updFlow_plan s f.tag _
    simpa only [offerAttention_frame] using hplan

end

theorem completeStep_flow {s : State} {st : SweepStep} {f : Flow} (hstep : s.sweep.step = some st)
    (hat : tabGet s.store.flows s.sweep.cursor = some f) (hbid : f.cadence = none)
    (hactive : f.state = .active) : s.completeStep
      = ((s.updFlow f.tag fun _ => f.refresh s.time.beat).sweepTests (f.refresh s.time.beat)).stepped := by
  have hisBid : f.isBid = true ∧ f.state = .active := ⟨Option.isNone_iff_eq_none.mpr hbid, hactive⟩
  simp only [State.completeStep, hstep, State.cursorFlow, hat, State.sweepFlow, if_pos hisBid]
  rfl

/-- Settles O48: the two tests on the refreshed record, and the end of the step. -/
theorem sweepFindsStaleAndIdleFlows : Obligations.SweepFindsStaleAndIdleFlows := by
  intro s st f hstep hat hf hbid hactive hnone hroom g stale span idle bytes
  set u := s.updFlow f.tag fun _ => f.refresh s.time.beat with hu
  set w := u.sweepTests g with hw
  have hexec : exec .sweepStepCompletion s = .next w.stepped :=
    congrArg Host.Outcome.next (completeStep_flow hstep hat hbid hactive)
  have hflow : u.flow g.tag = some g := flow_updFlow_same hf _
  have hport : u.port = s.port := by simp [u]
  have hhealth : u.health = s.health := by simp [u]
  have hsweep : u.sweep = s.sweep := by simp [u]
  have htime : u.time = s.time := by simp [u]
  have hinForce : u.inForce = s.inForce := by simp [u, State.inForce]
  have hnone' : ∀ e ∈ u.port.attention, e.tag ≠ g.tag := by rwa [hport]
  have hroom' : u.port.attention.length < 64 := by rwa [hport]
  have hstale : g.stale u.time.beat u.inForce.staleLimit.toNat = true ↔ stale := by
    rw [htime, hinForce]
    exact stale_iff
  have hidle : g.idleOut u.time.beat = true ↔ idle := by
    rw [htime]
    exact idleOut_iff
  -- What holds of every outcome of the tests: the step's end, and the parts it leaves.
  have hends (h : w.sweep.state = s.sweep.state ∧ w.sweep.steps = s.sweep.steps ∧
      w.sweep.cursor = s.sweep.cursor ∧ SamePlan s.planner w.planner) :
      w.stepped.sweep.steps = bump s.sweep.steps 1 ∧
        w.stepped.sweep.cursor = (if s.sweep.cursor < 8191 then s.sweep.cursor + 1 else 0) ∧
        (s.sweep.state = .running → s.planner.building = none → w.stepped.sweep.state = .running ∧
          w.stepped.sweep.step
            = some ⟨(tabGet w.stepped.store.flows w.stepped.sweep.cursor).map (·.tag)⟩) ∧
        (s.sweep.state = .running → s.planner.building ≠ none →
          w.stepped.sweep.state = .suspended ∧ w.stepped.sweep.step = none) := by
    obtain ⟨hstate, hsteps, hcursor, hplan⟩ := h
    refine ⟨?_, ?_, fun hrun hfree => stepped_running (hstate.trans hrun)
      (building_none_of_plan hplan hfree), fun hrun hbuild => stepped_suspended (hstate.trans hrun) ?_⟩
    · rw [stepped_sweep, hsteps]
    · rw [stepped_sweep, hcursor]
    · intro hfree
      have hsame := hplan.building
      rw [hfree] at hsame
      exact hbuild (Option.map_eq_none_iff.mp hsame.symm)
  have hflowOf : w.stepped.flow f.tag = w.flow f.tag :=
    flow_of_store (by rw [stepped_beside w]) f.tag
  have hportOf : w.stepped.port = w.port := by rw [stepped_beside w]
  have hhealthOf : w.stepped.health = w.health := by rw [stepped_beside w]
  have hcountsOf := stepped_sweep w
  have huplan : SamePlan s.planner u.planner := updFlow_plan s f.tag _
  by_cases hs : stale
  · by_cases hi : idle
    · obtain ⟨hflow1, hsweep1, hport1, htime1, hplan1, -⟩ := staleDiscard_spec hflow
      set v := u.staleDiscard g with hv
      obtain ⟨hflow2, hsweep2, hport2, -, hplan2⟩ :=
        idleExpiry_spec (f := { g with outstanding := 0, deferred := none }) hflow1
      have hboth : w = v.idleExpiry { g with outstanding := 0, deferred := none } := by
        rw [hw, State.sweepTests]
        dsimp only
        rw [if_pos (hstale.mpr hs), if_pos ?_]
        exact hidle.mpr hi
      have hqueued : v.port.attention.any (·.tag == g.tag) = true := by
        rw [hport1, offered_port hnone' hroom']
        simp
      rw [← hboth] at hflow2 hsweep2 hport2 hplan2
      rw [offerAttention_queued hqueued] at hport2
      obtain ⟨hsteps, hcursor, hrun, hsuspend⟩ := hends ⟨by rw [hsweep2, hsweep1, hsweep],
        by rw [hsweep2, hsweep1, hsweep], by rw [hsweep2, hsweep1, hsweep],
        huplan.trans (hplan1.trans hplan2)⟩
      refine ⟨_, hexec, hsteps, hcursor, hrun, hsuspend, fun h => absurd hs h, fun _ h => absurd hi h,
        fun h => absurd hs h, fun _ _ => ⟨hflowOf.trans hflow2, ?_, ?_, ?_, ?_, ?_, ?_⟩⟩
      · rw [hcountsOf, hsweep2, hsweep1, hsweep]
      · rw [hcountsOf, hsweep2, hsweep1, hsweep]
        rfl
      · rw [hcountsOf, hsweep2, hsweep1, hsweep]
      · rw [hcountsOf, hsweep2, hsweep1, hsweep]
        rfl
      · rw [hportOf, hport2]
        change v.port.attention = _
        rw [hport1, offered_port hnone' hroom', hport]
      · rw [hportOf, hport2]
        change bump v.port.attDuplicates 1 = _
        rw [hport1, offered_port hnone' hroom', hport]
    · obtain ⟨hflow1, hsweep1, hport1, htime1, hplan1, hrecord⟩ := staleDiscard_spec hflow
      have hone : w = u.staleDiscard g := by
        rw [hw, State.sweepTests]
        dsimp only
        rw [if_pos (hstale.mpr hs), if_neg ?_]
        exact fun h => hi (hidle.mp h)
      rw [← hone] at hflow1 hsweep1 hport1 hplan1 hrecord
      obtain ⟨hsteps, hcursor, hrun, hsuspend⟩ := hends ⟨by rw [hsweep1, hsweep],
        by rw [hsweep1, hsweep], by rw [hsweep1, hsweep], huplan.trans hplan1⟩
      refine ⟨_, hexec, hsteps, hcursor, hrun, hsuspend, fun h => absurd hs h,
        fun _ _ => ⟨hflowOf.trans hflow1, ?_, ?_, ?_, by rw [hhealthOf]; exact hrecord⟩,
        fun h => absurd hs h, fun _ h => absurd h hi⟩
      · rw [hcountsOf, hsweep1, hsweep]
      · rw [hcountsOf, hsweep1, hsweep]
        rfl
      · rw [hportOf, hport1, offered_port hnone' hroom', hport]
  · by_cases hi : idle
    · obtain ⟨hflow1, hsweep1, hport1, hhealth1, hplan1⟩ := idleExpiry_spec hflow
      have hone : w = u.idleExpiry g := by
        rw [hw, State.sweepTests]
        dsimp only
        rw [if_neg fun h => hs (hstale.mp h), if_pos (hidle.mpr hi)]
      rw [← hone] at hflow1 hsweep1 hport1 hhealth1 hplan1
      obtain ⟨hsteps, hcursor, hrun, hsuspend⟩ := hends ⟨by rw [hsweep1, hsweep],
        by rw [hsweep1, hsweep], by rw [hsweep1, hsweep], huplan.trans hplan1⟩
      refine ⟨_, hexec, hsteps, hcursor, hrun, hsuspend, fun _ h => absurd hi h, fun h => absurd h hs,
        fun _ _ => ⟨hflowOf.trans hflow1, ?_, ?_, ?_, hhealthOf.trans (hhealth1.trans hhealth)⟩,
        fun h => absurd h hs⟩
      · rw [hcountsOf, hsweep1, hsweep]
      · rw [hcountsOf, hsweep1, hsweep]
        rfl
      · rw [hportOf, hport1, offered_port hnone' hroom', hport]
    · have hfresh : w = u := by
        rw [hw, State.sweepTests]
        dsimp only
        rw [if_neg fun h => hs (hstale.mp h), if_neg fun h => hi (hidle.mp h)]
      obtain ⟨hsteps, hcursor, hrun, hsuspend⟩ := hends
        (by rw [hfresh, hsweep]; exact ⟨rfl, rfl, rfl, huplan⟩)
      refine ⟨_, hexec, hsteps, hcursor, hrun, hsuspend,
        fun _ _ => ⟨hflowOf.trans (hfresh ▸ hflow), ?_, ?_⟩,
        fun h => absurd h hs, fun _ h => absurd h hi, fun h => absurd h hs⟩
      · rw [hportOf, hfresh, hport]
      · rw [hhealthOf, hfresh, hhealth]

end Sys2Proof.Machine
end

section
/-! SUPPORT. What the withdrawal of turns leaves of the maps, and what it does to one turn's flow or tag
(5.5, 6.3). -/

namespace Sys2Proof.Machine

-- One proof after another: side by side, as many as stand here need more threads than the check gives.
set_option Elab.async false

/-! ### What withdrawal leaves (R48, R90, R91) -/

/-- The plan but for ready lists and visits, and the map counters, are the same. -/
structure KeepsPlan (s t : State) : Prop where
  maps : ∀ c, (t.chans.get c).maps = (s.chans.get c).maps
  plan : SamePlan s.planner t.planner

theorem KeepsPlan.refl (s : State) : KeepsPlan s s := ⟨fun _ => rfl, .refl _⟩

theorem KeepsPlan.trans {s t u : State} (h : KeepsPlan s t) (h' : KeepsPlan t u) : KeepsPlan s u :=
  ⟨fun c => (h'.maps c).trans (h.maps c), h.plan.trans h'.plan⟩

theorem KeepsPlan.of_plan {s t : State} (hchans : ∀ c, (t.chans.get c).maps = (s.chans.get c).maps)
    (h : SamePlan s.planner t.planner) : KeepsPlan s t := ⟨hchans, h⟩

theorem KeepsPlan.of_eq {s t : State} (hchans : t.chans = s.chans) (h : t.planner = s.planner) :
    KeepsPlan s t := ⟨fun c => by rw [hchans], .of_eq h⟩

theorem updFlow_keepsPlan (s : State) (tag : Tag) (g : Flow → Flow) :
    KeepsPlan s (s.updFlow tag g) := .of_plan (fun c => by simp) (updFlow_plan s tag g)

theorem modBids_keepsPlan (s : State) (c : Chan) (g : BidCounters → BidCounters) :
    KeepsPlan s (s.modBids c g) := .of_plan (modBids_move s c g).maps (.of_eq rfl)

theorem modCadence_keepsPlan (s : State) (c : Chan) (g : CadenceCounters → CadenceCounters) :
    KeepsPlan s (s.modCadence c g) := by
  refine .of_plan (fun c' => ?_) (.of_eq rfl)
  by_cases hc : c = c'
  · subst hc
    simp [State.modCadence, State.modChan]
  · simp [State.modCadence, State.modChan, quad_get_set_other _ _ _ _ hc]

theorem addBid_keepsPlan (s : State) (tag : Tag) (b : Nat) (c : Chan) :
    KeepsPlan s (s.addBid tag b c) := by
  refine .of_plan (addBid_move s tag b c).maps ?_
  unfold State.addBid
  split
  · exact .refl _
  · have hplan := updFlow_plan s tag fun f => { f with outstanding := saturate (f.outstanding + b) }
    dsimp only
    split
    · simpa using hplan
    · exact hplan

theorem applyDeferred_keepsPlan (s : State) (tag : Tag) : KeepsPlan s (s.applyDeferred tag) := by
  unfold State.applyDeferred
  split
  · exact .refl s
  · split
    · exact .refl s
    · exact ((updFlow_keepsPlan s tag _).trans (addBid_keepsPlan _ tag _ _)).trans
        (modBids_keepsPlan _ _ _)

theorem deferredAtZero_keepsPlan (s : State) (tag : Tag) : KeepsPlan s (s.deferredAtZero tag) := by
  unfold State.deferredAtZero
  split
  · exact .refl s
  · split
    · exact applyDeferred_keepsPlan s tag
    · exact .refl s

theorem dropPending_keepsPlan (s : State) (t : TurnKey) : KeepsPlan s (s.dropPending t) :=
  .of_eq rfl rfl

theorem unpend_keepsPlan (s : State) (t : TurnKey) (tag : Tag) : KeepsPlan s (s.unpend t tag) := by
  unfold State.unpend
  split
  · exact ((dropPending_keepsPlan s t).trans (updFlow_keepsPlan _ tag _)).trans
      (deferredAtZero_keepsPlan _ tag)
  · exact .refl s

theorem withdrawTake_keepsPlan (s : State) (t : TurnKey) (fate : Fate) :
    KeepsPlan s (s.withdrawTake t fate) := .of_eq (by simp) (by simp)

theorem giveBack_keepsPlan (s : State) (tag : Tag) (b : Nat) : KeepsPlan s (s.giveBack tag b) := by
  have hqueued : KeepsPlan s (s.queueGive tag b) := .of_eq (by simp) (by simp)
  unfold State.giveBack
  split
  · exact .refl s
  · split
    · exact hqueued.trans (.of_eq rfl rfl)
    · refine hqueued.trans ?_
      unfold State.addHeard
      split
      · exact .refl _
      · exact (updFlow_keepsPlan _ tag _).trans (.of_eq rfl rfl)

theorem returnBytes_keepsPlan (s : State) (t : TurnKey) (f : Flow) (e : Entry) :
    KeepsPlan s (s.returnBytes t f e) := by
  unfold State.returnBytes
  split
  · split
    · exact .of_eq rfl rfl
    · exact (updFlow_keepsPlan s e.tag _).trans (modBids_keepsPlan _ t.chan _)
  · exact (withdrawTake_keepsPlan s t .queued).trans (updFlow_keepsPlan _ e.tag _)
  · exact withdrawTake_keepsPlan s t .inTx
  · exact giveBack_keepsPlan s e.tag e.bytes
  · exact .refl s

/-- The maps being built or sealed, and the map counters, are the same. -/
structure KeepsMaps (s t : State) : Prop where
  maps : ∀ c, (t.chans.get c).maps = (s.chans.get c).maps
  building : t.planner.building.map (·.map) = s.planner.building.map (·.map)
  sealing : t.planner.sealing = s.planner.sealing

theorem KeepsMaps.refl (s : State) : KeepsMaps s s := ⟨fun _ => rfl, rfl, rfl⟩

theorem KeepsMaps.trans {s t u : State} (h : KeepsMaps s t) (h' : KeepsMaps t u) : KeepsMaps s u :=
  ⟨fun c => (h'.maps c).trans (h.maps c), h'.building.trans h.building, h'.sealing.trans h.sealing⟩

theorem KeepsPlan.dropsHold {s t : State} (h : KeepsPlan s t) (turn : TurnKey) :
    KeepsMaps s (t.dropLocalHold turn) := ⟨h.maps, h.plan.building, h.plan.sealing⟩

theorem KeepsMaps.keepsPlan {s t u : State} (h : KeepsMaps s t) (h' : KeepsPlan t u) : KeepsMaps s u :=
  h.trans ⟨h'.maps, h'.plan.building, h'.plan.sealing⟩

theorem withdrawData_keepsMaps (s : State) (t : TurnKey) (e : Entry) :
    KeepsMaps s (s.withdrawData t e) := by
  have hback := (unpend_keepsPlan s t e.tag).trans (updFlow_keepsPlan _ e.tag (·.refund e.bytes))
  unfold State.withdrawData
  dsimp only
  split
  · exact hback.dropsHold t
  · exact (hback.trans (returnBytes_keepsPlan _ t _ e)).dropsHold t

theorem withdrawCadence_keepsMaps (s : State) (t : TurnKey) (e : Entry) (late : Bool) :
    KeepsMaps s (s.withdrawCadence t e late) := by
  have hback : KeepsPlan s
      (if (s.pendingEntry t).isSome then (s.dropPending t).lowerPending e.tag else s) := by
    split
    · exact (dropPending_keepsPlan s t).trans (updFlow_keepsPlan _ e.tag _)
    · exact .refl s
  have htake := (hback.dropsHold t).keepsPlan (withdrawTake_keepsPlan _ t e.fate)
  unfold State.withdrawCadence
  dsimp only
  split
  · exact htake.keepsPlan (modCadence_keepsPlan _ t.chan _)
  · exact htake.keepsPlan (updFlow_keepsPlan _ e.tag _)

theorem withdrawOrphan_keepsMaps (s : State) (t : TurnKey) (e : Entry) :
    KeepsMaps s (s.withdrawOrphan t e) := by
  have hback : KeepsPlan s
      (if (s.pendingEntry t).isSome then (s.dropPending t).orphanGone e.tag else s) := by
    split
    · exact .of_eq (by simp) (by simp)
    · exact .refl s
  exact (hback.dropsHold t).keepsPlan (withdrawTake_keepsPlan _ t e.fate)

theorem withdrawTurn_keepsMaps (s : State) (m : MapName) (e : Entry) (late : Bool) :
    KeepsMaps s (s.withdrawTurn m e late) := by
  unfold State.withdrawTurn
  split
  · split
    · exact withdrawOrphan_keepsMaps s _ e
    · exact withdrawData_keepsMaps s _ e
  · split
    · exact withdrawOrphan_keepsMaps s _ e
    · exact withdrawCadence_keepsMaps s _ e late
  · exact .refl s
  · exact .refl s

theorem withdrawAll_keepsMaps (s : State) (m : MapName) (late : Bool) (es : List Entry) :
    KeepsMaps s (s.withdrawAll m late es) := by
  induction es generalizing s with
  | nil => exact .refl s
  | cons e es ih => exact (withdrawTurn_keepsMaps s m e late).trans (ih _)

/-! ### One turn withdrawn -/

section
variable {s : State} {m : MapName} {e : Entry} {f : Flow}

theorem withdrawTurn_data (hkind : e.kind = .data) (horphan : e.orphan = false) (late : Bool) :
    s.withdrawTurn m e late = s.withdrawData (m.turn e.start) e := by
  simp only [State.withdrawTurn, hkind, horphan, Bool.false_eq_true, if_false]

theorem withdrawTurn_cadence (hkind : e.kind = .cadence) (horphan : e.orphan = false) (late : Bool) :
    s.withdrawTurn m e late = s.withdrawCadence (m.turn e.start) e late := by
  simp only [State.withdrawTurn, hkind, horphan, Bool.false_eq_true, if_false]

theorem withdrawTurn_orphan (hkind : e.kind = .data ∨ e.kind = .cadence) (horphan : e.orphan = true)
    (late : Bool) : s.withdrawTurn m e late = s.withdrawOrphan (m.turn e.start) e := by
  rcases hkind with hkind | hkind <;> simp only [State.withdrawTurn, hkind, horphan, if_true]

theorem withdrawTake_queue (t : TurnKey) (fate : Fate) : (s.withdrawTake t fate).link.queue
    = if fate = .queued then s.link.queue.filter (fun q => !(q.turn == some t)) else s.link.queue := by
  cases fate <;> rfl

theorem withdrawTake_inTx (t : TurnKey) (fate : Fate) : (s.withdrawTake t fate).link.inTx
    = if fate = .inTx then s.link.inTx.map fun y =>
        if y.own.turn = some t then { y with withdrawn := true } else y
      else s.link.inTx := by
  cases fate <;> rfl

theorem withdrawTake_counters (t : TurnKey) (fate : Fate) :
    (s.withdrawTake t fate).link.counters = s.link.counters := by
  cases fate <;> rfl

/-- A data turn leaves the pending list and the local holds. -/
theorem withdrawData_lists {t : TurnKey} (hp : (s.pendingEntry t).isSome = true)
    (hf : s.flow e.tag = some f) (hnone : f.deferred = none) :
    (s.withdrawData t e).tracker.list = s.tracker.list.filter (fun q => !q.isTurn t) ∧
      (s.withdrawData t e).planner.localHolds = s.planner.localHolds.filter (·.turn ≠ t) := by
  obtain ⟨-, -, -, -, -, -, hlist⟩ := unturned_frame s t e.tag e.bytes
  have hplan := unturned_plan s t e.tag e.bytes
  rw [withdrawData_eq hp hf hnone]
  set v := s.unturned t e.tag e.bytes with hv
  refine ⟨?_, ?_⟩
  · simp only [dropLocalHold_frame, returnBytes_frame]
    exact hlist
  · change (v.returnBytes t _ e).planner.localHolds.filter _ = _
    rw [(returnBytes_keepsPlan v t _ e).plan.localHolds, hplan.localHolds]

/-- A cadence turn has left the pending list, the local holds and the transmit queue. -/
def State.cadenceGone (s : State) (t : TurnKey) (e : Entry) : State :=
  (((s.dropPending t).lowerPending e.tag).dropLocalHold t).withdrawTake t e.fate

theorem cadenceGone_flow {t : TurnKey} (hf : s.flow e.tag = some f) : (s.cadenceGone t e).flow e.tag
    = some { f with pendingCount := f.pendingCount - 1 } :=
  (flow_of_store (s := (s.dropPending t).lowerPending e.tag) (by simp [State.cadenceGone]) e.tag).trans
    (lowered_flow hf)

theorem cadenceGone_chans (s : State) (t : TurnKey) (e : Entry) :
    (s.cadenceGone t e).chans = s.chans := by
  simp [State.cadenceGone, State.lowerPending]

theorem withdrawCadence_eq {t : TurnKey} (hp : (s.pendingEntry t).isSome = true) (late : Bool) :
    s.withdrawCadence t e late = if late then
        (s.cadenceGone t e).modCadence t.chan fun k => { k with missed := bump k.missed 1 }
      else (s.cadenceGone t e).updFlow e.tag (·.owedAgain) := by
  simp only [State.withdrawCadence, hp, if_true]
  rfl

theorem withdrawCadence_lists {t : TurnKey} (hp : (s.pendingEntry t).isSome = true) (late : Bool) :
    (s.withdrawCadence t e late).tracker.list = s.tracker.list.filter (fun q => !q.isTurn t) ∧
      (s.withdrawCadence t e late).planner.localHolds = s.planner.localHolds.filter (·.turn ≠ t) ∧
      (s.withdrawCadence t e late).link
        = (((s.dropPending t).lowerPending e.tag).withdrawTake t e.fate).link := by
  rw [withdrawCadence_eq hp]
  set u := s.cadenceGone t e with hu
  have hplan := updFlow_plan (s.dropPending t) e.tag fun f => { f with pendingCount := f.pendingCount - 1 }
  have hlist : u.tracker.list = s.tracker.list.filter (fun q => !q.isTurn t) := by
    simp [u, State.cadenceGone, State.lowerPending, State.dropPending, State.modTracker]
  have hholds : u.planner.localHolds = s.planner.localHolds.filter (·.turn ≠ t) := by
    simp only [u, State.cadenceGone, withdrawTake_frame]
    change ((s.dropPending t).lowerPending e.tag).planner.localHolds.filter _ = _
    rw [State.lowerPending, hplan.localHolds]
    rfl
  have hlink : u.link = (((s.dropPending t).lowerPending e.tag).withdrawTake t e.fate).link := by
    cases hfate : e.fate <;> simp only [u, State.cadenceGone, hfate] <;> rfl
  split
  · exact ⟨hlist, hholds, hlink⟩
  · refine ⟨?_, (updFlow_plan u e.tag _).localHolds.trans hholds, ?_⟩
    · simpa using hlist
    · simpa using hlink

theorem withdrawCadence_owed {t : TurnKey} (hp : (s.pendingEntry t).isSome = true)
    (hf : s.flow e.tag = some f) : (s.withdrawCadence t e false).flow e.tag
      = some (Flow.owedAgain { f with pendingCount := f.pendingCount - 1 }) ∧
      (s.withdrawCadence t e false).chans = s.chans := by
  rw [withdrawCadence_eq hp, if_neg Bool.false_ne_true]
  refine ⟨flow_updFlow_same (cadenceGone_flow hf) _, ?_⟩
  simp only [updFlow_frame, cadenceGone_chans]

theorem withdrawCadence_missed {t : TurnKey} (hp : (s.pendingEntry t).isSome = true)
    (hf : s.flow e.tag = some f) : (s.withdrawCadence t e true).flow e.tag
      = some { f with pendingCount := f.pendingCount - 1 } ∧
      ((s.withdrawCadence t e true).chans.get t.chan).cadence
        = { (s.chans.get t.chan).cadence with
            missed := bump (s.chans.get t.chan).cadence.missed 1 } := by
  rw [withdrawCadence_eq hp, if_pos rfl]
  refine ⟨cadenceGone_flow hf, ?_⟩
  rw [(modCadence_get _ t.chan t.chan _).2.2, if_pos rfl, cadenceGone_chans]

/-- An orphan turn is withdrawn: its tag has one orphan fewer, and nothing is given back (R48). -/
theorem withdrawOrphan_spec {t : TurnKey} {n : Nat} (hp : (s.pendingEntry t).isSome = true)
    (hstate : s.tagState e.tag = some (.draining n)) (hwf : tabWf s.store.tagMap = true) :
    let u := s.withdrawOrphan t e
    u.tracker.list = s.tracker.list.filter (fun q => !q.isTurn t) ∧
      u.planner.localHolds = s.planner.localHolds.filter (·.turn ≠ t) ∧
      u.tagState e.tag = (if n ≤ 1 then none else some (.draining (n - 1))) ∧
      u.store.flows = s.store.flows ∧ u.store.modems = s.store.modems ∧ u.chans = s.chans ∧
      u.sweep = s.sweep ∧ u.link.counters = s.link.counters ∧
      u.link.queue = if e.fate = .queued then
          s.link.queue.filter (fun q => !(q.turn == some t))
        else s.link.queue := by
  obtain ⟨htag, hflows, hmodems⟩ := orphanGone_draining (s := s.dropPending t) hstate hwf
  intro u
  have hu : u = (((s.dropPending t).orphanGone e.tag).dropLocalHold t).withdrawTake t e.fate := by
    simp only [u, State.withdrawOrphan, hp, if_true]
  set v := (s.dropPending t).orphanGone e.tag with hv
  have hlink : v.link = s.link := by simp [v]
  have hstore : u.store = v.store := by simp [hu]
  refine ⟨?_, ?_, ?_, ?_, ?_, ?_, ?_, ?_, ?_⟩
  · simp [hu, hv, State.dropPending, State.modTracker]
  · have hplanner : v.planner = s.planner := by simp [v]
    simp only [hu, withdrawTake_frame]
    change v.planner.localHolds.filter _ = _
    rw [hplanner]
  · rw [State.tagState, hstore]
    exact htag
  · rw [hstore]
    exact hflows
  · rw [hstore]
    exact hmodems
  · simp [hu, hv]
  · simp [hu, hv]
  · rw [hu, withdrawTake_counters]
    exact congrArg Link.counters hlink
  · rw [hu, withdrawTake_queue]
    change (if e.fate = .queued then v.link.queue.filter _ else v.link.queue) = _
    rw [hlink]

end

end Sys2Proof.Machine
end

section
/-! SUPPORT. Deliver deadlines and period-starts (5.4, 5.5). -/

namespace Sys2Proof.Machine

-- One proof after another: side by side, as many as stand here need more threads than the check gives.
set_option Elab.async false

/-! ### Sealing at the deadline (R86) -/

theorem order_of_le_one {α : Type} {l : List α} (h : l.length ≤ 1) (n : Nat) (s : State) :
    State.order n l s = (l, s) := by
  match n, l with
  | 0, _ => rfl
  | _ + 1, [] => rfl
  | _ + 1, [_] => rfl

/-- The map without the turns that wait for their hold. -/
def TurnMap.confirmedPart (m : TurnMap) : TurnMap :=
  { m with entries := m.entries.filter (!·.unconfirmed) }

theorem sealAtDeadline_room {s : State} (m : TurnMap) (hroom : s.mapPort.queue.length < 4) :
    let t := s.sealAtDeadline m
    t.time = s.time ∧ t.planner.building.map (·.map) = s.planner.building.map (·.map) ∧
      t.planner.sealing = s.planner.sealing ∧
      t.mapPort.queue = s.mapPort.queue ++ [m.confirmedPart] ∧
      (t.chans.get m.name.chan).maps = { (s.chans.get m.name.chan).maps with
        handed := bump (s.chans.get m.name.chan).maps.handed 1 } ∧
      t.port = s.port := by
  intro t
  set o := State.order m.entries.length (m.entries.filter (·.unconfirmed)) s with ho
  set u := o.2.withdrawAll m.name false o.1 with hu
  have hordered : KeepsPlan s o.2 := .of_eq (by simp [o]) (by simp [o])
  have hkeeps : KeepsMaps s u :=
    ((KeepsMaps.refl s).keepsPlan hordered).trans (withdrawAll_keepsMaps o.2 m.name false o.1)
  have hmapPort : u.mapPort = s.mapPort := by simp [u, o]
  have ht : t = u.handOver m.confirmedPart := rfl
  rw [handOver_room _ (by rw [hmapPort]; exact hroom)] at ht
  rw [ht]
  refine ⟨by simp [u, o], hkeeps.building, hkeeps.sealing, ?_, ?_, by simp [u, o]⟩
  · change u.mapPort.queue ++ _ = _
    rw [hmapPort]
  · change ((u.chans.set m.name.chan _).get m.name.chan).maps = _
    rw [quad_get_set_same]
    exact congrArg (fun k : MapCounters => { k with handed := bump k.handed 1 }) (hkeeps.maps m.name.chan)

theorem sealAtDeadline_one {m : TurnMap} {e : Entry} (h : m.entries.filter (·.unconfirmed) = [e])
    (s : State) : s.sealAtDeadline m = (s.withdrawTurn m.name e false).handOver m.confirmedPart := by
  unfold State.sealAtDeadline
  rw [h, order_of_le_one (by simp)]
  rfl

theorem sealAtDeadline_settled {m : TurnMap} (h : ∀ e ∈ m.entries, e.hold = false) (s : State) :
    s.sealAtDeadline m = s.handOver m := by
  have hnone : ∀ e ∈ m.entries, e.unconfirmed = false := fun e he => by simp [Entry.unconfirmed, h e he]
  have hfilter : m.entries.filter (·.unconfirmed) = [] :=
    List.filter_eq_nil_iff.mpr fun e he => by simp [hnone e he]
  have hall : m.entries.filter (!·.unconfirmed) = m.entries :=
    List.filter_eq_self.mpr fun e he => by simp [hnone e he]
  unfold State.sealAtDeadline
  rw [hfilter, hall, order_of_le_one (by simp)]
  rfl

/-! ### The bytes of one data turn, by the fate of its TAKE (R90) -/

section
variable {s : State} {t : TurnKey} {e : Entry} {f : Flow}

theorem withdrawTake_link {u : State} (h : u.link = s.link) (t : TurnKey) (fate : Fate) :
    (u.withdrawTake t fate).link = (s.withdrawTake t fate).link := by
  cases fate <;> simp [State.withdrawTake, State.removeQueued, State.markWithdrawn, State.modLink, h]

/-- A TAKE that waits or is in transmission is withdrawn, and with a waiting one the bytes leave
tentative. -/
theorem withdrawData_taken (hp : (s.pendingEntry t).isSome = true) (hf : s.flow e.tag = some f)
    (hnone : f.deferred = none) (hfate : e.fate = .queued ∨ e.fate = .inTx) :
    (s.withdrawData t e).link = (s.withdrawTake t e.fate).link ∧
      (s.withdrawData t e).flow e.tag = some { f with
        pendingCount := f.pendingCount - 1
        credit := if f.rate = 0 then f.credit else min f.ceiling (f.credit + e.bytes)
        tentative := if e.fate = .queued then f.tentative - e.bytes else f.tentative } := by
  have hflow := unturned_flow (t := t) hf e.bytes
  obtain ⟨-, hlink, -⟩ := unturned_frame s t e.tag e.bytes
  rw [withdrawData_eq hp hf hnone]
  set v := s.unturned t e.tag e.bytes with hv
  have htake := withdrawTake_link hlink t e.fate
  have hstore : (v.withdrawTake t e.fate).store = v.store := by simp
  rcases hfate with hfate | hfate
  · rw [hfate] at htake hstore
    simp only [State.returnBytes, hfate, if_true]
    refine ⟨?_, ?_⟩
    · simpa using htake
    · exact flow_updFlow_same ((flow_of_store hstore e.tag).trans hflow) _
  · rw [hfate] at htake hstore
    simp only [State.returnBytes, hfate]
    exact ⟨htake, (flow_of_store hstore e.tag).trans hflow⟩

end

theorem pendingEntry_countedTo (s : State) (u : Tick) (t : TurnKey) : (s.countedTo u).pendingEntry t
    = (s.pendingEntry t).map (·.endedBy s.time.nodeTime (u - s.time.nodeTime).toNat) := List.find?_map

theorem pendingEntry_isSome_countedTo {s : State} {t : TurnKey} {p : PendingEntry}
    (h : s.pendingEntry t = some p) (u : Tick) : ((s.countedTo u).pendingEntry t).isSome = true := by
  rw [pendingEntry_countedTo, h]
  rfl

/-! ### The deliver deadline (R10, R71) -/

/-- The state at a deliver deadline, its stream moved on. -/
def State.pastDeliver (s : State) (c : Chan) (k : PeriodClock) : State :=
  { s.countedTo (s.deadlineTick ⟨c, k.deadline⟩) with
    chans := s.chans.set c { s.chans.get c with clock := some { k with deadline := k.deadline + 1 } } }

theorem exec_deliverDeadline {s : State} {c : Chan} {k : PeriodClock}
    (hclock : (s.chans.get c).clock = some k) (hdue : s.due (.deliver ⟨c, k.deadline⟩)) :
    exec (.deliverDeadline c k.deadline) s = .next
      (if ⟨c, k.deadline⟩ ∈ s.planner.requests then
        (((s.pastDeliver c k).modPlanner fun p =>
          { p with requests := p.requests.filter (· ≠ ⟨c, k.deadline⟩) }).missMap c).resumeSweep
      else (s.pastDeliver c k).deadlineOfMap ⟨c, k.deadline⟩) := by
  refine (exec_due (d := .deliver ⟨c, k.deadline⟩) rfl hdue).trans (congrArg Host.Outcome.next ?_)
  change (s.countedTo _).fallDeliver ⟨c, k.deadline⟩ = _
  unfold State.fallDeliver
  rw [modClock_eq (s := s.countedTo _) hclock]
  simp only [List.contains_iff_mem]
  rfl

theorem exec_deliverDeadline_left {s : State} {c : Chan} {k : PeriodClock}
    (hclock : (s.chans.get c).clock = some k) (hdue : s.due (.deliver ⟨c, k.deadline⟩))
    (h : (⟨c, k.deadline⟩ : MapName) ∉ s.planner.requests) :
    exec (.deliverDeadline c k.deadline) s
      = .next ((s.pastDeliver c k).deadlineOfMap ⟨c, k.deadline⟩) :=
  (exec_deliverDeadline hclock hdue).trans (congrArg Host.Outcome.next (if_neg h))

theorem deadlineOfMap_building {s : State} {b : Build} (hb : s.planner.building = some b) :
    s.deadlineOfMap b.map.name = s.cutBuild b := by
  simp only [State.deadlineOfMap, hb, if_true]

theorem deadlineOfMap_sealing {s : State} {m : MapName} {x : TurnMap} (hb : s.planner.building = none)
    (hx : s.sealingMap m = some x) : s.deadlineOfMap m = (s.dropSealing m).sealAtDeadline x := by
  simp only [State.deadlineOfMap, hb, hx]

theorem deadlineOfMap_none {s : State} {m : MapName}
    (hb : ∀ b, s.planner.building = some b → b.map.name ≠ m) (hx : s.sealingMap m = none) :
    s.deadlineOfMap m = s := by
  unfold State.deadlineOfMap
  split
  · rename_i b hb'
    rw [if_neg (hb b hb'), hx]
  · rw [hx]

theorem sealingMap_name {s : State} {m : MapName} {x : TurnMap} (h : s.sealingMap m = some x) :
    x.name = m := by simpa using List.find?_some h

theorem resumeSweep_cases (s : State) : s.resumeSweep = { s with sweep :=
    if s.sweep.state = .suspended ∧ s.planner.building = none ∧ s.planner.requests = [] then
      { s.sweep with state := .running }
    else s.sweep } := by
  unfold State.resumeSweep
  split <;> rfl

/-- Settles O25: by where the map stands when its deliver deadline falls. -/
theorem deliverDeadlineByBuildState : Obligations.DeliverDeadlineByBuildState := by
  intro s c k hclock hdue m ch now
  set v := s.pastDeliver c k with hv
  have hleft := exec_deliverDeadline_left hclock hdue
  refine ⟨fun hrequest hbuild hseal => ?_, fun hrequest => ?_,
    fun b hrequest hbuild hname hroom => ?_, fun x hrequest hbuild hx => ?_⟩
  · rw [hleft hrequest, deadlineOfMap_none (s := v) hbuild]
    · rfl
    · exact List.find?_eq_none.mpr fun x hx => by simpa using hseal x hx
  · rw [exec_deliverDeadline hclock hdue, if_pos hrequest]
    have hmissed := modMaps_set (s := now.modPlanner fun p => { p with
      requests := p.requests.filter (· ≠ m) }) c ch fun k => { k with missed := bump k.missed 1 }
    rw [State.missMap]
    refine congrArg Host.Outcome.next ((congrArg (fun w => (w.raise .map).resumeSweep) hmissed).trans ?_)
    exact resumeSweep_cases _
  · have hcut : v.deadlineOfMap m = v.cutBuild b := by
      rw [← hname]
      exact deadlineOfMap_building hbuild
    set u := ((v.modMaps c fun k => { k with cut := bump k.cut 1 }).raise .map).freePlanner with hu
    have hfree : u.planner.building = none := by
      rw [hu, freePlanner_eq]
    have hmapPort : u.mapPort = s.mapPort := by simp [u, v, State.pastDeliver, State.countedTo]
    obtain ⟨htime, hbuilding, -, hqueue, hmaps, hport⟩ :=
      sealAtDeadline_room (s := u) { b.map with cut := true } (by rw [hmapPort]; exact hroom)
    have hchan : b.map.name.chan = c := congrArg MapName.chan hname
    have hseal : v.cutBuild b = u.sealAtDeadline { b.map with cut := true } := by
      rw [State.cutBuild, hchan]
    rw [hfree] at hbuilding
    refine ⟨_, (hleft hrequest).trans (congrArg Host.Outcome.next (hcut.trans hseal)), ?_,
      Option.map_eq_none_iff.mp hbuilding, ?_, ?_, ?_⟩
    · rw [htime]
      simp [u, v, State.pastDeliver]
      rfl
    · rw [hqueue, hmapPort]
      rfl
    · have hchans : u.chans = s.chans.set c { ch with maps := { ch.maps with
          cut := bump ch.maps.cut 1 } } := by
        have hcounted := modMaps_set now c ch fun k => { k with cut := bump k.cut 1 }
        rw [hu, freePlanner_eq]
        exact congrArg State.chans hcounted
      have hmaps' := hmaps
      rw [show ({ b.map with cut := true } : TurnMap).name.chan = c from hchan, hchans,
        quad_get_set_same] at hmaps'
      exact hmaps'
    · rw [hport, hu, freePlanner_eq]
      rfl
  · have hname : x.name = m := sealingMap_name hx
    have hchan : x.name.chan = c := congrArg MapName.chan hname
    set u := v.dropSealing m with hu
    have hexec : exec (.deliverDeadline c k.deadline) s = .next (u.sealAtDeadline x) :=
      (hleft hrequest).trans (congrArg Host.Outcome.next (deadlineOfMap_sealing (s := v) hbuild hx))
    have hchans : u.chans.get c = ch := quad_get_set_same _ _ _
    refine ⟨fun hroom => ?_, fun hfull hwindows hno => ?_, fun e f p hroom hone horphan hf htag hnone => ?_,
      fun e p n hroom hone horphan hkind => ?_⟩
    · obtain ⟨htime, -, hsealing, hqueue, hmaps, hport⟩ := sealAtDeadline_room (s := u) x hroom
      rw [hchan, hchans] at hmaps
      exact ⟨_, hexec, htime, hsealing, hqueue, hmaps, hport⟩
    · rw [hexec, sealAtDeadline_settled hno, handOver_full (s := u) x hfull, discardLate_windows u hwindows,
        hchan]
      exact congrArg Host.Outcome.next (congrArg (fun w => (w.raise .map)) (modMaps_set
        (s := now.modPlanner fun p => { p with sealing := p.sealing.filter (·.name ≠ m) }) c ch
        fun k => { k with late := bump k.late 1 }))
    · intro turn hp hkind
      have hp' : (u.pendingEntry turn).isSome = true := pendingEntry_isSome_countedTo hp _
      have hf' : u.flow e.tag = some f := hf
      have hopen : e.unconfirmed = true :=
        (List.mem_filter.mp (hone ▸ List.mem_singleton_self e)).2
      have hfate : e.fate = .queued ∨ e.fate = .inTx := by
        simp only [Entry.unconfirmed, Bool.and_eq_true, Bool.or_eq_true, beq_iff_eq] at hopen
        exact hopen.2
      set w := u.withdrawTurn x.name e false with hw
      have hmapPort : w.mapPort = s.mapPort := by
        simp only [hw, withdrawTurn_frame]
        rfl
      rw [sealAtDeadline_one hone, handOver_room _ (by rw [← hw, hmapPort]; exact hroom)] at hexec
      -- What the one withdrawal does, in both kinds of turn.
      have hturned : w.tracker.list = now.tracker.list.filter (fun q => !q.isTurn turn) ∧
          w.planner.localHolds = s.planner.localHolds.filter (·.turn ≠ turn) ∧
          w.link.queue = (u.withdrawTake turn e.fate).link.queue ∧
          w.link.inTx = (u.withdrawTake turn e.fate).link.inTx := by
        rcases hkind with hdata | hcadence
        · obtain ⟨hlist, hholds⟩ := withdrawData_lists hp' hf' hnone
          obtain ⟨hlink, -⟩ := withdrawData_taken hp' hf' hnone hfate
          rw [hw, withdrawTurn_data hdata horphan, hname]
          exact ⟨hlist, hholds, congrArg Link.queue hlink, congrArg Link.inTx hlink⟩
        · obtain ⟨hlist, hholds, hlink⟩ := withdrawCadence_lists (e := e) hp' false
          have htake := withdrawTake_link (s := u) (u := (u.dropPending turn).lowerPending e.tag)
            (by simp [State.lowerPending]) turn e.fate
          rw [hw, withdrawTurn_cadence hcadence horphan, hname]
          exact ⟨hlist, hholds, congrArg Link.queue (hlink.trans htake),
            congrArg Link.inTx (hlink.trans htake)⟩
      obtain ⟨hlist, hholds, hqueue, hinTx⟩ := hturned
      rw [withdrawTake_queue] at hqueue
      rw [withdrawTake_inTx] at hinTx
      refine ⟨_, hexec, hlist, hholds, fun hqueued => ?_, fun hsending => ?_, fun hdata => ?_,
        fun cad hcadence hcad => ?_⟩
      · rw [if_pos hqueued] at hqueue
        rw [if_neg (by simp [hqueued])] at hinTx
        exact ⟨hqueue, hinTx⟩
      · rw [if_neg (by simp [hsending])] at hqueue
        rw [if_pos hsending] at hinTx
        exact ⟨hqueue, hinTx⟩
      · change w.flow e.tag = _
        rw [hw, withdrawTurn_data hdata horphan, hname]
        exact (withdrawData_taken hp' hf' hnone hfate).2
      · obtain ⟨hflow, hsame⟩ := withdrawCadence_owed hp' hf'
        have hwc : w = u.withdrawCadence turn e false := by
          rw [hw, withdrawTurn_cadence hcadence horphan, hname]
          rfl
        refine ⟨?_, ?_⟩
        · change w.flow e.tag = _
          rw [hwc, hflow]
          simp only [Flow.owedAgain, hcad, Option.map_some]
        · change ((w.chans.set x.confirmedPart.name.chan _).get c).cadence = _
          rw [show x.confirmedPart.name.chan = c from hchan, quad_get_set_same]
          change (w.chans.get c).cadence = _
          rw [hwc, hsame, hchans]
    · intro turn hp hstate hwf
      have hp' : (u.pendingEntry turn).isSome = true := pendingEntry_isSome_countedTo hp _
      have hwo : u.withdrawTurn x.name e false = u.withdrawOrphan turn e := by
        rw [withdrawTurn_orphan hkind horphan, hname]
        rfl
      obtain ⟨hlist, hholds, htag, hflows, hmodems, hsame, hsweep, hcounters, hqueue⟩ :=
        withdrawOrphan_spec (s := u) (e := e) hp' hstate hwf
      have hmapPort : (u.withdrawOrphan turn e).mapPort = s.mapPort := by
        simp only [withdrawOrphan_frame]
        rfl
      rw [sealAtDeadline_one hone, hwo, handOver_room _ (by rw [hmapPort]; exact hroom)] at hexec
      have hget : ((u.withdrawOrphan turn e).chans.get c) = ch := by rw [hsame, hchans]
      have hch (g : MapCounters) : ((u.withdrawOrphan turn e).chans.set x.confirmedPart.name.chan
          { (u.withdrawOrphan turn e).chans.get x.confirmedPart.name.chan with maps := g }).get c
          = { ch with maps := g } := by
        rw [show x.confirmedPart.name.chan = c from hchan, quad_get_set_same, hget]
      refine ⟨_, hexec, hlist, hholds, htag, hflows, hmodems, ?_, ?_, hsweep, hcounters, hqueue⟩
      · exact (congrArg Channel.bids (hch _) :)
      · exact (congrArg Channel.cadence (hch _) :)

end Sys2Proof.Machine
end

section
/-! SUPPORT. Period-starts, which end a map or discard it as LATE (5.4, 5.5). -/

namespace Sys2Proof.Machine

-- One proof after another: side by side, as many as stand here need more threads than the check gives.
set_option Elab.async false

/-! ### A data turn of a LATE map, by the fate of its TAKE (R90) -/

/-- The record of a flow that a turn of `b` bytes has been taken from (R90, steps 1 and 2). -/
def Flow.turnedBack (f : Flow) (b : Nat) : Flow :=
  { f with
    pendingCount := f.pendingCount - 1
    credit := if f.rate = 0 then f.credit else min f.ceiling (f.credit + b) }

section
variable {s : State} {t : TurnKey} {e : Entry} {f : Flow}

theorem withdrawData_back (hp : (s.pendingEntry t).isSome = true) (hf : s.flow e.tag = some f)
    (hnone : f.deferred = none) : s.withdrawData t e
      = ((s.unturned t e.tag e.bytes).returnBytes t (f.turnedBack e.bytes) e).dropLocalHold t :=
  withdrawData_eq hp hf hnone

theorem unturned_back (hf : s.flow e.tag = some f) :
    (s.unturned t e.tag e.bytes).flow e.tag = some (f.turnedBack e.bytes) := unturned_flow hf e.bytes

theorem dropLocalHold_flow (s : State) (t : TurnKey) (tag : Tag) :
    (s.dropLocalHold t).flow tag = s.flow tag := rfl

theorem withdrawData_noTake (hp : (s.pendingEntry t).isSome = true) (hf : s.flow e.tag = some f)
    (hnone : f.deferred = none) (hfate : e.fate = .noTake) (hawake : f.state ≠ .dormant) :
    (s.withdrawData t e).flow e.tag = some { f.turnedBack e.bytes with
        outstanding := min (f.outstanding + e.bytes) 1048575 } ∧
      (s.withdrawData t e).link = s.link ∧
      ((s.withdrawData t e).chans.get t.chan).bids.bytesLost
        = bump (s.chans.get t.chan).bids.bytesLost (f.outstanding + e.bytes - 1048575) := by
  obtain ⟨hchans, hlink, -⟩ := unturned_frame s t e.tag e.bytes
  have hawake' : (f.turnedBack e.bytes).state ≠ .dormant := hawake
  rw [withdrawData_back hp hf hnone]
  set v := s.unturned t e.tag e.bytes with hv
  simp only [State.returnBytes, hfate, if_neg hawake']
  rw [dropLocalHold_flow, modBids_flow]
  refine ⟨flow_updFlow_same (unturned_back hf) _, by simpa using hlink, ?_⟩
  simp only [dropLocalHold_frame]
  rw [bids_modBids, if_pos rfl]
  simp only [updFlow_frame, hchans, excess_eq]
  rfl

theorem withdrawData_noTake_dormant (hp : (s.pendingEntry t).isSome = true)
    (hf : s.flow e.tag = some f) (hnone : f.deferred = none) (hfate : e.fate = .noTake)
    (hdormant : f.state = .dormant) :
    (s.withdrawData t e).flow e.tag = some (f.turnedBack e.bytes) ∧
      (s.withdrawData t e).link = s.link ∧
      (s.withdrawData t e).sweep
        = { s.sweep with idleBytes := bump s.sweep.idleBytes e.bytes } := by
  obtain ⟨-, hlink, -, -, hsweep, -⟩ := unturned_frame s t e.tag e.bytes
  have hdormant' : (f.turnedBack e.bytes).state = .dormant := hdormant
  rw [withdrawData_back hp hf hnone]
  set v := s.unturned t e.tag e.bytes with hv
  simp only [State.returnBytes, hfate, if_pos hdormant']
  exact ⟨unturned_back hf, hlink,
    congrArg (fun w : Sweep => { w with idleBytes := bump w.idleBytes e.bytes }) hsweep⟩

/-- The bytes of a standing TAKE are given to the peers and back to this station's copy (R90, R121). -/
theorem withdrawData_standing (hp : (s.pendingEntry t).isSome = true) (hf : s.flow e.tag = some f)
    (hnone : f.deferred = none) (hfate : e.fate = .standing) (hroom : s.link.queue.length < 64) :
    (s.withdrawData t e).link.queue
        = insertNotice ⟨.give e.tag (BitVec.ofNat 16 e.bytes), none⟩ s.link.queue ∧
      (s.withdrawData t e).flow e.tag = some (if f.state = .dormant then f.turnedBack e.bytes
        else { f.turnedBack e.bytes with outstanding := min (f.outstanding + e.bytes) 1048575 }) ∧
      (s.withdrawData t e).sweep = if f.state = .dormant then
          { s.sweep with idleBytes := bump s.sweep.idleBytes e.bytes }
        else s.sweep := by
  obtain ⟨-, hlink, -, -, hsweep, -⟩ := unturned_frame s t e.tag e.bytes
  have hback := unturned_back (t := t) hf
  rw [withdrawData_back hp hf hnone]
  set v := s.unturned t e.tag e.bytes with hv
  have hqueued := queueGive_room (s := v) e.tag e.bytes (by rw [hlink]; exact hroom)
  have hqflow : (v.queueGive e.tag e.bytes).flow e.tag = some (f.turnedBack e.bytes) :=
    (flow_of_store (by simp) e.tag).trans hback
  simp only [State.returnBytes, hfate]
  by_cases hdormant : f.state = .dormant
  · rw [giveBack_dormant hback hdormant, if_pos hdormant, if_pos hdormant]
    refine ⟨?_, hqflow, ?_⟩
    · change (v.queueGive e.tag e.bytes).link.queue = _
      rw [hqueued, ← hlink]
      rfl
    · change ({ (v.queueGive e.tag e.bytes).sweep with
        idleBytes := bump (v.queueGive e.tag e.bytes).sweep.idleBytes e.bytes } : Sweep) = _
      simp only [queueGive_frame, hsweep]
  · rw [giveBack_awake hback hdormant, if_neg hdormant, if_neg hdormant, addHeard_eq hqflow]
    rw [dropLocalHold_flow, modLinkCounters_flow]
    refine ⟨?_, flow_updFlow_same hqflow _, ?_⟩
    · simp only [dropLocalHold_frame, State.modLinkCounters, State.modLink, updFlow_frame, hqueued, hlink]
    · simpa using hsweep

theorem withdrawData_standing_full (hp : (s.pendingEntry t).isSome = true)
    (hf : s.flow e.tag = some f) (hnone : f.deferred = none) (hfate : e.fate = .standing)
    (hfull : 64 ≤ s.link.queue.length) (hawake : f.state ≠ .dormant) :
    (s.withdrawData t e).link.queue = s.link.queue ∧
      (s.withdrawData t e).flow e.tag = some { f.turnedBack e.bytes with
        outstanding := min (f.outstanding + e.bytes) 1048575 } ∧
      (s.withdrawData t e).link.counters.giveDropped = bump s.link.counters.giveDropped 1 := by
  obtain ⟨-, hlink, -⟩ := unturned_frame s t e.tag e.bytes
  have hback := unturned_back (t := t) hf
  rw [withdrawData_back hp hf hnone]
  set v := s.unturned t e.tag e.bytes with hv
  have hdropped := queueGive_full (s := v) e.tag e.bytes (by rw [hlink]; exact hfull)
  have hqflow : (v.queueGive e.tag e.bytes).flow e.tag = some (f.turnedBack e.bytes) :=
    (flow_of_store (by simp) e.tag).trans hback
  simp only [State.returnBytes, hfate]
  rw [giveBack_awake hback hawake, addHeard_eq hqflow]
  rw [dropLocalHold_flow, modLinkCounters_flow]
  refine ⟨?_, flow_updFlow_same hqflow _, ?_⟩
  · simp only [dropLocalHold_frame, State.modLinkCounters, updFlow_frame, hdropped, hlink]
  · simp only [dropLocalHold_frame, State.modLinkCounters, updFlow_frame, hdropped, hlink]

end

/-! ### The period-start (R10, R89) -/

theorem started_unskipped {k : PeriodClock} (h : k.skips = []) (n : Period) :
    k.started n = { k with start := n + 1 } := by
  rw [PeriodClock.started, h]
  rfl

/-- The state at a period-start, its stream moved on. -/
def State.pastStart (s : State) (c : Chan) (k : PeriodClock) : State :=
  { s.countedTo (s.startTick ⟨c, k.start⟩) with
    chans := s.chans.set c { s.chans.get c with clock := some { k with start := k.start + 1 } } }

section
variable {s : State} {c : Chan} {k : PeriodClock}

theorem exec_periodStart (hclock : (s.chans.get c).clock = some k) (hskips : k.skips = [])
    (hdue : s.due (.start ⟨c, k.start⟩)) : exec (.periodStart c k.start) s
      = .next ((s.countedTo (s.startTick ⟨c, k.start⟩)).fallStart ⟨c, k.start⟩) ∧
    (s.countedTo (s.startTick ⟨c, k.start⟩)).modClock c (·.started k.start) = s.pastStart c k := by
  refine ⟨exec_due (d := .start ⟨c, k.start⟩) rfl hdue, ?_⟩
  rw [modClock_eq (s := s.countedTo _) hclock, started_unskipped hskips]
  rfl

theorem exec_periodStart_ends (hclock : (s.chans.get c).clock = some k) (hskips : k.skips = [])
    (hdue : s.due (.start ⟨c, k.start⟩)) (hnone : ∀ x ∈ s.mapPort.queue, x.name ≠ ⟨c, k.start⟩) :
    exec (.periodStart c k.start) s = .next { s.pastStart c k with
      mapPort := { s.mapPort with
        delivered := s.mapPort.delivered.filter (·.name ≠ ⟨c, k.start⟩) } } := by
  obtain ⟨hexec, hmoved⟩ := exec_periodStart hclock hskips hdue
  have hfind : s.mapPort.queue.find? (·.name == ⟨c, k.start⟩) = none :=
    List.find?_eq_none.mpr fun x hx => by simpa using hnone x hx
  have hfind' : (s.pastStart c k).mapPort.queue.find? (·.name == ⟨c, k.start⟩) = none := hfind
  rw [hexec]
  simp only [State.fallStart, hmoved, hfind']
  rfl

/-- A map still in the output queue at its period-start, before its turns are withdrawn. -/
def State.pastLate (s : State) (c : Chan) (k : PeriodClock) : State :=
  { s.pastStart c k with
    chans := s.chans.set c { s.chans.get c with
      clock := some { k with start := k.start + 1 }
      maps := { (s.chans.get c).maps with late := bump (s.chans.get c).maps.late 1 } }
    mapPort := { s.mapPort with queue := s.mapPort.queue.filter (·.name ≠ ⟨c, k.start⟩) }
    port := { s.port with latched := s.latchedWith 0x10#7 } }

theorem exec_periodStart_late {x : TurnMap} (hclock : (s.chans.get c).clock = some k)
    (hskips : k.skips = []) (hdue : s.due (.start ⟨c, k.start⟩))
    (hx : s.mapPort.queue.find? (·.name == ⟨c, k.start⟩) = some x) :
    exec (.periodStart c k.start) s
      = .next ((s.pastLate c k).withdrawAll ⟨c, k.start⟩ true x.entries) := by
  obtain ⟨hexec, hmoved⟩ := exec_periodStart hclock hskips hdue
  have hname : x.name = ⟨c, k.start⟩ := by simpa using List.find?_some hx
  have hx' : (s.pastStart c k).mapPort.queue.find? (·.name == ⟨c, k.start⟩) = some x := hx
  have hcounted := modMaps_set (s := { s.countedTo (s.startTick ⟨c, k.start⟩) with
    mapPort := { s.mapPort with queue := s.mapPort.queue.filter (·.name ≠ ⟨c, k.start⟩) } }) c
    { s.chans.get c with clock := some { k with start := k.start + 1 } }
    fun k => { k with late := bump k.late 1 }
  rw [hexec]
  simp only [State.fallStart, hmoved, hx', State.discardLate, hname]
  exact congrArg (fun w : State => Host.Outcome.next
    ((w.raise .map).withdrawAll ⟨c, k.start⟩ true x.entries)) hcounted

end

/-- Settles O26: a map of the period leaves DELIVERED, or is LATE with its turns withdrawn. -/
theorem periodStartEndsOrDiscards : Obligations.PeriodStartEndsOrDiscards := by
  intro s c k hclock hskips hdue m ch now
  refine ⟨fun hnone => exec_periodStart_ends hclock hskips hdue hnone, fun x hx => ?_⟩
  have hexec := exec_periodStart_late hclock hskips hdue hx
  set u := s.pastLate c k with hu
  have hget : u.chans.get c = { ch with maps := { ch.maps with late := bump ch.maps.late 1 } } :=
    quad_get_set_same _ _ _
  refine ⟨⟨_, hexec, ?_, ?_, ?_, ?_⟩, fun hwindows => ?_, fun e f p hone horphan hf htag => ?_,
    fun e p n hone horphan hkind => ?_⟩
  · simp only [withdrawAll_frame]
    rfl
  · simp only [withdrawAll_frame]
    rfl
  · rw [(withdrawAll_keepsMaps u _ _ _).maps, hget]
  · simp only [withdrawAll_frame]
    rfl
  · rw [hexec, withdrawAll_windows u _ _ hwindows]
    rfl
  · intro turn hp
    have hp' : (u.pendingEntry turn).isSome = true := pendingEntry_isSome_countedTo hp _
    have hf' : u.flow e.tag = some f := hf
    rw [hone] at hexec
    change exec _ s = .next (u.withdrawTurn m e true) at hexec
    refine ⟨fun cad hcadence hcad => ?_, fun hdata hbid hnone hawake => ?_⟩
    · obtain ⟨hlist, hholds, -⟩ := withdrawCadence_lists (e := e) hp' true
      obtain ⟨hflow, hmissed⟩ := withdrawCadence_missed (t := turn) hp' hf'
      rw [withdrawTurn_cadence hcadence horphan] at hexec
      refine ⟨_, hexec, hlist, hholds, hflow, ?_⟩
      refine hmissed.trans ?_
      change ({ (u.chans.get c).cadence with
        missed := bump (u.chans.get c).cadence.missed 1 } : CadenceCounters) = _
      rw [hget]
    · intro back more
      obtain ⟨hlist, hholds⟩ := withdrawData_lists hp' hf' hnone
      rw [withdrawTurn_data hdata horphan] at hexec
      refine ⟨_, hexec, hlist, hholds, fun hfate hactive => ?_, fun hfate hdormant => ?_,
        fun hfate => ?_, fun hfate => ?_, fun hfate hroom => ?_, fun hfate hfull hactive => ?_⟩
      · obtain ⟨hflow, hlink, hlost⟩ := withdrawData_noTake hp' hf' hnone hfate (by simp [hactive])
        refine ⟨hflow, hlink, hlost.trans ?_⟩
        change bump (u.chans.get c).bids.bytesLost _ = _
        rw [hget]
      · exact withdrawData_noTake_dormant hp' hf' hnone hfate hdormant
      · obtain ⟨hlink, hflow⟩ := withdrawData_taken hp' hf' hnone (.inl hfate)
        rw [if_pos hfate] at hflow
        refine ⟨hflow, (congrArg Link.queue hlink).trans ?_⟩
        rw [withdrawTake_queue, if_pos hfate]
        rfl
      · obtain ⟨hlink, hflow⟩ := withdrawData_taken hp' hf' hnone (.inr hfate)
        rw [if_neg (show ¬ e.fate = .queued by simp [hfate])] at hflow
        refine ⟨hflow, (congrArg Link.queue hlink).trans ?_, (congrArg Link.inTx hlink).trans ?_⟩
        · rw [withdrawTake_queue, if_neg (by simp [hfate])]
          rfl
        · rw [withdrawTake_inTx, if_pos hfate]
          rfl
      · exact withdrawData_standing hp' hf' hnone hfate hroom
      · exact withdrawData_standing_full hp' hf' hnone hfate hfull (by simp [hactive])
  · intro turn hp hstate hwf
    have hp' : (u.pendingEntry turn).isSome = true := pendingEntry_isSome_countedTo hp _
    rw [hone] at hexec
    change exec _ s = .next (u.withdrawTurn m e true) at hexec
    rw [withdrawTurn_orphan hkind horphan] at hexec
    obtain ⟨hlist, hholds, htag, hflows, hmodems, hchans, hsweep, hcounters, hqueue⟩ :=
      withdrawOrphan_spec (s := u) (e := e) hp' hstate hwf
    refine ⟨_, hexec, hlist, hholds, htag, hflows, hmodems, ?_, ?_, hsweep, hcounters, hqueue⟩
    · exact (congrArg (fun q => (q.get c).bids) hchans).trans (congrArg Channel.bids hget)
    · exact (congrArg (fun q => (q.get c).cadence) hchans).trans (congrArg Channel.cadence hget)

end Sys2Proof.Machine
end

section
/-! SUPPORT. REMOVE FLOW: what waits for the flow, its turns and its tables (3.5). -/

namespace Sys2Proof.Machine

-- One proof after another: side by side, as many as stand here need more threads than the check gives.
set_option Elab.async false

/-! ### The turns that R47 withdraws, all at once -/

/-- The map without the turns of a list. -/
def TurnMap.withoutTurns (m : TurnMap) (gone : List TurnKey) : TurnMap :=
  { m with entries := m.entries.filter fun e => decide (m.name.turn e.start ∉ gone) }

/-- The station without the turns of a list: they leave the open maps, the pending list and the local
holds. -/
def State.withoutTurns (s : State) (gone : List TurnKey) : State :=
  { s with
    planner := { s.planner with
      building := s.planner.building.map fun b => { b with map := b.map.withoutTurns gone }
      sealing := s.planner.sealing.map (·.withoutTurns gone)
      localHolds := s.planner.localHolds.filter fun h => decide (h.turn ∉ gone) }
    tracker := { s.tracker with list := s.tracker.list.filter fun e => !gone.any (e.isTurn ·) } }

theorem turnMap_withoutTurns_nil (m : TurnMap) : m.withoutTurns [] = m := by
  simp [TurnMap.withoutTurns]

theorem turnMap_withoutTurns_cons (m : TurnMap) (t : TurnKey) (gone : List TurnKey) :
    (m.without t).withoutTurns gone = m.withoutTurns (t :: gone) := by
  have hturn (e : Entry) : m.name.turn e.start = t ↔ m.name = ⟨t.chan, t.period⟩ ∧ e.start = t.slot := by
    obtain ⟨⟨c, p⟩, es⟩ := m
    obtain ⟨c', p', slot⟩ := t
    simp [MapName.turn, and_assoc]
  unfold TurnMap.without
  by_cases hname : m.name = ⟨t.chan, t.period⟩
  · rw [if_pos hname]
    simp only [TurnMap.withoutTurns, List.filter_filter, List.mem_cons, not_or, hturn,
      and_iff_right hname, ne_eq, Bool.decide_and, Bool.and_comm]
  · rw [if_neg hname]
    simp only [TurnMap.withoutTurns, List.mem_cons, hturn, hname, false_and, false_or]

theorem withoutTurns_nil (s : State) : s.withoutTurns [] = s := by
  simp [State.withoutTurns, turnMap_withoutTurns_nil]

theorem withdrawStranded_withoutTurns (s : State) (t : TurnKey) (gone : List TurnKey) :
    (s.withdrawStranded t).withoutTurns gone = s.withoutTurns (t :: gone) := by
  simp only [State.withoutTurns, State.withdrawStranded, State.dropEntry, State.dropLocalHold,
    State.dropPending, State.modPlanner, State.modTracker, Option.map_map, List.map_map,
    List.filter_filter, Function.comp_def, turnMap_withoutTurns_cons, List.any_cons, Bool.not_or,
    List.mem_cons, not_or, Bool.decide_and, Bool.and_comm, ne_eq]

theorem foldl_withdrawStranded (gone : List TurnKey) (s : State) :
    gone.foldl State.withdrawStranded s = s.withoutTurns gone := by
  induction gone generalizing s with
  | nil => exact (withoutTurns_nil s).symm
  | cons t gone ih => rw [List.foldl_cons, ih, withdrawStranded_withoutTurns]

/-! ### What a removal leaves -/

/-- A pending entry of the tag becomes an orphan (R46 step 4). -/
def PendingEntry.orphanedBy (tag : Tag) (e : PendingEntry) : PendingEntry :=
  if e.tag = tag then { e with orphan := true } else e

theorem orphanedBy_tag (tag : Tag) (e : PendingEntry) : (e.orphanedBy tag).tag = e.tag := by
  unfold PendingEntry.orphanedBy
  split <;> rfl

theorem orphanedBy_isTurn (tag : Tag) (e : PendingEntry) (t : TurnKey) :
    (e.orphanedBy tag).isTurn t = e.isTurn t := by
  unfold PendingEntry.orphanedBy
  split <;> rfl

theorem orphanedBy_orphan {tag : Tag} {e : PendingEntry} (h : e.tag = tag) :
    (e.orphanedBy tag).orphan = true := by
  rw [PendingEntry.orphanedBy, if_pos h]

/-- The state of a tag that keeps `n` pending orphans. -/
def drainedWith (n : Nat) : Option TagState := if n = 0 then none else some (.draining n)

/-- The removal up to the maps that it settles. -/
def State.freed (s : State) (tag : Tag) (ix : Nat) (f : Flow) : State :=
  (((s.cleared tag f).unbind tag ix).lowerFlowCount f.modemIx).abandonStep tag

/-- What waits for the flow is gone (R46 steps 1 to 3). -/
def State.unqueued (s : State) (tag : Tag) (f : Flow) : State :=
  (((s.leaveReady f).modPlanner fun p =>
    { p with building := p.building.map (·.modPhase (Phase.dropCadence tag)) }).modPort
      fun p => { p with attention := p.attention.filter (·.tag ≠ tag) }).removeQueued
        (isTakeOrGive tag)

section
variable {s : State} {tag : Tag} {ix : Nat} {f : Flow}

theorem cleared_eq (s : State) (tag : Tag) (f : Flow) : s.cleared tag f
    = ((s.unqueued tag f).orphanTurns tag).withoutTurns (s.stranded tag) :=
  foldl_withdrawStranded _ _

/-- The fields that a removal changes before the tables. -/
theorem cleared_frame (s : State) (tag : Tag) (f : Flow) :
    (s.cleared tag f).planner.requests = s.planner.requests ∧
      (s.cleared tag f).planner.localHolds
        = s.planner.localHolds.filter (fun h => decide (h.turn ∉ s.stranded tag)) ∧
      (s.cleared tag f).planner.ready
        = s.planner.ready.set f.cls ((s.planner.ready.get f.cls).filter (· ≠ f.tag)) ∧
      (s.cleared tag f).planner.sealing
        = s.planner.sealing.map (fun m => (m.orphaned tag).withoutTurns (s.stranded tag)) ∧
      (s.cleared tag f).mapPort.queue = s.mapPort.queue.map (·.orphaned tag) ∧
      (s.cleared tag f).tracker.list = (s.tracker.list.map (·.orphanedBy tag)).filter
        (fun e => !(s.stranded tag).any (e.isTurn ·)) ∧
      (s.cleared tag f).link.queue = s.link.queue.filter (!isTakeOrGive tag ·) ∧
      (s.cleared tag f).link.inTx = s.link.inTx ∧
      (s.cleared tag f).port
        = { s.port with attention := s.port.attention.filter (·.tag ≠ tag) } ∧
      (s.cleared tag f).sweep = s.sweep ∧ (s.cleared tag f).store = s.store ∧
      (s.cleared tag f).chans = s.chans := by
  rw [cleared_eq]
  generalize s.stranded tag = gone
  simp [State.withoutTurns, State.orphanTurns, State.unqueued, State.leaveReady, State.modPlanner,
    State.modPort, State.removeQueued, State.modLink]
  rfl

theorem cleared_building (s : State) (tag : Tag) (f : Flow) :
    (s.cleared tag f).planner.building = s.planner.building.map fun b => { b with
      map := (b.map.orphaned tag).withoutTurns (s.stranded tag)
      phase := (b.phase.dropVisit f.tag).dropCadence tag } := by
  rw [cleared_eq]
  cases hb : s.planner.building <;>
    simp [State.withoutTurns, State.orphanTurns, State.unqueued, State.leaveReady, State.modPlanner,
      State.modPort, State.removeQueued, State.modLink, Build.modPhase, hb]

theorem stranded_nil (hbuild : s.planner.building = none) (hseal : s.planner.sealing = []) (tag : Tag) :
    s.stranded tag = [] := by
  simp [State.stranded, hbuild, hseal]

theorem removeFlow_quiet (hseal : s.planner.sealing = []) :
    s.removeFlow tag ix f = s.freed tag ix f := by
  rw [removeFlow_eq, hseal]
  rfl

/-- The pending entries of the tag that stay are all orphans. -/
theorem cleared_orphans (s : State) (tag : Tag) (f : Flow) : (s.cleared tag f).orphans tag
    = (s.tracker.list.filter fun e => e.tag == tag && !(s.stranded tag).any (e.isTurn ·)).length := by
  obtain ⟨-, -, -, -, -, hlist, -⟩ := cleared_frame s tag f
  rw [State.orphans, hlist, List.filter_filter, List.filter_map, List.length_map]
  refine congrArg List.length (List.filter_congr fun e _ => ?_)
  by_cases h : e.tag = tag
  · simp [orphanedBy_tag, orphanedBy_isTurn, orphanedBy_orphan h, h]
  · simp [orphanedBy_tag, beq_false_of_ne h]

theorem freed_frame (s : State) (tag : Tag) (ix : Nat) (f : Flow) :
    (s.freed tag ix f).planner = (s.cleared tag f).planner ∧
      (s.freed tag ix f).mapPort = (s.cleared tag f).mapPort ∧
      (s.freed tag ix f).link = (s.cleared tag f).link ∧
      (s.freed tag ix f).tracker = (s.cleared tag f).tracker ∧
      (s.freed tag ix f).port = (s.cleared tag f).port ∧
      (s.freed tag ix f).chans = s.chans := by
  obtain ⟨-, -, -, -, -, -, -, -, -, -, -, hchans⟩ := cleared_frame s tag f
  simp only [State.freed, abandonStep_frame, lowerFlowCount_frame, unbind_frame, hchans, and_self]

/-- The tables after a removal: the record FREE, the tag with its orphans, the modem one flow fewer. -/
structure FreedStore (s t : State) (tag : Tag) (ix : Nat) (f : Flow) (left : Nat) : Prop where
  flows : t.store.flows = tabDel s.store.flows ix
  drained : t.tagState tag = drainedWith left
  others : ∀ tag', tag' ≠ tag → t.tagState tag' = s.tagState tag'
  modem : ∀ m, s.modemAt f.modemIx = some m →
    t.store.modems = tabPut s.store.modems f.modemIx { m with flowCount := m.flowCount - 1 }
  noModem : s.modemAt f.modemIx = none → t.store.modems = s.store.modems

theorem FreedStore.of_store {s t u : State} {tag : Tag} {ix : Nat} {f : Flow} {left : Nat}
    (h : FreedStore s t tag ix f left) (hu : u.store = t.store) : FreedStore s u tag ix f left := by
  obtain ⟨hflows, hdrained, hothers, hmodem, hnone⟩ := h
  have hstate (tag' : Tag) : u.tagState tag' = t.tagState tag' := by rw [State.tagState, hu, State.tagState]
  exact ⟨hu ▸ hflows, (hstate tag).trans hdrained, fun tag' hne => (hstate tag').trans (hothers tag' hne),
    fun m hm => hu ▸ hmodem m hm, fun hn => hu ▸ hnone hn⟩

theorem FreedStore.modemAt {s t : State} {tag : Tag} {ix : Nat} {f : Flow} {left : Nat}
    (h : FreedStore s t tag ix f left) {m : Modem} (hm : s.modemAt f.modemIx = some m) :
    t.modemAt f.modemIx = some { m with flowCount := m.flowCount - 1 } := by
  rw [State.modemAt, h.modem m hm, tabGet_tabPut, if_pos rfl]

theorem freed_store (hs : StoreLaw s) (hix : tabGet s.store.flows ix = some f) (htag : f.tag = tag) :
    FreedStore s (s.freed tag ix f) tag ix f (s.tracker.list.filter fun e =>
      e.tag == tag && !(s.stranded tag).any (e.isTurn ·)).length ∧
    StoreLaw (s.freed tag ix f) := by
  have hremoves : Removes s ((s.cleared tag f).unbind tag ix) tag ix f :=
    unbind_removes (.inr ⟨hix, htag⟩)
  obtain ⟨-, hothers, -⟩ := hremoves.reads hs
  have hmodems : ∀ i, ((s.cleared tag f).unbind tag ix).modemAt i = s.modemAt i := fun i => by
    rw [State.modemAt, hremoves.modems, State.modemAt]
  have hstore : (s.freed tag ix f).store
      = (((s.cleared tag f).unbind tag ix).lowerFlowCount f.modemIx).store := by
    simp only [State.freed, abandonStep_frame]
  have hlowered : (((s.cleared tag f).unbind tag ix).lowerFlowCount f.modemIx).store.flows
        = ((s.cleared tag f).unbind tag ix).store.flows ∧
      (((s.cleared tag f).unbind tag ix).lowerFlowCount f.modemIx).store.tagMap
        = ((s.cleared tag f).unbind tag ix).store.tagMap := by
    unfold State.lowerFlowCount
    split
    · exact ⟨rfl, rfl⟩
    · exact ⟨rfl, rfl⟩
  obtain ⟨hflows, htags⟩ := hlowered
  have hstate (tag' : Tag) : (s.freed tag ix f).tagState tag'
      = ((s.cleared tag f).unbind tag ix).tagState tag' := by
    simp only [State.tagState, hstore, htags]
  refine ⟨⟨?_, ?_, fun tag' hne => ?_, fun m hm => ?_, fun hnone => ?_⟩, ?_⟩
  · rw [hstore, hflows, hremoves.flows]
  · obtain ⟨⟨-, -, hwf⟩, -, -⟩ := hs
    obtain ⟨-, -, -, -, -, -, -, -, -, -, hsame, -⟩ := cleared_frame s tag f
    rw [hstate, ← cleared_orphans s tag f]
    simp only [State.tagState, State.unbind, modStore_store, hsame, drainedWith]
    split
    · rw [tabGet_tabDel _ _ _ hwf, if_pos rfl]
    · rw [tabGet_tabPut, if_pos rfl]
  · rw [hstate, hothers tag' hne]
  · rw [hstore, State.lowerFlowCount, hmodems, hm, ← hremoves.modems]
    rfl
  · rw [hstore, State.lowerFlowCount, hmodems, hnone, hremoves.modems]
  · have hcalms : Calms ((s.cleared tag f).unbind tag ix) (s.freed tag ix f) :=
      (lowerFlowCount_calms _ _).trans (abandonStep_calms _ tag)
    exact calms_keep StoreLaw.calm hcalms (hs.removes hremoves)

theorem flow_of_drained {t : State} {n : Nat} (h : t.tagState tag = drainedWith n) :
    t.flow tag = none := by
  have hix : t.flowIx tag = none := by
    unfold State.flowIx
    rw [h, drainedWith]
    split <;> simp_all
  rw [State.flow, hix]
  rfl

/-- The sweep after a removal, with no map BUILDING (R165). -/
theorem freed_sweep (hbuild : s.planner.building = none) :
    (s.sweep.step ≠ some ⟨some tag⟩ → (s.freed tag ix f).sweep = s.sweep) ∧
    (s.sweep.step = some ⟨some tag⟩ → s.sweep.state = .running →
      let at_ := if s.sweep.cursor < 8191 then s.sweep.cursor + 1 else 0
      (s.freed tag ix f).sweep = { s.sweep with
        abandoned := bump s.sweep.abandoned 1
        cursor := at_
        pass := if s.sweep.cursor < 8191 then s.sweep.pass else s.sweep.pass + 1
        step := some ⟨(tabGet (s.freed tag ix f).store.flows at_).map (·.tag)⟩ }) := by
  obtain ⟨-, -, -, -, -, -, -, -, -, hsweep, -⟩ := cleared_frame s tag f
  have hfree : (s.cleared tag f).planner.building = none := by rw [cleared_building, hbuild]; rfl
  have hstore : (s.freed tag ix f).store
      = (((s.cleared tag f).unbind tag ix).lowerFlowCount f.modemIx).store := by
    simp only [State.freed, abandonStep_frame]
  rw [hstore]
  unfold State.freed
  generalize hu : ((s.cleared tag f).unbind tag ix).lowerFlowCount f.modemIx = u
  have husweep : u.sweep = s.sweep := by
    rw [← hu, ← hsweep]
    simp only [lowerFlowCount_frame, unbind_frame]
  have hubuild : u.planner.building = none := by
    rw [← hu]
    simpa only [lowerFlowCount_frame, unbind_frame] using hfree
  refine ⟨fun hother => ?_, fun hheld hrun => ?_⟩
  · unfold State.abandonStep
    split
    · rename_i st hst
      rw [if_neg (fun he => hother (by rw [← husweep, hst, ← he])), husweep]
    · exact husweep
  · intro at_
    have hstep : u.sweep.step = some ⟨some tag⟩ := husweep ▸ hheld
    have hmoved : u.modSweep (fun w => (w.abandon.advance).afterStep u.planner.building.isSome)
        = { u with sweep := { s.sweep with
            abandoned := bump s.sweep.abandoned 1
            cursor := at_
            pass := if s.sweep.cursor < 8191 then s.sweep.pass else s.sweep.pass + 1
            step := none } } := by
      rw [State.modSweep, hubuild, husweep, advance_eq]
      rfl
    simp only [State.abandonStep, hstep, if_true]
    rw [hmoved, beginStep_begins (by exact hrun) rfl (by exact hubuild)]
    rfl

end

/-! ### A removal under one open map -/

/-- Whether R47 withdraws the turn at a slot of the map. -/
def TurnMap.strands (m : TurnMap) (tag : Tag) (slot : Nat) : Bool :=
  m.entries.any fun e => e.start == slot && e.strandedBy tag

theorem stranded_mem {s : State} {x : TurnMap} {tag : Tag}
    (h : (s.planner.building.map (·.map)).toList ++ s.planner.sealing = [x]) (t : TurnKey) :
    t ∈ s.stranded tag ↔ t.chan = x.name.chan ∧ t.period = x.name.period ∧
      x.strands tag t.slot = true := by
  obtain ⟨c, p, slot⟩ := t
  simp only [State.stranded, h, List.flatMap_cons, List.flatMap_nil, List.append_nil, List.mem_map,
    List.mem_filter, TurnMap.strands, List.any_eq_true, Bool.and_eq_true, beq_iff_eq, MapName.turn,
    TurnKey.mk.injEq]
  constructor
  · rintro ⟨e, ⟨hmem, hstr⟩, hc, hp, hslot⟩
    exact ⟨hc.symm, hp.symm, e, hmem, hslot, hstr⟩
  · rintro ⟨hc, hp, e, hmem, hslot, hstr⟩
    exact ⟨e, ⟨hmem, hstr⟩, hc.symm, hp.symm, hslot⟩

section
variable {s : State} {tag : Tag} {ix : Nat} {f : Flow} {x : TurnMap}

/-- Whether a pending entry stays when the turns of a map that R47 withdraws go. -/
def TurnMap.keepsPending (x : TurnMap) (tag : Tag) (e : PendingEntry) : Bool :=
  !(e.chan == x.name.chan && e.period == x.name.period.truncate 16 && x.strands tag e.slot)

theorem keepsPending_eq
    (h : (s.planner.building.map (·.map)).toList ++ s.planner.sealing = [x]) (e : PendingEntry) :
    (!(s.stranded tag).any (e.isTurn ·)) = x.keepsPending tag e := by
  refine congrArg (!·) (Bool.eq_iff_iff.mpr ?_)
  simp only [List.any_eq_true, stranded_mem h, PendingEntry.isTurn, Bool.and_eq_true, beq_iff_eq]
  constructor
  · rintro ⟨t, ⟨hc, hp, hstr⟩, ⟨hc', hp'⟩, hslot⟩
    exact ⟨⟨hc'.trans hc, hp'.trans (by rw [hp])⟩, hslot ▸ hstr⟩
  · rintro ⟨⟨hc, hp⟩, hstr⟩
    exact ⟨⟨x.name.chan, x.name.period, e.slot⟩, ⟨rfl, rfl, hstr⟩, ⟨hc, hp⟩, rfl⟩

theorem keepsPending_orphanedBy (x : TurnMap) (tag tag' : Tag) (e : PendingEntry) :
    x.keepsPending tag (e.orphanedBy tag') = x.keepsPending tag e := by
  unfold PendingEntry.orphanedBy
  split <;> rfl

/-- The map without the turns that R47 withdraws, its other turns of the flow orphans. -/
def TurnMap.reclaimed (x : TurnMap) (tag : Tag) : TurnMap :=
  TurnMap.orphaned tag { x with entries := x.entries.filter (!x.strands tag ·.start) }

theorem reclaimed_eq (h : (s.planner.building.map (·.map)).toList ++ s.planner.sealing = [x]) :
    (x.orphaned tag).withoutTurns (s.stranded tag) = x.reclaimed tag := by
  have hkeeps (e : Entry) : decide (x.name.turn e.start ∉ s.stranded tag)
      = !x.strands tag e.start := by
    rw [Bool.eq_iff_iff]
    simp [stranded_mem h, MapName.turn]
  simp only [TurnMap.withoutTurns, TurnMap.orphaned, TurnMap.reclaimed, List.filter_map]
  congr 2
  refine List.filter_congr fun e _ => ?_
  rw [← hkeeps]
  simp only [Function.comp_apply]
  split <;> rfl

/-- Hand-over of a settled map leaves the tables, the pending list, the local holds, the link and the port
alone, with room in the map output queue. -/
theorem handIfSettled_room (hroom : s.mapPort.queue.length < 4) (name : MapName) :
    (s.handIfSettled name).store = s.store ∧ (s.handIfSettled name).tracker = s.tracker ∧
      (s.handIfSettled name).link = s.link ∧ (s.handIfSettled name).port = s.port ∧
      (s.handIfSettled name).planner.localHolds = s.planner.localHolds := by
  unfold State.handIfSettled
  split
  · exact ⟨rfl, rfl, rfl, rfl, rfl⟩
  · split
    · rw [handOver_room _ (by exact hroom)]
      exact ⟨rfl, rfl, rfl, rfl, rfl⟩
    · exact ⟨rfl, rfl, rfl, rfl, rfl⟩

theorem exec_removeFlow (hready : s.hostReady) (hf : s.flow tag = some f) :
    ∃ ix, tabGet s.store.flows ix = some f ∧
      exec (.removeFlow tag) s
        = .next ((s.takeFrame.removeFlow tag ix f).answer 0x08 (plain .done)) := by
  obtain ⟨hslot, hlife⟩ := hready
  obtain ⟨ix, -, hix, hat⟩ := flow_record hf
  have hremoved : s.takeFrame.removeTag tag = (s.takeFrame.removeFlow tag ix f, plain .done) := by
    have hix' : s.takeFrame.flowIx tag = some ix := hix
    have hf' : s.takeFrame.flow tag = some f := hf
    simp only [State.removeTag, hix', hf']
  refine ⟨ix, hat, ?_⟩
  change Host.Outcome.next (s.hostCommand 0x08 inService fun s => s.removeTag tag) = _
  simp only [State.hostCommand, hslot, inService_eq_true hlife, if_true, hremoved]

end

/-! ### REMOVE FLOW (R46, R47) -/

section
variable {s : State} {tag : Tag} {ix : Nat} {f : Flow} {x : TurnMap}

/-- The pending list after a removal under one open map. -/
theorem cleared_list (h : (s.planner.building.map (·.map)).toList ++ s.planner.sealing = [x]) (f : Flow) :
    (s.cleared tag f).tracker.list
      = (s.tracker.list.filter (x.keepsPending tag)).map (·.orphanedBy tag) := by
  obtain ⟨-, -, -, -, -, hlist, -⟩ := cleared_frame s tag f
  rw [hlist, List.filter_map]
  refine congrArg (List.map _) (List.filter_congr fun e _ => ?_)
  rw [Function.comp_apply, keepsPending_eq h, keepsPending_orphanedBy]

theorem cleared_localHolds
    (h : (s.planner.building.map (·.map)).toList ++ s.planner.sealing = [x]) (f : Flow) :
    (s.cleared tag f).planner.localHolds = s.planner.localHolds.filter (fun l =>
      !(l.turn.chan == x.name.chan && l.turn.period == x.name.period && x.strands tag l.turn.slot)) := by
  obtain ⟨-, hholds, -⟩ := cleared_frame s tag f
  rw [hholds]
  refine List.filter_congr fun l _ => ?_
  rw [Bool.eq_iff_iff]
  simp [stranded_mem h, or_assoc]

/-- The map that a removal settles, and where it stands after it. -/
theorem removeFlow_sealing (hbuild : s.planner.building = none) (hseal : s.planner.sealing = [x])
    (hroom : s.mapPort.queue.length < 4) (ix : Nat) (f : Flow) :
    let t := s.removeFlow tag ix f
    (t.store = (s.freed tag ix f).store ∧ t.tracker = (s.freed tag ix f).tracker ∧
      t.link = (s.freed tag ix f).link ∧ t.port = (s.freed tag ix f).port ∧
      t.planner.localHolds = (s.freed tag ix f).planner.localHolds) ∧
    ((∃ e ∈ (x.reclaimed tag).entries, e.unconfirmed = true) →
      t.planner.sealing = [x.reclaimed tag] ∧ t.mapPort.queue = s.mapPort.queue.map (·.orphaned tag)) ∧
    ((∃ e ∈ x.entries, x.strands tag e.start = true) →
      (∀ e ∈ (x.reclaimed tag).entries, e.unconfirmed = false) →
      t.planner.sealing = [] ∧
      t.mapPort.queue = s.mapPort.queue.map (·.orphaned tag) ++ [x.reclaimed tag] ∧
      (t.chans.get x.name.chan).maps.handed = bump (s.chans.get x.name.chan).maps.handed 1) := by
  have hopen : (s.planner.building.map (·.map)).toList ++ s.planner.sealing = [x] := by
    rw [hbuild, hseal]; rfl
  obtain ⟨-, -, -, hsealing, hqueue, -⟩ := cleared_frame s tag f
  obtain ⟨hplan, hport, -, -, -, hchans⟩ := freed_frame s tag ix f
  generalize hu : s.freed tag ix f = u at *
  have husealing : u.planner.sealing = [x.reclaimed tag] := by
    rw [hplan, hsealing, hseal, List.map_singleton, reclaimed_eq hopen]
  have huqueue : u.mapPort.queue = s.mapPort.queue.map (·.orphaned tag) := by rw [hport, hqueue]
  have huroom : u.mapPort.queue.length < 4 := by rwa [huqueue, List.length_map]
  have hremoved : s.removeFlow tag ix f
      = if x.entries.any (·.strandedBy tag) then u.handIfSettled (x.reclaimed tag).name else u := by
    rw [removeFlow_eq, hseal, ← hu]
    by_cases hany : x.entries.any (·.strandedBy tag) = true
    · rw [if_pos hany, List.filter_singleton, hany]
      rfl
    · rw [if_neg hany, List.filter_singleton, Bool.eq_false_of_not_eq_true hany]
      rfl
  rw [hremoved]
  refine ⟨?_, fun hwaits => ?_, fun hstrands hconfirmed => ?_⟩
  · split
    · exact handIfSettled_room huroom _
    · exact ⟨rfl, rfl, rfl, rfl, rfl⟩
  · have hunsettled : (x.reclaimed tag).settled = false := by
      obtain ⟨e, he, hunc⟩ := hwaits
      exact List.all_eq_false.mpr ⟨e, he, by simp [hunc]⟩
    have hstays : u.handIfSettled (x.reclaimed tag).name = u := by
      simp [State.handIfSettled, husealing, hunsettled]
    rw [hstays, ite_self]
    exact ⟨husealing, huqueue⟩
  · have hsettled : (x.reclaimed tag).settled = true :=
      List.all_eq_true.mpr fun e he => by simp [hconfirmed e he]
    have hany : x.entries.any (·.strandedBy tag) = true := by
      obtain ⟨e, -, hstr⟩ := hstrands
      obtain ⟨e', he', hand⟩ := List.any_eq_true.mp hstr
      exact List.any_eq_true.mpr ⟨e', he', (Bool.and_eq_true_iff.mp hand).2⟩
    rw [if_pos hany, handIfSettled_settled husealing hsettled huroom]
    refine ⟨rfl, congrArg (· ++ _) huqueue, ?_⟩
    change ((u.chans.set x.name.chan _).get x.name.chan).maps.handed = _
    rw [quad_get_set_same, hchans]
    rfl

/-- A removal with no map BUILDING or SEALING. -/
theorem removeFlow_unplanned (hlaw : StoreLaw s) (hat : tabGet s.store.flows ix = some f)
    (htag : f.tag = tag) (hbuild : s.planner.building = none) (hseal : s.planner.sealing = []) :
    s.removeFlow tag ix f = s.freed tag ix f ∧
      FreedStore s (s.freed tag ix f) tag ix f (s.tracker.list.filter (·.tag = tag)).length ∧
      StoreLaw (s.freed tag ix f) ∧
      (s.freed tag ix f).tracker.list = s.tracker.list.map (·.orphanedBy tag) ∧
      (s.freed tag ix f).port
        = { s.port with attention := s.port.attention.filter (·.tag ≠ tag) } ∧
      (s.freed tag ix f).planner.building = none ∧ (s.freed tag ix f).planner.sealing = [] := by
  have hnone : s.stranded tag = [] := stranded_nil hbuild hseal tag
  obtain ⟨hstore, hlaw'⟩ := freed_store hlaw hat htag
  obtain ⟨hplan, -, -, htrack, hport, -⟩ := freed_frame s tag ix f
  obtain ⟨-, -, -, hsealing, -, hlist, -, -, hattention, -⟩ := cleared_frame s tag f
  have hkept : s.tracker.list.filter (fun e =>
      e.tag == tag && !([] : List TurnKey).any (e.isTurn ·)) = s.tracker.list.filter (·.tag = tag) :=
    List.filter_congr fun e _ => Bool.and_true _
  rw [hnone, hkept] at hstore
  rw [hnone] at hlist
  refine ⟨removeFlow_quiet hseal, hstore, hlaw', ?_, hport.trans hattention, ?_, ?_⟩
  · simpa only [htrack, List.any_nil, Bool.not_false, List.filter_true] using hlist
  · rw [hplan, cleared_building, hbuild]
    rfl
  · rw [hplan, hsealing, hseal]
    rfl

end

/-- Settles O56: what R46 and R47 take away, and the map that is left. -/
theorem removeFlowFreesTheRecord : Obligations.RemoveFlowFreesTheRecord := by
  intro s tag hready
  refine ⟨fun hnone => exec_answers hready rfl ?unknown, fun f m hlaw hf hm hbuild hseal => ?quiet,
    fun f m x hlaw hf hm hcase => ?opened⟩
  case unknown =>
    have hnone' : s.takeFrame.flowIx tag = none := hnone
    simp only [State.removeTag, hnone']
    rfl
  case quiet =>
    intro left
    obtain ⟨ix, hat, hexec⟩ := exec_removeFlow hready hf
    obtain ⟨hquiet, hstore, -, hlist, hport, -⟩ :=
      removeFlow_unplanned (s := s.takeFrame) hlaw hat (hlaw.bound hf) hbuild hseal
    obtain ⟨hother, hheld⟩ := freed_sweep (s := s.takeFrame) (tag := tag) (ix := ix) (f := f) hbuild
    obtain ⟨hplan, -, hlink, -⟩ := freed_frame s.takeFrame tag ix f
    obtain ⟨-, -, hlists, -, -, -, hqueue, hinTx, -⟩ := cleared_frame s.takeFrame tag f
    rw [hquiet] at hexec
    refine ⟨_, hexec, flow_of_drained hstore.drained, hstore.drained, hlist, hstore.modemAt hm, ?_,
      congrArg Port.attention hport, (congrArg Link.queue hlink).trans hqueue,
      (congrArg Link.inTx hlink).trans hinTx, rfl, hother, hheld⟩
    change (s.takeFrame.freed tag ix f).planner.ready.get f.cls = _
    rw [hplan, hlists, quad_get_set_same, hlaw.bound hf]
    rfl
  case opened =>
    intro stranded orphaned x' stays left
    obtain ⟨ix, hat, hexec⟩ := exec_removeFlow hready hf
    have hopen : (s.planner.building.map (·.map)).toList ++ s.planner.sealing = [x] := by
      obtain ⟨⟨b, hb, rfl⟩, hseal⟩ | ⟨hb, hseal, -⟩ := hcase <;> simp [hb, hseal]
    have hstrands : stranded = x.strands tag := by
      funext slot
      simp only [stranded, TurnMap.strands, Entry.strandedBy, Bool.and_assoc]
    have hx' : x' = x.reclaimed tag := by
      simp only [x', hstrands]
      rfl
    have hstays : stays = x.keepsPending tag := by
      funext e
      simp only [stays, hstrands]
      rfl
    rw [hx', hstrands]
    have hstore := (freed_store (s := s.takeFrame) hlaw hat (hlaw.bound hf)).1
    obtain ⟨hplan, hmaps, hlink, htrack, hport, -⟩ := freed_frame s.takeFrame tag ix f
    obtain ⟨-, -, -, hsealing, houtput, -, hqueue, hinTx, -⟩ := cleared_frame s.takeFrame tag f
    have hlist := cleared_list (s := s.takeFrame) (tag := tag) hopen f
    have hholds := cleared_localHolds (s := s.takeFrame) (tag := tag) hopen f
    have hbuilding := cleared_building s.takeFrame tag f
    have hleft : (s.takeFrame.tracker.list.filter fun e => e.tag == tag &&
        !(s.takeFrame.stranded tag).any (e.isTurn ·)).length = left := by
      simp only [keepsPending_eq (s := s.takeFrame) hopen, left, hstays]
      rfl
    rw [hleft] at hstore
    have hsame : let t := s.takeFrame.removeFlow tag ix f
        t.store = (s.takeFrame.freed tag ix f).store ∧
        t.tracker = (s.takeFrame.freed tag ix f).tracker ∧ t.link = (s.takeFrame.freed tag ix f).link ∧
        t.port = (s.takeFrame.freed tag ix f).port ∧
        t.planner.localHolds = (s.takeFrame.freed tag ix f).planner.localHolds := by
      obtain ⟨-, hseal⟩ | ⟨hb, hseal, hroom⟩ := hcase
      · rw [removeFlow_quiet (by exact hseal)]
        exact ⟨rfl, rfl, rfl, rfl, rfl⟩
      · exact (removeFlow_sealing (s := s.takeFrame) hb hseal hroom ix f).1
    obtain ⟨hsame, htrack', hlink', -, hholds'⟩ := hsame
    have hstore' := hstore.of_store hsame
    refine ⟨_, hexec, flow_of_drained hstore'.drained, hstore'.drained, ?_, ?_, hstore'.modemAt hm,
      (congrArg Link.queue (hlink'.trans hlink)).trans hqueue,
      (congrArg Link.inTx (hlink'.trans hlink)).trans hinTx, rfl, fun b hb => ?_, fun hb => ?_⟩
    · rw [hstays]
      exact (congrArg Tracker.list (htrack'.trans htrack)).trans hlist
    · exact hholds'.trans ((congrArg Planner.localHolds hplan).trans hholds)
    · have hseal : s.planner.sealing = [] := by
        obtain ⟨-, hseal⟩ | ⟨hnone, -⟩ := hcase
        · exact hseal
        · cases hb.symm.trans hnone
      have hbx : b.map = x := by
        rw [hb, hseal] at hopen
        exact List.head_eq_of_cons_eq hopen
      rw [removeFlow_quiet (by exact hseal)]
      refine ⟨(congrArg Planner.building hplan).trans ?_,
        (congrArg Planner.sealing hplan).trans (hsealing.trans (congrArg (List.map _) hseal)),
        (congrArg MapPort.queue hmaps).trans houtput⟩
      rw [hbuilding, show s.takeFrame.planner.building = some b from hb, Option.map_some, hbx,
        reclaimed_eq (s := s.takeFrame) hopen, hlaw.bound hf]
      cases b.phase <;> rfl
    · obtain ⟨⟨b, hsome, -⟩, -⟩ | ⟨-, hseal, hroom⟩ := hcase
      · cases hsome.symm.trans hb
      · exact (removeFlow_sealing (s := s.takeFrame) hb hseal hroom ix f).2

end Sys2Proof.Machine
end

section
/-! SUPPORT. The commands on a modem: REMOVE MODEM, PIN MODEM, READ MODEM (3.1, 9.3). -/

namespace Sys2Proof.Machine

-- One proof after another: side by side, as many as stand here need more threads than the check gives.
set_option Elab.async false

/-! ### Tables without several of their records -/

theorem tabDel_eq_filter {α : Type} {t : List (Nat × α)} (h : tabWf t = true) (k : Nat) :
    tabDel t k = t.filter (·.1 != k) := by
  induction t with
  | nil => rfl
  | cons a r ih =>
    obtain ⟨j, x⟩ := a
    obtain ⟨hr, hlt⟩ := (tabWf_cons j x r).mp h
    unfold tabDel
    split
    · rename_i hjk
      have hstay : r.filter (·.1 != k) = r :=
        List.filter_eq_self.mpr fun e he => by
          have := hlt e he
          exact bne_iff_ne.mpr (by omega)
      rw [List.filter_cons_of_neg (by simp [hjk]), hstay]
    · rename_i hjk
      rw [List.filter_cons_of_pos (by simp [hjk]), ih hr]

theorem tabDel_tabPut {α : Type} {t : List (Nat × α)} (h : tabWf t = true) (k : Nat) (v : α) :
    tabDel (tabPut t k v) k = tabDel t k := by
  induction t with
  | nil => simp [tabPut, tabDel]
  | cons a r ih =>
    obtain ⟨j, x⟩ := a
    obtain ⟨hr, hlt⟩ := (tabWf_cons j x r).mp h
    unfold tabPut
    split
    · rename_i hkj
      have hstay : ((j, x) :: r).filter (·.1 != k) = (j, x) :: r :=
        List.filter_eq_self.mpr fun e he => bne_iff_ne.mpr (by
          obtain rfl | he := List.mem_cons.mp he
          · exact Nat.ne_of_gt hkj
          · exact Nat.ne_of_gt (Nat.lt_trans hkj (hlt e he)))
      rw [tabDel_eq_filter h, hstay, tabDel, if_pos rfl]
    · split
      · rename_i hkj
        simp [tabDel, hkj]
      · rename_i hkj
        rw [tabDel, if_neg (Ne.symm hkj), tabDel, if_neg (Ne.symm hkj), ih hr]

theorem tabWf_nodup {α : Type} {t : List (Nat × α)} (h : tabWf t = true) : (t.map (·.1)).Nodup := by
  induction t with
  | nil => exact List.nodup_nil
  | cons a r ih =>
    obtain ⟨j, x⟩ := a
    obtain ⟨hr, hlt⟩ := (tabWf_cons j x r).mp h
    refine List.nodup_cons.mpr ⟨fun hmem => ?_, ih hr⟩
    obtain ⟨e, he, hje⟩ := List.mem_map.mp hmem
    have := hlt e he
    simp only at hje
    omega

/-! ### The removal of several records (R35) -/

/-- Whether one of the records carries the tag. -/
def carries (gone : List (Nat × Flow)) (tag : Tag) : Bool := gone.any (·.2.tag == tag)

/-- The station after the removal of several flow records, all of the modem `i`. -/
structure WithoutRecords (i : Nat) (s t : State) (gone : List (Nat × Flow)) : Prop where
  flows : t.store.flows = s.store.flows.filter (fun x => decide (x.1 ∉ gone.map (·.1)))
  modems : tabDel t.store.modems i = tabDel s.store.modems i
  drained : ∀ tag, carries gone tag = true →
    t.tagState tag = drainedWith (s.tracker.list.filter (·.tag = tag)).length
  others : ∀ tag, carries gone tag = false → t.tagState tag = s.tagState tag
  list : t.tracker.list = s.tracker.list.map
    (fun e => if carries gone e.tag then { e with orphan := true } else e)
  attention : t.port.attention = s.port.attention.filter (fun a => !carries gone a.tag)

theorem withoutRecords_nil (i : Nat) (s : State) : WithoutRecords i s s [] := by
  refine ⟨?_, rfl, (fun tag h => nomatch h), fun tag _ => rfl, ?_, ?_⟩ <;> simp [carries]

theorem orphanedBy_filter (l : List PendingEntry) (tag tag' : Tag) :
    ((l.map (·.orphanedBy tag)).filter (·.tag = tag')).length = (l.filter (·.tag = tag')).length := by
  rw [List.filter_map, List.length_map]
  refine congrArg List.length (List.filter_congr fun e _ => ?_)
  rw [Function.comp_apply, orphanedBy_tag]

theorem WithoutRecords.cons {i : Nat} {s u t : State} {ix : Nat} {f : Flow} {gone : List (Nat × Flow)}
    (hlaw : StoreLaw s) (hmodem : f.modemIx = i)
    (hfirst : FreedStore s u f.tag ix f (s.tracker.list.filter (·.tag = f.tag)).length)
    (hlist : u.tracker.list = s.tracker.list.map (·.orphanedBy f.tag))
    (hattention : u.port.attention = s.port.attention.filter (·.tag ≠ f.tag))
    (h : WithoutRecords i u t gone) : WithoutRecords i s t ((ix, f) :: gone) := by
  obtain ⟨⟨⟨hwfm, -⟩, ⟨hwf, -⟩, -⟩, -, -⟩ := hlaw
  have hcarries (tag : Tag) : carries ((ix, f) :: gone) tag = (f.tag == tag || carries gone tag) := rfl
  refine ⟨?flows, ?modems, fun tag hc => ?drained, fun tag hc => ?others, ?list, ?attention⟩
  case flows =>
    rw [h.flows, hfirst.flows, tabDel_eq_filter hwf, List.filter_filter]
    refine List.filter_congr fun x _ => ?_
    rw [Bool.eq_iff_iff]
    simp [and_comm]
  case modems =>
    rw [h.modems]
    cases hm : s.modemAt f.modemIx with
    | none => rw [hfirst.noModem hm]
    | some m => rw [hfirst.modem m hm, hmodem, tabDel_tabPut hwfm]
  case drained =>
    by_cases hg : carries gone tag = true
    · rw [h.drained tag hg, hlist, orphanedBy_filter]
    · have htag : f.tag = tag := by simpa [hcarries, hg] using hc
      rw [h.others tag (Bool.eq_false_of_not_eq_true hg), ← htag, hfirst.drained]
  case others =>
    rw [hcarries, Bool.or_eq_false_iff] at hc
    rw [h.others tag hc.2, hfirst.others tag (Ne.symm (ne_of_beq_false hc.1))]
  case list =>
    rw [h.list, hlist, List.map_map]
    refine List.map_congr_left fun e _ => ?_
    rw [Function.comp_apply, orphanedBy_tag, hcarries, PendingEntry.orphanedBy]
    by_cases he : e.tag = f.tag
    · have heq : (f.tag == e.tag) = true := beq_iff_eq.mpr he.symm
      rw [if_pos he, heq, Bool.true_or, if_pos rfl, ite_self]
    · rw [if_neg he, beq_false_of_ne (Ne.symm he), Bool.false_or]
  case attention =>
    rw [h.attention, hattention, List.filter_filter]
    refine List.filter_congr fun a _ => ?_
    have hne : decide (a.tag ≠ f.tag) = !(f.tag == a.tag) := by
      rw [Bool.eq_iff_iff, decide_eq_true_iff, Bool.not_eq_true', beq_eq_false_iff_ne, ne_comm]
    rw [hcarries, Bool.not_or, Bool.and_comm, hne]

theorem removeRecord_eq {s : State} {ix : Nat} {f : Flow} (h : tabGet s.store.flows ix = some f) :
    s.removeRecord ix = s.removeFlow f.tag ix f := by
  simp only [State.removeRecord, h]

theorem foldl_removeRecord {i : Nat} (gone : List (Nat × Flow)) {s : State} (hlaw : StoreLaw s)
    (hbuild : s.planner.building = none) (hseal : s.planner.sealing = [])
    (hnodup : (gone.map (·.1)).Nodup)
    (hgone : ∀ x ∈ gone, tabGet s.store.flows x.1 = some x.2 ∧ x.2.modemIx = i) :
    WithoutRecords i s ((gone.map (·.1)).foldl State.removeRecord s) gone := by
  induction gone generalizing s with
  | nil => exact withoutRecords_nil i s
  | cons x gone ih =>
    obtain ⟨ix, f⟩ := x
    obtain ⟨hat, hmodem⟩ := hgone _ List.mem_cons_self
    obtain ⟨hnot, hnodup⟩ := List.nodup_cons.mp hnodup
    obtain ⟨hquiet, hstore, hlaw', hlist, hport, hbuild', hseal'⟩ :=
      removeFlow_unplanned hlaw hat rfl hbuild hseal
    have hrest : ∀ y ∈ gone, tabGet (s.freed f.tag ix f).store.flows y.1 = some y.2 ∧ y.2.modemIx = i := by
      intro y hy
      obtain ⟨⟨-, ⟨hwf, -⟩, -⟩, -, -⟩ := id hlaw
      obtain ⟨hy1, hy2⟩ := hgone y (List.mem_cons_of_mem _ hy)
      have hne : y.1 ≠ ix := fun he => hnot (List.mem_map.mpr ⟨y, hy, he⟩)
      rw [hstore.flows, tabGet_tabDel _ _ _ hwf, if_neg hne]
      exact ⟨hy1, hy2⟩
    rw [List.map_cons, List.foldl_cons, removeRecord_eq hat, hquiet]
    exact (ih hlaw' hbuild' hseal' hnodup hrest).cons hlaw hmodem hstore hlist
      (congrArg Port.attention hport)

/-! ### REMOVE MODEM, PIN MODEM, READ MODEM (R35, R50, R150) -/

theorem exec_removeModem {s : State} {key : Key} {i : Nat} (hready : s.hostReady)
    (hix : s.modemIx key = some i) : exec (.removeModem key) s
      = .next ((((s.flowsOf i).foldl State.removeRecord s.takeFrame).freeModem i).answer 0x04
          (plain .done)) := by
  obtain ⟨hslot, hlife⟩ := hready
  have hremoved : s.takeFrame.removeModem key
      = (((s.flowsOf i).foldl State.removeRecord s.takeFrame).freeModem i, plain .done) := by
    have hix' : s.takeFrame.modemIx key = some i := hix
    simp only [State.removeModem, hix']
    rfl
  change Host.Outcome.next (s.hostCommand 0x04 inService fun s => s.removeModem key) = _
  simp only [State.hostCommand, hslot, inService_eq_true hlife, if_true, hremoved]

/-- The flows of a modem in a store that keeps its law, and those that stay without them. -/
theorem flowsOf_stay {s : State} (hlaw : StoreLaw s) (i : Nat) {x : Nat × Flow}
    (hx : x ∈ s.store.flows) : (x.1 ∈ s.flowsOf i) ↔ x.2.modemIx = i := by
  obtain ⟨⟨-, ⟨hwf, -⟩, -⟩, -, -⟩ := hlaw
  simp only [State.flowsOf, List.mem_map, List.mem_filter, beq_iff_eq]
  constructor
  · rintro ⟨y, ⟨hy, hmodem⟩, hindex⟩
    have hsame := tabGet_of_mem hwf hy
    rw [hindex, tabGet_of_mem hwf hx] at hsame
    rw [Option.some.inj hsame, hmodem]
  · exact fun hmodem => ⟨x, ⟨hx, hmodem⟩, rfl⟩

/-- Settles O53: the removal record by record, and the two commands by the record of the key. -/
theorem modemRemovedPinnedAndRead : Obligations.ModemRemovedPinnedAndRead := by
  intro s key hready
  refine ⟨fun hnone => ⟨exec_answers hready rfl ?_, fun p hp => exec_answers hready rfl ?_,
    exec_answers hready rfl ?_⟩, exec_answers hready rfl rfl, fun i m hix hat =>
      ⟨fun hfree => ?_, fun hlaw hbuild hseal => ?_, fun p pin hpin => ?_, exec_answers hready rfl ?_⟩⟩
  · have hnone' : s.takeFrame.modemIx key = none := hnone
    simp only [State.removeModem, hnone']
    rfl
  · have hnone' : s.takeFrame.modemIx key = none := hnone
    have hnamed : ∀ q : BitVec 2, q ≠ 3 → (pinOf q).isSome = true := by decide
    obtain ⟨pin, hpin⟩ := Option.isSome_iff_exists.mp (hnamed p hp)
    simp only [State.pinModem, hpin, hnone']
    rfl
  · have hnone' : s.takeFrame.modemIx key = none := hnone
    simp only [State.readModem, hnone']
    rfl
  · have hflows : s.flowsOf i = [] := by
      simpa [State.flowsOf] using hfree
    have hix' : s.takeFrame.modemIx key = some i := hix
    refine exec_in_service (t := s.freeModem i) hready rfl hready.1 ?_
    simp only [State.removeModem, hix', show s.takeFrame.flowsOf i = [] from hflows]
    rfl
  · intro gone left
    let records := s.store.flows.filter fun e => e.2.modemIx == i
    have hgone (tag : Tag) : carries records tag = gone tag := by
      simp only [carries, records, List.any_filter, gone]
    have hwithout : WithoutRecords i s.takeFrame ((s.flowsOf i).foldl State.removeRecord s.takeFrame)
        records := by
      obtain ⟨⟨-, ⟨hwf, -⟩, -⟩, -, -⟩ := id hlaw
      refine foldl_removeRecord records (s := s.takeFrame) hlaw hbuild hseal
        ((tabWf_nodup hwf).sublist (List.filter_sublist.map _)) fun x hx => ?_
      obtain ⟨hmem, hmodem⟩ := List.mem_filter.mp hx
      exact ⟨tabGet_of_mem hwf hmem, beq_iff_eq.mp hmodem⟩
    refine ⟨_, exec_removeModem hready hix, hwithout.modems, hwithout.flows.trans ?_,
      fun tag h => ?_, fun tag h => hwithout.others tag ((hgone tag).trans h), ?_, ?_, rfl⟩
    · refine List.filter_congr fun x hx => ?_
      rw [Bool.eq_iff_iff, decide_eq_true_iff, bne_iff_ne]
      exact not_congr (flowsOf_stay hlaw i hx)
    · have hdrained := hwithout.drained tag ((hgone tag).trans h)
      exact ⟨flow_of_drained hdrained, hdrained⟩
    · have hlist := hwithout.list
      simp only [hgone] at hlist
      exact hlist
    · have hattention := hwithout.attention
      simp only [hgone] at hattention
      exact hattention
  · intro m' shown
    have hix' : s.takeFrame.modemIx key = some i := hix
    have hat' : s.takeFrame.modemAt i = some m := hat
    have hof : pinOf p = some pin := by
      obtain ⟨rfl, rfl⟩ | ⟨rfl, rfl⟩ | ⟨rfl, rfl⟩ := hpin <;> rfl
    have hshown : ({ m with pin := pin } : Modem).profileInForce = shown := by
      cases pin <;> cases hstate : m.state <;> simp [Modem.profileInForce, shown, hstate]
    refine exec_in_service (t := s.writeModem i m') hready rfl hready.1 ?_
    simp only [State.pinModem, hof, hix', hat', hshown]
    rfl
  · have hix' : s.takeFrame.modemIx key = some i := hix
    have hat' : s.takeFrame.modemAt i = some m := hat
    simp only [State.readModem, hix', hat']
    rfl

end Sys2Proof.Machine
end

section
/-! SUPPORT. LOAD START: the checks of a start record and entry to LISTEN (1.3, 11.2). -/

namespace Sys2Proof.Machine

-- One proof after another: side by side, as many as stand here need more threads than the check gives.
set_option Elab.async false

/-! ### Blocks of checks -/

/-- Every check of a list passes. -/
def Passing (l : List StartCheck) : Prop := ∀ k ∈ l, k.passes = true

theorem passing_iff_find {l : List StartCheck} : Passing l ↔ l.find? (!·.passes) = none := by
  simp [Passing]

theorem passing_singleton {k : StartCheck} : Passing [k] ↔ k.passes = true := by
  simp [Passing]

theorem mem_quadIndexes (c : Chan) : c ∈ quadIndexes := by
  revert c
  decide

/-- The checks of a start record, block by block in the order of R168's table. -/
def checkBlocks (r : StartRecord) : List (List StartCheck) :=
  [enabledChecks r .channelField channelFieldsOk,
   [⟨quadIndexes.any fun c => (r.channels.get c).enabled, .channelField, 4⟩],
   enabledChecks r .qpsRange (fun p => inRange p.q.toNat 16 256),
   [⟨decide (4096 ≤ r.deliverLead.toNat), .leadField, 0⟩],
   [⟨decide (r.deliverLead.toNat + 8192 ≤ r.buildLead.toNat), .leadField, 1⟩],
   [⟨decide (r.buildLead.toNat ≤ 1048576), .leadField, 2⟩],
   enabledChecks r .windowField windowFieldsOk,
   profileChecks r .profileField profileFieldsOk,
   [⟨inRange r.minGrant.toNat 1 16383, .minGrant, 16⟩],
   profileChecks r .minGrant (fun p => decide (r.minGrant.toNat ≤ p.maxTurn.toNat)),
   profileChecks r .profileFit (fun p => quadIndexes.all fun c =>
     !(r.channels.get c).enabled || profileFits p (r.channels.get c)),
   [⟨inRange r.t1.toNat 1 199, .healthField, 0⟩], [⟨inRange r.t2.toNat 1 199, .healthField, 1⟩],
   [⟨inRange r.t3.toNat 1 199, .healthField, 2⟩],
   [⟨inRange r.recover.toNat 1 100, .healthField, 3⟩],
   [⟨inRange r.reportWait.toNat 8192 4194304, .reportWait, 0⟩],
   [⟨inRange r.staleLimit.toNat 1 900000, .staleLimit, 0⟩]]

theorem startChecks_eq (r : StartRecord) : startChecks r = (checkBlocks r).flatten := by
  simp [startChecks, checkBlocks]

theorem firstFailure_none_iff {r : StartRecord} :
    firstFailure r = none ↔ ∀ b ∈ checkBlocks r, Passing b := by
  rw [firstFailure, startChecks_eq, ← passing_iff_find]
  simp only [Passing, List.mem_flatten, forall_exists_index, and_imp]
  exact ⟨fun h b hb k hk => h k b hb hk, fun h k b hb hk => h b hb k hk⟩

/-- The first failure lies in the first block that fails. -/
theorem firstFailure_of_block {r : StartRecord} {pre post : List (List StartCheck)}
    {b : List StartCheck} {k : StartCheck} (h : checkBlocks r = pre ++ b :: post)
    (hpre : ∀ b ∈ pre, Passing b) (hb : b.find? (!·.passes) = some k) : firstFailure r = some k := by
  have hnone : pre.flatten.find? (!·.passes) = none := by
    rw [← passing_iff_find]
    intro k hk
    obtain ⟨b, hmem, hk⟩ := List.mem_flatten.mp hk
    exact hpre b hmem k hk
  rw [firstFailure, startChecks_eq, h, List.flatten_append, List.flatten_cons, List.find?_append,
    hnone, List.find?_append, hb]
  rfl

/-! ### The blocks of the channels and of the profiles -/

section
variable {r : StartRecord} {code : CheckCode} {ok : ChannelPart → Bool} {okp : ProfilePart → Bool}

theorem enabledChecks_passing : Passing (enabledChecks r code ok) ↔
    ∀ c, (r.channels.get c).enabled = true → ok (r.channels.get c) = true := by
  simp only [Passing, enabledChecks, List.mem_map, forall_exists_index, and_imp]
  constructor
  · intro h c hon
    have := h _ c (mem_quadIndexes c) rfl
    simpa [hon] using this
  · rintro h k c - rfl
    cases hon : (r.channels.get c).enabled
    · rfl
    · simp [h c hon]

/-- The first failing check of a list of checks, by its place. -/
theorem find_at {l : List StartCheck} {k : StartCheck} (i : Nat) (hk : l[i]? = some k)
    (hbad : k.passes = false) (hpre : ∀ j < i, ∀ k', l[j]? = some k' → k'.passes = true) :
    l.find? (!·.passes) = some k := by
  obtain ⟨h, hi⟩ := List.getElem?_eq_some_iff.mp hk
  rw [List.find?_eq_some_iff_getElem]
  exact ⟨by simp [hbad], i, h, hi, fun j hj => by
    simp [hpre j hj _ (List.getElem?_eq_getElem (Nat.lt_trans hj h))]⟩

theorem quadIndexes_getElem? (c : Chan) : quadIndexes[c.val]? = some c := by
  match c with
  | 0 | 1 | 2 | 3 => rfl

theorem enabledChecks_find {c : Chan} (hon : (r.channels.get c).enabled = true)
    (hbad : ok (r.channels.get c) = false)
    (hothers : ∀ c' ≠ c, (r.channels.get c').enabled = true → ok (r.channels.get c') = true) :
    (enabledChecks r code ok).find? (!·.passes) = some ⟨false, code, c.val⟩ := by
  have hat (c : Chan) : (enabledChecks r code ok)[c.val]?
      = some ⟨!(r.channels.get c).enabled || ok (r.channels.get c), code, c.val⟩ := by
    rw [enabledChecks, List.getElem?_map, quadIndexes_getElem?]
    rfl
  refine find_at c.val (by rw [hat, hon, hbad]; rfl) rfl fun j hj k hk => ?_
  have hne : (⟨j, by omega⟩ : Chan) ≠ c := fun he => by simp [← he] at hj
  have hk' := (hat ⟨j, by omega⟩).symm.trans hk
  rw [← Option.some.inj hk']
  cases hj' : (r.channels.get ⟨j, by omega⟩).enabled
  · rfl
  · simp [hothers _ hne hj']

theorem profile_getD (r : StartRecord) {i : Nat} (h : i < 16) :
    r.profiles.getD i noProfile = r.profiles[i] := by
  simp [Vector.getD, h]

theorem profileChecks_passing : Passing (profileChecks r code okp) ↔
    ∀ pr ∈ r.profiles, okp pr = true := by
  simp only [Passing, profileChecks, List.mem_map, List.mem_range, forall_exists_index, and_imp,
    Vector.forall_mem_iff_forall_getElem]
  constructor
  · intro h i hi
    have := h _ i hi rfl
    rwa [profile_getD r hi] at this
  · rintro h k i hi rfl
    rw [profile_getD r hi]
    exact h i hi

theorem profileChecks_find {i : Nat} (h : i < 16) (hbad : okp r.profiles[i] = false)
    (hothers : ∀ (j : Nat) (hj : j < i), okp r.profiles[j] = true) :
    (profileChecks r code okp).find? (!·.passes) = some ⟨false, code, i⟩ := by
  have hat (j : Nat) (hj : j < 16) : (profileChecks r code okp)[j]?
      = some ⟨okp r.profiles[j], code, j⟩ := by
    simp only [profileChecks, List.getElem?_map, List.getElem?_range hj, Option.map_some,
      profile_getD r hj]
  refine find_at i (by rw [hat i h, hbad]) rfl fun j hj k hk => ?_
  rw [hat j (by omega)] at hk
  rw [← Option.some.inj hk]
  exact hothers j hj

end

/-! ### What a good record is (R168) -/

theorem inRange_iff {n lo hi : Nat} : inRange n lo hi = true ↔ lo ≤ n ∧ n ≤ hi := by
  simp [inRange]

theorem channelFieldsOk_iff {p : ChannelPart} : channelFieldsOk p = true ↔
    (p.slotTicks = 16 ∨ p.slotTicks = 32 ∨ p.slotTicks = 64 ∨ p.slotTicks = 128 ∨
      p.slotTicks = 256 ∨ p.slotTicks = 512) ∧
    64 ≤ p.periodSlots.toNat ∧ p.periodSlots.toNat ≤ 2048 ∧ p.periodSlots.toNat % 8 = 0 ∧
    p.slotTicks.toNat * p.periodSlots.toNat ≤ 1048576 := by
  have hslots : [16, 32, 64, 128, 256, 512].contains p.slotTicks.toNat = true ↔
      (p.slotTicks = 16 ∨ p.slotTicks = 32 ∨ p.slotTicks = 64 ∨ p.slotTicks = 128 ∨
        p.slotTicks = 256 ∨ p.slotTicks = 512) := by
    simp only [List.contains_iff_mem, List.mem_cons, List.not_mem_nil, or_false]
    bv_omega
  simp only [channelFieldsOk, Bool.and_eq_true, hslots, inRange_iff, beq_iff_eq, decide_eq_true_iff,
    and_assoc]
  rfl

theorem windowFieldsOk_iff {p : ChannelPart} : windowFieldsOk p = true ↔
    1 ≤ p.wMin.toNat ∧ p.wMin.toNat ≤ p.wMax.toNat ∧ p.wMax.toNat ≤ 256 ∧
      1 ≤ p.joinEvery.toNat ∧ p.backoffStart.toNat ≤ p.backoffEnd.toNat := by
  simp only [windowFieldsOk, Bool.and_eq_true, inRange_iff, decide_eq_true_iff]
  omega

theorem profileFieldsOk_iff {p : ProfilePart} : profileFieldsOk p = true ↔
    8 ≤ p.preamble.toNat ∧ p.preamble.toNat ≤ 512 ∧ 1 ≤ p.bitsPerSymbol.toNat ∧
      p.bitsPerSymbol.toNat ≤ 12 ∧ 16 ≤ p.k.toNat ∧ p.p.toNat ≤ 32 ∧ p.p.toNat % 2 = 0 ∧
      64 ≤ p.maxTurn.toNat ∧ p.maxTurn.toNat ≤ 16383 := by
  simp only [profileFieldsOk, Bool.and_eq_true, inRange_iff, decide_eq_true_iff, beq_iff_eq]
  omega

/-- The largest turn of a profile fits every enabled channel (R27). -/
def fitsAll (r : StartRecord) (pr : ProfilePart) : Bool :=
  quadIndexes.all fun c => !(r.channels.get c).enabled || profileFits pr (r.channels.get c)

theorem fitsAll_iff {r : StartRecord} {pr : ProfilePart} : fitsAll r pr = true ↔
    ∀ c, (r.channels.get c).enabled = true →
      (r.channels.get c).wMax.toNat + (r.channels.get c).joinSlots.toNat
        < (r.channels.get c).periodSlots.toNat ∧
      slotsFor pr (r.channels.get c).q.toNat pr.maxTurn.toNat
        ≤ (r.channels.get c).periodSlots.toNat - (r.channels.get c).wMax.toNat
          - (r.channels.get c).joinSlots.toNat := by
  simp only [fitsAll, List.all_eq_true, mem_quadIndexes, true_imp_iff, Bool.or_eq_true,
    Bool.not_eq_true', profileFits, Bool.and_eq_true, decide_eq_true_iff]
  refine forall_congr' fun c => ?_
  simp only [← Bool.not_eq_true, ← imp_iff_not_or]
  rfl

theorem anyEnabled_iff {r : StartRecord} :
    (quadIndexes.any fun c => (r.channels.get c).enabled) = true ↔
      ∃ c, (r.channels.get c).enabled = true := by
  simp only [List.any_eq_true, mem_quadIndexes, true_and]

/-- A good record, block by block. -/
structure GoodRecord (r : StartRecord) : Prop where
  fields : ∀ c, (r.channels.get c).enabled = true → channelFieldsOk (r.channels.get c) = true
  any : ∃ c, (r.channels.get c).enabled = true
  q : ∀ c, (r.channels.get c).enabled = true →
    16 ≤ (r.channels.get c).q.toNat ∧ (r.channels.get c).q.toNat ≤ 256
  leads : 4096 ≤ r.deliverLead.toNat ∧ r.deliverLead.toNat + 8192 ≤ r.buildLead.toNat ∧
    r.buildLead.toNat ≤ 1048576
  windows : ∀ c, (r.channels.get c).enabled = true → windowFieldsOk (r.channels.get c) = true
  profiles : ∀ pr ∈ r.profiles, profileFieldsOk pr = true
  grant : 1 ≤ r.minGrant.toNat ∧ r.minGrant.toNat ≤ 16383
  floor : ∀ pr ∈ r.profiles, r.minGrant.toNat ≤ pr.maxTurn.toNat
  fits : ∀ pr ∈ r.profiles, fitsAll r pr = true
  health : 1 ≤ r.t1.toNat ∧ r.t1.toNat ≤ 199 ∧ 1 ≤ r.t2.toNat ∧ r.t2.toNat ≤ 199 ∧
    1 ≤ r.t3.toNat ∧ r.t3.toNat ≤ 199 ∧ 1 ≤ r.recover.toNat ∧ r.recover.toNat ≤ 100
  wait : 8192 ≤ r.reportWait.toNat ∧ r.reportWait.toNat ≤ 4194304
  stale : 1 ≤ r.staleLimit.toNat ∧ r.staleLimit.toNat ≤ 900000

theorem goodRecord_iff {r : StartRecord} : firstFailure r = none ↔ GoodRecord r := by
  rw [firstFailure_none_iff]
  simp only [checkBlocks, List.forall_mem_cons, List.not_mem_nil, false_imp_iff, implies_true,
    and_true, passing_singleton, enabledChecks_passing, profileChecks_passing, anyEnabled_iff,
    inRange_iff, decide_eq_true_iff]
  constructor
  · rintro ⟨hfields, hany, hq, hlead0, hlead1, hlead2, hwindows, hprofiles, hgrant, hfloor, hfits,
      ⟨h1, h1'⟩, ⟨h2, h2'⟩, ⟨h3, h3'⟩, ⟨h4, h4'⟩, hwait, hstale⟩
    exact ⟨hfields, hany, hq, ⟨hlead0, hlead1, hlead2⟩, hwindows, hprofiles, hgrant, hfloor, hfits,
      ⟨h1, h1', h2, h2', h3, h3', h4, h4'⟩, hwait, hstale⟩
  · rintro ⟨hfields, hany, hq, ⟨hlead0, hlead1, hlead2⟩, hwindows, hprofiles, hgrant, hfloor, hfits,
      ⟨h1, h1', h2, h2', h3, h3', h4, h4'⟩, hwait, hstale⟩
    exact ⟨hfields, hany, hq, hlead0, hlead1, hlead2, hwindows, hprofiles, hgrant, hfloor, hfits,
      ⟨h1, h1'⟩, ⟨h2, h2'⟩, ⟨h3, h3'⟩, ⟨h4, h4'⟩, hwait, hstale⟩

/-! ### The first failing check of a record that differs from a good one -/

/-- A record with one channel part replaced. -/
def withChan (r : StartRecord) (c : Chan) (p : ChannelPart) : StartRecord :=
  { r with channels := r.channels.set c p }

/-- A record with one profile replaced. -/
def withProfile (r : StartRecord) (i : Nat) (h : i < 16) (pr : ProfilePart) : StartRecord :=
  { r with profiles := r.profiles.set i pr }

/-- A block fails whose predecessors are those of a good record. -/
theorem firstFailure_at {r r' : StartRecord} {k : StartCheck} {b : List StartCheck} (n : Nat)
    (hgood : firstFailure r = none) (hsame : (checkBlocks r').take n = (checkBlocks r).take n)
    (hat : (checkBlocks r')[n]? = some b) (hb : b.find? (!·.passes) = some k) :
    firstFailure r' = some k := by
  obtain ⟨h, hn⟩ := List.getElem?_eq_some_iff.mp hat
  have hsplit : checkBlocks r' = (checkBlocks r').take n ++ b :: (checkBlocks r').drop (n + 1) := by
    rw [← hn, List.cons_getElem_drop_succ, List.take_append_drop]
  refine firstFailure_of_block hsplit (fun b' hb' => ?_) hb
  rw [hsame] at hb'
  exact firstFailure_none_iff.mp hgood b' (List.mem_of_mem_take hb')

/-- A block fails after one that passes, and before them are those of a good record. -/
theorem firstFailure_after {r r' : StartRecord} {k : StartCheck} {b1 b : List StartCheck} (n : Nat)
    (hgood : firstFailure r = none) (hsame : (checkBlocks r').take n = (checkBlocks r).take n)
    (hat1 : (checkBlocks r')[n]? = some b1) (hb1 : Passing b1)
    (hat : (checkBlocks r')[n + 1]? = some b) (hb : b.find? (!·.passes) = some k) :
    firstFailure r' = some k := by
  obtain ⟨h, hn⟩ := List.getElem?_eq_some_iff.mp hat
  have hsplit : checkBlocks r'
      = (checkBlocks r').take (n + 1) ++ b :: (checkBlocks r').drop (n + 1 + 1) := by
    rw [← hn, List.cons_getElem_drop_succ, List.take_append_drop]
  refine firstFailure_of_block hsplit (fun b' hb' => ?_) hb
  rw [List.take_add_one, hat1, hsame, List.mem_append] at hb'
  obtain hb' | hb' := hb'
  · exact firstFailure_none_iff.mp hgood b' (List.mem_of_mem_take hb')
  · obtain rfl : b' = b1 := by simpa using hb'
    exact hb1

theorem find_singleton {ok : Bool} {code : CheckCode} {item : Nat} (h : ok = false) :
    [(⟨ok, code, item⟩ : StartCheck)].find? (!·.passes) = some ⟨false, code, item⟩ := by
  rw [h]
  rfl

theorem inRange_eq_false {n lo hi : Nat} (h : n < lo ∨ hi < n) : inRange n lo hi = false := by
  rw [Bool.eq_false_iff, ne_eq, inRange_iff]
  omega

section
variable {r : StartRecord} {c : Chan} {p : ChannelPart} {code : CheckCode} {ok : ChannelPart → Bool}

theorem withChan_passing
    (h : ∀ c, (r.channels.get c).enabled = true → ok (r.channels.get c) = true) (hp : ok p = true) :
    Passing (enabledChecks (withChan r c p) code ok) := by
  rw [enabledChecks_passing]
  intro c' hon
  by_cases hc : c' = c
  · subst hc
    rwa [withChan, quad_get_set_same]
  · rw [withChan, quad_get_set_other _ _ _ _ (Ne.symm hc)] at hon ⊢
    exact h c' hon

theorem withChan_find
    (h : ∀ c, (r.channels.get c).enabled = true → ok (r.channels.get c) = true)
    (hon : p.enabled = true) (hbad : ok p = false) :
    (enabledChecks (withChan r c p) code ok).find? (!·.passes) = some ⟨false, code, c.val⟩ := by
  refine enabledChecks_find ?_ ?_ fun c' hc hon' => ?_
  · rwa [withChan, quad_get_set_same]
  · rwa [withChan, quad_get_set_same]
  · rw [withChan, quad_get_set_other _ _ _ _ (Ne.symm hc)] at hon' ⊢
    exact h c' hon'

theorem withChan_any (hon : p.enabled = true) :
    (quadIndexes.any fun c' => ((withChan r c p).channels.get c').enabled) = true :=
  anyEnabled_iff.mpr ⟨c, by rwa [withChan, quad_get_set_same]⟩

theorem withChan_channelField (hg : GoodRecord r) (hon : p.enabled = true)
    (hbad : channelFieldsOk p = false) :
    firstFailure (withChan r c p) = some ⟨false, .channelField, c.val⟩ :=
  firstFailure_of_block (pre := []) rfl (fun _ hb => nomatch hb) (withChan_find hg.fields hon hbad)

theorem withChan_qpsRange (hg : GoodRecord r) (hon : p.enabled = true) (hfields : channelFieldsOk p = true)
    (hbad : p.q.toNat < 16 ∨ 256 < p.q.toNat) :
    firstFailure (withChan r c p) = some ⟨false, .qpsRange, c.val⟩ := by
  refine firstFailure_of_block (pre := (checkBlocks (withChan r c p)).take 2) rfl ?_
    (withChan_find (fun c' hc' => inRange_iff.mpr (hg.q c' hc')) hon (inRange_eq_false hbad))
  simp only [checkBlocks, List.take_succ_cons, List.take_zero, List.forall_mem_cons, List.not_mem_nil,
    false_imp_iff, implies_true, and_true]
  exact ⟨withChan_passing hg.fields hfields, passing_singleton.mpr (withChan_any hon)⟩

theorem withChan_windowField (hg : GoodRecord r) (hon : p.enabled = true)
    (hfields : channelFieldsOk p = true) (hq : p.q = (r.channels.get c).q)
    (hc : (r.channels.get c).enabled = true) (hbad : windowFieldsOk p = false) :
    firstFailure (withChan r c p) = some ⟨false, .windowField, c.val⟩ := by
  obtain ⟨hlead0, hlead1, hlead2⟩ := hg.leads
  have hqok : inRange p.q.toNat 16 256 = true := inRange_iff.mpr (hq ▸ hg.q c hc)
  refine firstFailure_of_block (pre := (checkBlocks (withChan r c p)).take 6) rfl ?_
    (withChan_find hg.windows hon hbad)
  simp only [checkBlocks, List.take_succ_cons, List.take_zero, List.forall_mem_cons, List.not_mem_nil,
    false_imp_iff, implies_true, and_true, passing_singleton, decide_eq_true_iff]
  exact ⟨withChan_passing hg.fields hfields, withChan_any hon,
    withChan_passing (fun c' hc' => inRange_iff.mpr (hg.q c' hc')) hqok, hlead0, hlead1, hlead2⟩

end

section
variable {r : StartRecord} {i : Nat} {hi : i < 16} {pr : ProfilePart} {code : CheckCode}
  {ok : ProfilePart → Bool}

theorem withProfile_passing (h : ∀ pr ∈ r.profiles, ok pr = true) (hp : ok pr = true) :
    Passing (profileChecks (withProfile r i hi pr) code ok) := by
  rw [profileChecks_passing]
  intro pr' hmem
  obtain hmem | rfl := Vector.mem_or_eq_of_mem_set (hi := hi) hmem
  · exact h pr' hmem
  · exact hp

theorem withProfile_find (h : ∀ pr ∈ r.profiles, ok pr = true) (hbad : ok pr = false) :
    (profileChecks (withProfile r i hi pr) code ok).find? (!·.passes) = some ⟨false, code, i⟩ := by
  refine profileChecks_find hi ?_ fun j hj => ?_
  · simpa [withProfile] using hbad
  · simpa [withProfile, Vector.getElem_set, Nat.ne_of_gt hj] using
      h r.profiles[j] (Vector.getElem_mem _)

theorem withProfile_profileField (hg : GoodRecord r) (hbad : profileFieldsOk pr = false) :
    firstFailure (withProfile r i hi pr) = some ⟨false, .profileField, i⟩ :=
  firstFailure_at 7 (goodRecord_iff.mpr hg) rfl rfl (withProfile_find hg.profiles hbad)

/-- The blocks before the profiles are those of the good record. -/
theorem blocks_before_profiles (hg : GoodRecord r) :
    ∀ b ∈ (checkBlocks r).take 7, Passing b := fun b hb =>
  firstFailure_none_iff.mp (goodRecord_iff.mpr hg) b (List.mem_of_mem_take hb)

theorem withProfile_minGrant (hg : GoodRecord r) (hfields : profileFieldsOk pr = true)
    (hbad : pr.maxTurn.toNat < r.minGrant.toNat) :
    firstFailure (withProfile r i hi pr) = some ⟨false, .minGrant, i⟩ := by
  refine firstFailure_of_block
    (pre := (checkBlocks r).take 7 ++ ((checkBlocks (withProfile r i hi pr)).drop 7).take 2) rfl ?_
    (withProfile_find (ok := fun p => decide (r.minGrant.toNat ≤ p.maxTurn.toNat))
      (fun pr' h => decide_eq_true (hg.floor pr' h)) (decide_eq_false (Nat.not_le.mpr hbad)))
  rw [List.forall_mem_append]
  refine ⟨blocks_before_profiles hg, ?_⟩
  simp only [checkBlocks, List.drop_succ_cons, List.drop_zero,
    List.take_succ_cons, List.take_zero, List.forall_mem_cons, List.not_mem_nil, false_imp_iff,
    implies_true, and_true, passing_singleton]
  exact ⟨withProfile_passing hg.profiles hfields, inRange_iff.mpr hg.grant⟩

theorem withProfile_profileFit (hg : GoodRecord r) (hfields : profileFieldsOk pr = true)
    (hfloor : r.minGrant.toNat ≤ pr.maxTurn.toNat) (hbad : fitsAll r pr = false) :
    firstFailure (withProfile r i hi pr) = some ⟨false, .profileFit, i⟩ := by
  refine firstFailure_of_block
    (pre := (checkBlocks r).take 7 ++ ((checkBlocks (withProfile r i hi pr)).drop 7).take 3) rfl ?_
    (withProfile_find (ok := fitsAll r) hg.fits hbad)
  rw [List.forall_mem_append]
  refine ⟨blocks_before_profiles hg, ?_⟩
  simp only [checkBlocks, List.drop_succ_cons, List.drop_zero,
    List.take_succ_cons, List.take_zero, List.forall_mem_cons, List.not_mem_nil, false_imp_iff,
    implies_true, and_true, passing_singleton]
  exact ⟨withProfile_passing hg.profiles hfields, inRange_iff.mpr hg.grant,
    withProfile_passing (ok := fun p => decide (r.minGrant.toNat ≤ p.maxTurn.toNat))
      (fun pr' h => decide_eq_true (hg.floor pr' h)) (decide_eq_true hfloor)⟩

end

/-! ### Entry to LISTEN (R11, R14) -/

/-- The W, start and deadline of every channel. -/
def SameStreams (s t : State) : Prop :=
  ∀ c, (t.chans.get c).w = (s.chans.get c).w ∧
    (t.chans.get c).clock.map (fun k => (k.start, k.deadline))
      = (s.chans.get c).clock.map (fun k => (k.start, k.deadline))

theorem fallBuildStart_streams (s : State) (m : MapName) : SameStreams s (s.fallBuildStart m) := by
  obtain ⟨c, n⟩ := m
  have hclock : SameStreams s (s.modClock c fun k => { k with build := n + 1 }) := by
    intro c'
    by_cases hc : c' = c
    · subst hc
      simp only [State.modClock, State.modChan, quad_get_set_same, Option.map_map, true_and]
      rfl
    · simp only [State.modClock, State.modChan, quad_get_set_other _ _ _ _ (Ne.symm hc), and_self]
  intro c'
  unfold State.fallBuildStart
  dsimp only
  split
  · exact hclock c'
  · obtain ⟨hw, hk⟩ := hclock c'
    rw [← hw, ← hk]
    generalize s.modClock c _ = u
    by_cases hc : c' = c
    · subst hc
      simp [State.missMap, State.modMaps, State.modChan, State.raise]
    · simp [State.missMap, State.modMaps, State.modChan, State.raise,
        quad_get_set_other _ _ _ _ (Ne.symm hc)]

theorem raiseEntryBuilds_streams (s : State) : SameStreams s s.raiseEntryBuilds := by
  have hfold (l : List MapName) (u : State) : SameStreams u (l.foldl State.fallBuildStart u) := by
    induction l generalizing u with
    | nil => exact fun c => ⟨rfl, rfl⟩
    | cons m l ih =>
      intro c
      obtain ⟨hw, hk⟩ := ih (u.fallBuildStart m) c
      obtain ⟨hw', hk'⟩ := fallBuildStart_streams u m c
      exact ⟨hw.trans hw', hk.trans hk'⟩
  obtain ⟨k, hk⟩ := order_eq 4 s.buildNow s
  intro c
  have hraised := hfold (State.order 4 s.buildNow s).1 (State.order 4 s.buildNow s).2 c
  rw [hk] at hraised
  rw [State.raiseEntryBuilds, hk]
  exact hraised

/-- The station at the entry tick, before the build-starts of that tick. -/
def State.listening (s : State) (r : StartRecord) : State :=
  (State.modSweep { s with
    life := .listen
    accepted := some r
    listenEnd := some (s.time.nodeTime + 2097152)
    chans :=
      { q0 := s.chans.q0.listen r.channels.q0 r.buildLead s.time.nodeTime
        q1 := s.chans.q1.listen r.channels.q1 r.buildLead s.time.nodeTime
        q2 := s.chans.q2.listen r.channels.q2 r.buildLead s.time.nodeTime
        q3 := s.chans.q3.listen r.channels.q3 r.buildLead s.time.nodeTime } } fun w =>
      { w with state := .running, cursor := 0 }).queuePresence.modLink fun l =>
        { l with presence := some (s.time.nodeTime + 262144) }

theorem enterListen_eq (s : State) (r : StartRecord) :
    s.enterListen r = (s.listening r).raiseEntryBuilds := rfl

theorem listening_chans (s : State) (r : StartRecord) (c : Chan) : (s.listening r).chans.get c
    = (s.chans.get c).listen (r.channels.get c) r.buildLead s.time.nodeTime := by
  simp only [State.listening, modLink_chans, queuePresence_frame, modSweep_chans]
  match c with
  | 0 | 1 | 2 | 3 => rfl

/-- The station at entry to LISTEN. -/
theorem enterListen_entry {s : State} (htimed : s.time.timed = true) (r : StartRecord) :
    let t := s.enterListen r
    t.life = .listen ∧ t.accepted = some r ∧ t.time.timed = true ∧
      t.listenEnd = some (t.time.nodeTime + 2097152) ∧ t.sweep.state = .running ∧
      t.sweep.cursor = 0 ∧ t.link.presence = some (t.time.nodeTime + 262144) ∧
      ∀ c, (r.channels.get c).enabled = true →
        (t.chans.get c).w = some (r.channels.get c).wMin.toNat ∧
        ∃ k, (t.chans.get c).clock = some k ∧
          k.start = firstPeriod (r.channels.get c) r.buildLead t.time.nodeTime ∧
          k.deadline = k.start := by
  intro t
  have htime : t.time = s.time := by simp [t]
  rw [htime]
  have ht : t = (s.listening r).raiseEntryBuilds := rfl
  clear_value t
  subst ht
  refine ⟨?_, ?_, ?_, ?_, ?_, ?_, ?_, fun c hon => ?_⟩
  iterate 7 simp [State.listening, htimed]
  obtain ⟨hw, hclock⟩ := raiseEntryBuilds_streams (s.listening r) c
  rw [listening_chans, Channel.listen, if_pos hon] at hw hclock
  rw [hw]
  obtain ⟨k, hk, hstreams⟩ := Option.map_eq_some_iff.mp hclock
  obtain ⟨hstart, hdeadline⟩ := Prod.mk.inj hstreams
  exact ⟨rfl, k, hk, hstart, hdeadline.trans hstart.symm⟩

/-! ### The commands that enter LISTEN (R13, R168) -/

theorem exec_loadStart_refused {s : State} {r : StartRecord} {k : StartCheck}
    (hslot : s.port.slot = .ready) (hlife : s.life = .start) (h : firstFailure r = some k) :
    exec (.loadStart r) s = .next (s.replied 0x01 .startError [k.code.byte, byteOf k.item]) := by
  refine congrArg Host.Outcome.next (hostCommand_taken (t := s) hslot (by rw [hlife]; rfl) hslot ?_ 0x01)
  simp only [State.loadStart, h]

theorem exec_loadStart_held {s : State} {r : StartRecord} (hslot : s.port.slot = .ready)
    (hlife : s.life = .start) (h : firstFailure r = none) (htimed : s.time.timed = false) :
    exec (.loadStart r) s = .next (State.replied { s with accepted := some r } 0x01 .done []) := by
  refine congrArg Host.Outcome.next (hostCommand_taken (t := { s with accepted := some r }) hslot
    (by rw [hlife]; rfl) hslot ?_ 0x01)
  have htimed' : s.takeFrame.time.timed = false := htimed
  simp only [State.loadStart, h, htimed']
  rfl

theorem exec_loadStart_enters {s : State} {r : StartRecord} (hslot : s.port.slot = .ready)
    (hlife : s.life = .start) (h : firstFailure r = none) (htimed : s.time.timed = true) :
    exec (.loadStart r) s = .next ((s.takeFrame.enterListen r).answer 0x01 (plain .done)) := by
  have hrun : s.takeFrame.loadStart r = (s.takeFrame.enterListen r, plain .done) := by
    have htimed' : s.takeFrame.time.timed = true := htimed
    simp only [State.loadStart, h, htimed', if_true]
  change Host.Outcome.next (s.hostCommand 0x01 inStart fun s => s.loadStart r) = _
  simp only [State.hostCommand, hslot, hlife, inStart, beq_self_eq_true, if_true, hrun]

/-- The station at its first valid time word (R3). -/
def State.timedFrom (s : State) (v : Tick) : State :=
  s.modTime fun t =>
    { t with timed := true, nodeTime := v, beat := 0, watch := 0, line := .arriving,
             nextBeat := v + 65536 }

theorem firstWord_enters {s : State} {r : StartRecord} (hlife : s.life = .start)
    (h : s.accepted = some r) (v : Tick) : s.firstWord v = (s.timedFrom v).enterListen r := by
  simp only [State.firstWord, modTime_life, modTime_accepted, hlife, h, State.timedFrom]

/-- Settles O51: the block of checks that a record fails first, and the fields at entry. -/
theorem loadStartEntersListen : Obligations.LoadStartEntersListen := by
  refine ⟨fun s r k hslot hlife h => exec_loadStart_refused hslot hlife h,
    fun s r hslot hlife h htimed => exec_loadStart_held hslot hlife h htimed,
    fun s i r hlife hcase => ?enters, fun r => ?good, fun s r hslot hlife hgood => ?bad⟩
  case enters =>
    obtain ⟨rfl, hslot, hok, htimed⟩ | ⟨v, rfl, hbeat, htimed, haccepted⟩ := hcase
    · exact ⟨_, exec_loadStart_enters hslot hlife hok htimed,
        enterListen_entry (s := s.takeFrame) htimed r⟩
    · refine ⟨_, congrArg Host.Outcome.next ?_, enterListen_entry (s := s.timedFrom v) rfl r⟩
      rw [takeTimeWord_valid rfl hbeat, htimed]
      exact firstWord_enters hlife haccepted v
  case good =>
    intro on
    rw [goodRecord_iff]
    constructor
    · rintro ⟨hfields, hany, hq, hleads, hwindows, hprofiles, hgrant, hfloor, hfits, hhealth, hwait,
        hstale⟩
      refine ⟨hany, fun c hon => ?_, hleads, fun pr hpr => ?_, hgrant, hhealth, hwait, hstale⟩
      · intro p
        obtain ⟨h1, h2, h3, h4, h5⟩ := channelFieldsOk_iff.mp (hfields c hon)
        exact ⟨h1, h2, h3, h4, h5, (hq c hon).1, (hq c hon).2, windowFieldsOk_iff.mp (hwindows c hon)⟩
      · obtain ⟨h1, h2, h3, h4, h5, h6, h7, h8, h9⟩ := profileFieldsOk_iff.mp (hprofiles pr hpr)
        exact ⟨h1, h2, h3, h4, h5, h6, h7, h8, h9, hfloor pr hpr, fitsAll_iff.mp (hfits pr hpr)⟩
    · rintro ⟨hany, hchans, hleads, hprofiles, hgrant, hhealth, hwait, hstale⟩
      have hchan (c : Chan) (hon : on c) : channelFieldsOk (r.channels.get c) = true ∧
          (16 ≤ (r.channels.get c).q.toNat ∧ (r.channels.get c).q.toNat ≤ 256) ∧
          windowFieldsOk (r.channels.get c) = true := by
        obtain ⟨h1, h2, h3, h4, h5, h6, h7, h8⟩ := hchans c hon
        exact ⟨channelFieldsOk_iff.mpr ⟨h1, h2, h3, h4, h5⟩, ⟨h6, h7⟩, windowFieldsOk_iff.mpr h8⟩
      have hprofile (pr : ProfilePart) (hpr : pr ∈ r.profiles) : profileFieldsOk pr = true ∧
          r.minGrant.toNat ≤ pr.maxTurn.toNat ∧ fitsAll r pr = true := by
        obtain ⟨h1, h2, h3, h4, h5, h6, h7, h8, h9, hfloor, hfits⟩ := hprofiles pr hpr
        exact ⟨profileFieldsOk_iff.mpr ⟨h1, h2, h3, h4, h5, h6, h7, h8, h9⟩, hfloor,
          fitsAll_iff.mpr hfits⟩
      exact ⟨fun c h => (hchan c h).1, hany, fun c h => (hchan c h).2.1, hleads,
        fun c h => (hchan c h).2.2, fun pr h => (hprofile pr h).1, hgrant, fun pr h => (hprofile pr h).2.1,
        fun pr h => (hprofile pr h).2.2, hhealth, hwait, hstale⟩
  case bad =>
    intro refused withChan'
    have hg := goodRecord_iff.mp hgood
    have hrefused {r' : StartRecord} {code : CheckCode} {item : Nat}
        (h : firstFailure r' = some ⟨false, code, item⟩) : refused r' code.byte item :=
      exec_loadStart_refused hslot hlife h
    have hwindow {c : Chan} {p : ChannelPart} (hon : (r.channels.get c).enabled = true)
        (hfields : channelFieldsOk p = true)
        (hsame : p.q = (r.channels.get c).q ∧ p.enabled = (r.channels.get c).enabled)
        (hbad : windowFieldsOk p = true → False) : refused (withChan' c p) 0x04 c.val :=
      hrefused (code := .windowField) (withChan_windowField hg (hsame.2.trans hon) hfields hsame.1 hon
        (Bool.eq_false_iff.mpr hbad))
    have hprofile {i : Nat} {hi : i < 16} {pr : ProfilePart} (hbad : profileFieldsOk pr = true → False) :
        refused (withProfile r i hi pr) 0x05 i :=
      hrefused (code := .profileField) (withProfile_profileField hg (Bool.eq_false_iff.mpr hbad))
    have hturn {i : Nat} {hi : i < 16} {n : BitVec 16} (hleast : 64 ≤ n.toNat) (hmost : n.toNat ≤ 16383) :
        profileFieldsOk { r.profiles[i] with maxTurn := n } = true := by
      obtain ⟨h1, h2, h3, h4, h5, h6, h7, -⟩ :=
        profileFieldsOk_iff.mp (hg.profiles r.profiles[i] (Vector.getElem_mem hi))
      exact profileFieldsOk_iff.mpr ⟨h1, h2, h3, h4, h5, h6, h7, hleast, hmost⟩
    refine ⟨?any, fun c n hon =>
        ⟨fun h => ?slot, fun h => ?period, fun h => ?q, fun h => ?wMin, fun h => ?wMax⟩,
      fun c n hon => ⟨?join, fun h => ?backoffStart, fun h => ?backoffEnd⟩, fun n h => ?lead0,
      fun n h h' => ?lead1, fun n h => ?lead1', fun n h => ?lead2,
      fun i hi n => ⟨fun h => ?preamble, fun h => ?maxTurn, fun h h' => ?floor,
        fun c hon h h' h'' hfit => ?fit⟩,
      fun i hi n => ⟨fun h => ?bits, fun h => ?k, fun h => ?parity⟩, fun n h => ?grant,
      fun i hi n h h' hpre => ?grantAt, fun n h => ⟨?t1, ?t2, ?t3⟩, fun n h => ?recover, fun n h => ?wait,
      fun n h => ?stale⟩
    case any =>
      refine hrefused (code := .channelField) (item := 4)
        (firstFailure_of_block (pre := (checkBlocks _).take 1) rfl (fun b hb => ?_)
          (find_singleton (by rfl)))
      obtain rfl := List.mem_singleton.mp hb
      refine enabledChecks_passing.mpr fun c hc => ?_
      match c with
      | 0 | 1 | 2 | 3 => cases hc
    case slot =>
      refine hrefused (code := .channelField)
        (withChan_channelField hg hon (Bool.eq_false_iff.mpr fun hok => ?_))
      obtain ⟨hslots, -⟩ := channelFieldsOk_iff.mp hok
      obtain ⟨h1, h2, h3, h4, h5, h6⟩ := h
      rcases hslots with hn | hn | hn | hn | hn | hn <;> contradiction
    case period =>
      refine hrefused (code := .channelField)
        (withChan_channelField hg hon (Bool.eq_false_iff.mpr fun hok => ?_))
      obtain ⟨-, h1, h2, h3, -⟩ := channelFieldsOk_iff.mp hok
      exact absurd h (by simp only [not_or, not_lt, not_not]; exact ⟨h1, h2, h3⟩)
    case q => exact hrefused (code := .qpsRange) (withChan_qpsRange hg hon (hg.fields c hon) h)
    case wMin =>
      refine hwindow hon (hg.fields c hon) ⟨rfl, rfl⟩ fun hok => ?_
      obtain ⟨h1, h2, -⟩ := windowFieldsOk_iff.mp hok
      dsimp only at h1 h2
      omega
    case wMax =>
      refine hwindow hon (hg.fields c hon) ⟨rfl, rfl⟩ fun hok => ?_
      obtain ⟨-, h2, h3, -⟩ := windowFieldsOk_iff.mp hok
      dsimp only at h2 h3
      omega
    case join =>
      refine hwindow hon (hg.fields c hon) ⟨rfl, rfl⟩ fun hok => ?_
      obtain ⟨-, -, -, h4, -⟩ := windowFieldsOk_iff.mp hok
      exact Nat.not_succ_le_zero _ h4
    case backoffStart =>
      refine hwindow hon (hg.fields c hon) ⟨rfl, rfl⟩ fun hok => ?_
      obtain ⟨-, -, -, -, h5⟩ := windowFieldsOk_iff.mp hok
      exact Nat.not_lt.mpr h5 h
    case backoffEnd =>
      refine hwindow hon (hg.fields c hon) ⟨rfl, rfl⟩ fun hok => ?_
      obtain ⟨-, -, -, -, h5⟩ := windowFieldsOk_iff.mp hok
      exact Nat.not_lt.mpr h5 h
    case lead0 =>
      exact hrefused (code := .leadField) (item := 0) (firstFailure_at 3 hgood rfl rfl
        (find_singleton (decide_eq_false (Nat.not_le.mpr h))))
    case lead1 =>
      exact hrefused (code := .leadField) (item := 1) (firstFailure_after 3 hgood rfl rfl
        (passing_singleton.mpr (decide_eq_true h)) rfl
        (find_singleton (decide_eq_false (Nat.not_le.mpr h'))))
    case lead1' =>
      exact hrefused (code := .leadField) (item := 1) (firstFailure_at 4 hgood rfl rfl
        (find_singleton (decide_eq_false (Nat.not_le.mpr h))))
    case lead2 =>
      obtain ⟨-, hlead, hmost⟩ := hg.leads
      exact hrefused (code := .leadField) (item := 2) (firstFailure_after 4 hgood rfl rfl
        (passing_singleton.mpr
          (decide_eq_true (Nat.le_of_lt (Nat.lt_of_le_of_lt (Nat.le_trans hlead hmost) h)))) rfl
      (find_singleton (decide_eq_false (Nat.not_le.mpr h))))
    case preamble =>
      refine hprofile fun hok => ?_
      obtain ⟨h1, h2, -⟩ := profileFieldsOk_iff.mp hok
      dsimp only at h1 h2
      omega
    case maxTurn =>
      refine hprofile fun hok => ?_
      obtain ⟨-, -, -, -, -, -, -, h8, h9⟩ := profileFieldsOk_iff.mp hok
      dsimp only at h8 h9
      omega
    case floor =>
      exact hrefused (code := .minGrant) (withProfile_minGrant hg
        (hturn h (Nat.le_trans (Nat.le_of_lt h') hg.grant.2)) h')
    case fit =>
      refine hrefused (code := .profileFit) (withProfile_profileFit hg (hturn h'' h) h'
        (Bool.eq_false_iff.mpr fun hok => ?_))
      obtain ⟨-, hfits⟩ := fitsAll_iff.mp hok c hon
      exact Nat.not_lt.mpr hfits hfit
    case bits =>
      refine hprofile fun hok => ?_
      obtain ⟨-, -, h3, h4, -⟩ := profileFieldsOk_iff.mp hok
      dsimp only at h3 h4
      omega
    case k =>
      refine hprofile fun hok => ?_
      obtain ⟨-, -, -, -, h5, -⟩ := profileFieldsOk_iff.mp hok
      exact Nat.not_lt.mpr h5 h
    case parity =>
      refine hprofile fun hok => ?_
      obtain ⟨-, -, -, -, -, h6, h7, -⟩ := profileFieldsOk_iff.mp hok
      dsimp only at h6 h7
      omega
    case grant =>
      exact hrefused (code := .minGrant) (item := 16) (firstFailure_at 8 hgood rfl rfl
        (find_singleton (inRange_eq_false (h.imp_left Nat.lt_one_iff.mpr))))
    case grantAt =>
      refine hrefused (code := .minGrant) (firstFailure_after 8 hgood rfl rfl
        (passing_singleton.mpr (inRange_iff.mpr ⟨Nat.one_le_of_lt h', h⟩)) rfl
        (profileChecks_find hi (decide_eq_false (Nat.not_le.mpr h')) fun j hj =>
          decide_eq_true (hpre j hj)))
    case t1 =>
      exact hrefused (code := .healthField) (item := 0) (firstFailure_at 11 hgood rfl rfl
        (find_singleton (inRange_eq_false (h.imp_left Nat.lt_one_iff.mpr))))
    case t2 =>
      exact hrefused (code := .healthField) (item := 1) (firstFailure_at 12 hgood rfl rfl
        (find_singleton (inRange_eq_false (h.imp_left Nat.lt_one_iff.mpr))))
    case t3 =>
      exact hrefused (code := .healthField) (item := 2) (firstFailure_at 13 hgood rfl rfl
        (find_singleton (inRange_eq_false (h.imp_left Nat.lt_one_iff.mpr))))
    case recover =>
      exact hrefused (code := .healthField) (item := 3) (firstFailure_at 14 hgood rfl rfl
        (find_singleton (inRange_eq_false (h.imp_left Nat.lt_one_iff.mpr))))
    case wait =>
      exact hrefused (code := .reportWait) (item := 0) (firstFailure_at 15 hgood rfl rfl
        (find_singleton (inRange_eq_false h)))
    case stale =>
      exact hrefused (code := .staleLimit) (item := 0) (firstFailure_at 16 hgood rfl rfl
        (find_singleton (inRange_eq_false (h.imp_left Nat.lt_one_iff.mpr))))

end Sys2Proof.Machine
end

section
/-! SUPPORT. The planner takes a request, goes on placing, and places the windows (5.1, 5.2, 6.1). -/

namespace Sys2Proof.Machine

-- One proof after another: side by side, as many as stand here need more threads than the check gives.
set_option Elab.async false

/-! ### The build in the planner -/

/-- The planner holds the build. -/
def State.withBuild (s : State) (b : Build) : State :=
  { s with planner := { s.planner with building := some b } }

section
variable {s : State} {b : Build}

theorem withBuild_self (hb : s.planner.building = some b) : s.withBuild b = s := by
  rw [State.withBuild, ← hb]

theorem modBuild_eq (hb : s.planner.building = some b) (g : Build → Build) :
    s.modBuild g = s.withBuild (g b) := by
  rw [State.modBuild, State.modPlanner, hb]
  rfl

theorem setPhase_eq (hb : s.planner.building = some b) (ph : Phase) :
    s.setPhase ph = s.withBuild { b with phase := ph } := modBuild_eq hb _

theorem placeEntry_eq (hb : s.planner.building = some b) (e : Entry) : s.placeEntry e
    = s.withBuild { b with map := { b.map with entries := insertEntry e b.map.entries } } :=
  modBuild_eq hb _

theorem full_eq_false (h : b.map.entries.length < 240) : b.full = false :=
  decide_eq_false (Nat.not_le.mpr h)

end

/-! ### The command of the planner (R69, R70) -/

section
variable {s : State}

theorem exec_plannerPlaces {b : Build} (hb : s.planner.building = some b) (upTo : Option Nat) :
    exec (.plannerTakesRequest upTo) s = .next (s.placeUpTo upTo) := by
  change execPlannerTakesRequest upTo s = _
  simp only [execPlannerTakesRequest, hb]

theorem exec_plannerTakes {m : MapName} {rest : List MapName} (hfree : s.planner.building = none)
    (hreq : s.planner.requests = m :: rest) (upTo : Option Nat) :
    exec (.plannerTakesRequest upTo) s = .next ((s.takeRequest m rest).placeUpTo upTo) := by
  change execPlannerTakesRequest upTo s = _
  simp only [execPlannerTakesRequest, hfree, hreq]

/-- The sweep beside a build (R159). -/
def State.suspendedSweep (s : State) : Sweep :=
  if s.sweep.state = .running ∧ s.sweep.step = none then { s.sweep with state := .suspended }
  else s.sweep

theorem suspendSweep_eq (s : State) : s.suspendSweep = { s with sweep := s.suspendedSweep } := by
  unfold State.suspendSweep State.suspendedSweep
  split <;> rfl

/-- A request is taken with no cadence flow due. -/
theorem takeRequest_none_due {m : MapName} {w : Nat} (hdue : s.dueFlows m = [])
    (hw : (s.chans.get m.chan).w = some w) (rest : List MapName) : s.takeRequest m rest
      = { s with
          planner := { s.planner with
            requests := rest
            building := some ⟨⟨m, [], false⟩, w, .cadence [], false⟩ }
          sweep := s.suspendedSweep } := by
  have hkept (u : State) (hu : u.dueFlows m = []) : u.dropLate m = u := by
    rw [State.dropLate, hu]
    rfl
  have hbuild (u : State) (hu : u.dueFlows m = []) (huw : (u.chans.get m.chan).w = some w) :
      u.startBuild m = ⟨⟨m, [], false⟩, w, .cadence [], false⟩ := by
    rw [State.startBuild, State.cadenceOrder, hu, huw]
    rfl
  rw [State.takeRequest, suspendSweep_eq]
  dsimp only
  rw [hkept _ (by exact hdue), hbuild _ (by exact hdue) (by exact hw)]
  rfl

/-! ### Late cadence occurrences (R97) -/

/-- One late flow loses the occurrences that are too late, with a fault record. -/
theorem dropOccurrences_spec {m : MapName} {f : Flow} {cad : Cadence} (hf : s.flow f.tag = some f)
    (hcad : f.cadence = some cad) :
    let t := s.dropOccurrences m f
    let k := (s.chans.get m.chan).cadence
    t.flow f.tag = some { f with cadence := some (cad.later (cad.drops m.period)) } ∧
      (t.chans.get m.chan).cadence = { k with dropped := bump k.dropped (cad.drops m.period) } ∧
      ∃ r, t.health.ring.getLast? = some r ∧ r.kind = .cadenceDrop ∧ r.key = f.modemKey ∧
        r.tag = f.tag ∧ r.seq = s.health.seq := by
  intro t k
  have hat : f.dropsAt m.period = cad.drops m.period := by rw [Flow.dropsAt, hcad]
  let u := s.updFlow f.tag fun f => { f with cadence := f.cadence.map (·.later (f.dropsAt m.period)) }
  have hu : u.flow f.tag = some { f with cadence := some (cad.later (cad.drops m.period)) } := by
    rw [flow_updFlow_same hf, hat, hcad]
    rfl
  have hchans : u.chans = s.chans := by simp only [u, updFlow_frame]
  have hhealth : u.health = s.health := by simp only [u, updFlow_frame]
  have ht : t = (u.modCadence m.chan fun k =>
      { k with dropped := bump k.dropped (cad.drops m.period) }).appendFault .cadenceDrop f.modemKey
        f.tag := by
    simp only [t, State.dropOccurrences, hat, u]
  rw [ht]
  obtain ⟨r, hlast, hkind, hkey, htag, hseq⟩ := appendFault_last (u.modCadence m.chan fun k =>
    { k with dropped := bump k.dropped (cad.drops m.period) }) .cadenceDrop f.modemKey f.tag
  refine ⟨?_, ?_, r, hlast, hkind, hkey, htag, hseq.trans (congrArg Health.seq hhealth)⟩
  · rw [appendFault_flow]
    exact hu
  · simp only [appendFault_frame, State.modCadence, State.modChan, quad_get_set_same, hchans, k]

/-- A request is taken with one late flow due. -/
theorem takeRequest_late {m : MapName} {f : Flow} {cad : Cadence} (hdue : s.dueFlows m = [f])
    (hf : s.flow f.tag = some f) (hcad : f.cadence = some cad) (hdrops : cad.drops m.period ≠ 0)
    (rest : List MapName) :
    let t := s.takeRequest m rest
    let k := (s.chans.get m.chan).cadence
    t.sweep = s.suspendedSweep ∧
      t.flow f.tag = some { f with cadence := some (cad.later (cad.drops m.period)) } ∧
      (t.chans.get m.chan).cadence = { k with dropped := bump k.dropped (cad.drops m.period) } ∧
      ∃ r, t.health.ring.getLast? = some r ∧ r.kind = .cadenceDrop ∧ r.key = f.modemKey ∧
        r.tag = f.tag ∧ r.seq = s.health.seq := by
  intro t k
  have hdropped (u : State) (hu : u.dueFlows m = [f]) : u.dropLate m = u.dropOccurrences m f := by
    have hlate : (u.dueFlows m).filter (fun f => f.dropsAt m.period != 0) = [f] := by
      have hlate : (f.dropsAt m.period != 0) = true := by
        rw [Flow.dropsAt, hcad]
        exact bne_iff_ne.mpr hdrops
      rw [hu, List.filter_singleton, hlate]
      rfl
    rw [State.dropLate, hlate]
    rfl
  let u : State :=
    { s with planner := { s.planner with requests := rest }, sweep := s.suspendedSweep }
  have ht : t = (u.dropOccurrences m f).modPlanner fun p =>
      { p with building := some ((u.dropOccurrences m f).startBuild m) } := by
    have hsuspended : (s.modPlanner fun p => { p with requests := rest }).suspendSweep = u :=
      suspendSweep_eq _
    simp only [t, State.takeRequest, hsuspended]
    rw [hdropped u hdue]
  obtain ⟨hflow, hcount, hfault⟩ := dropOccurrences_spec (s := u) (m := m) hf hcad
  rw [ht]
  exact ⟨by simp [u], hflow, hcount, hfault⟩

end

/-! ### Placement keeps the build, and its steps add up (R70, log 9) -/

/-- Whether a map is BUILDING. -/
def State.isBuilding (s : State) : Bool := s.planner.building.isSome

theorem isBuilding_of_plan {s t : State} (h : SamePlan s.planner t.planner) :
    t.isBuilding = s.isBuilding := by
  have hsame := congrArg Option.isSome h.building
  rwa [Option.isSome_map, Option.isSome_map] at hsame

theorem isBuilding_of_planner {s t : State} (h : t.planner = s.planner) : t.isBuilding = s.isBuilding :=
  isBuilding_of_plan (.of_eq h)

section
variable (s : State)

@[simp] theorem modBuild_isBuilding (g : Build → Build) : (s.modBuild g).isBuilding = s.isBuilding :=
  Option.isSome_map

@[simp] theorem setPhase_isBuilding (ph : Phase) : (s.setPhase ph).isBuilding = s.isBuilding :=
  modBuild_isBuilding s _

@[simp] theorem placeEntry_isBuilding (e : Entry) : (s.placeEntry e).isBuilding = s.isBuilding :=
  modBuild_isBuilding s _

@[simp] theorem openPending_isBuilding (e : PendingEntry) :
    (s.openPending e).isBuilding = s.isBuilding := rfl

@[simp] theorem updFlow_isBuilding (tag : Tag) (g : Flow → Flow) :
    (s.updFlow tag g).isBuilding = s.isBuilding := isBuilding_of_plan (updFlow_plan s tag g)

@[simp] theorem queueTakeHold_isBuilding (n : MapName) (f : Flow) (e : Entry) (b : Nat) :
    (s.queueTakeHold n f e b).isBuilding = s.isBuilding := isBuilding_of_planner (by simp)

@[simp] theorem queueTake_isBuilding (n : MapName) (f : Flow) (m : Modem) (e : Entry) :
    (s.queueTake n f m e).isBuilding = s.isBuilding := isBuilding_of_planner (by simp)

@[simp] theorem addLocalHold_isBuilding (n : MapName) (key : Key) (e : Entry) :
    (s.addLocalHold n key e).isBuilding = s.isBuilding := rfl

@[simp] theorem modCadence_isBuilding (c : Chan) (g : CadenceCounters → CadenceCounters) :
    (s.modCadence c g).isBuilding = s.isBuilding := rfl

@[simp] theorem modMaps_isBuilding (c : Chan) (g : MapCounters → MapCounters) :
    (s.modMaps c g).isBuilding = s.isBuilding := rfl

@[simp] theorem blocked_isBuilding (c : Chan) : (s.blocked c).isBuilding = s.isBuilding := rfl

@[simp] theorem toTail_isBuilding (f : Flow) : (s.toTail f).isBuilding = s.isBuilding := rfl

@[simp] theorem requeue_isBuilding (tag : Tag) : (s.requeue tag).isBuilding = s.isBuilding := by
  unfold State.requeue
  split
  · split
    · simp
    · rfl
  · rfl

@[simp] theorem handleCadence_isBuilding (b : Build) (tag : Tag) :
    (s.handleCadence b tag).isBuilding = s.isBuilding := by
  unfold State.handleCadence State.positionCadence State.placeCadence
  dsimp only
  repeat' split
  all_goals simp

@[simp] theorem placeJoin_isBuilding (b : Build) : (s.placeJoin b).isBuilding = s.isBuilding := by
  unfold State.placeJoin
  dsimp only
  split
  · simp
  · simp

@[simp] theorem placeBid_isBuilding (b : Build) : (s.placeBid b).isBuilding = s.isBuilding := by
  unfold State.placeBid
  dsimp only
  split
  · simp
  · split
    · simp
    · simp

@[simp] theorem beginWalk_isBuilding : s.beginWalk.isBuilding = s.isBuilding := by
  unfold State.beginWalk
  split
  · rfl
  · split
    · simp
    · simp

@[simp] theorem endWalk_isBuilding : s.endWalk.isBuilding = s.isBuilding := by
  unfold State.endWalk
  split
  · rfl
  · split
    · split
      · simp
      · rfl
    · rfl

@[simp] theorem placeData_isBuilding (n : MapName) (f : Flow) (m : Modem) (k : Candidate)
    (left : List Tag) (classes : List ServiceClass) :
    (s.placeData n f m k left classes).isBuilding = s.isBuilding := by
  unfold State.placeData
  dsimp only
  repeat' split
  all_goals simp

@[simp] theorem visit_isBuilding (b : Build) (tag : Tag) (cursor : Nat) (left : List Tag)
    (classes : List ServiceClass) : (s.visit b tag cursor left classes).isBuilding = s.isBuilding := by
  unfold State.visit State.sizeAndPlace
  dsimp only
  repeat' split
  all_goals simp

theorem placeOne_isBuilding : s.placeOne.isBuilding = s.isBuilding := by
  unfold State.placeOne
  repeat' split
  all_goals simp

theorem placeSteps_isBuilding (n : Nat) : (State.placeSteps n s).isBuilding = s.isBuilding := by
  induction n generalizing s with
  | zero => rfl
  | succ n ih => exact (ih s.placeOne).trans (placeOne_isBuilding s)

theorem placeSteps_add (i j : Nat) :
    State.placeSteps (i + j) s = State.placeSteps j (State.placeSteps i s) := by
  induction i generalizing s with
  | zero => rw [Nat.zero_add, State.placeSteps]
  | succ i ih => rw [Nat.succ_add, State.placeSteps, State.placeSteps, ih]

end

end Sys2Proof.Machine
end

section
/-! SUPPORT. The windows of a map, and a build with no flow to serve (5.2). -/

namespace Sys2Proof.Machine

-- One proof after another: side by side, as many as stand here need more threads than the check gives.
set_option Elab.async false

/-! ### The longest run (R75) -/

theorem longestRun_first {runs : List Run} {i : Nat} {r : Run} (hat : runs[i]? = some r)
    (hlongest : ∀ q ∈ runs, q.len ≤ r.len)
    (hfirst : ∀ j < i, ∀ q, runs[j]? = some q → q.len < r.len) : longestRun runs = some r := by
  induction runs generalizing i with
  | nil => cases hat
  | cons x rest ih =>
    unfold longestRun
    match i with
    | 0 =>
      cases hat
      split
      · rfl
      · rename_i q hq
        exact if_neg (Nat.not_lt.mpr (hlongest q (List.mem_cons_of_mem _ (longestRun_mem hq))))
    | i + 1 =>
      have hrest : longestRun rest = some r :=
        ih hat (fun q hq => hlongest q (List.mem_cons_of_mem _ hq)) fun j hj q hq =>
          hfirst (j + 1) (Nat.succ_lt_succ hj) q hq
      simp only [hrest]
      exact if_pos (hfirst 0 (Nat.zero_lt_succ _) x rfl)

/-! ### One window on a map (R74, R75) -/

section
variable {s : State} {b : Build}

theorem exec_one (hb : s.planner.building = some b) :
    exec (.plannerTakesRequest (some 1)) s = .next s.placeOne := exec_plannerPlaces hb _

theorem joinDue_iff {p : ChannelPart} {n : Period} : joinDue p n = true ↔
    0 < p.joinSlots.toNat ∧ n.toNat % p.joinEvery.toNat = 0 := by
  simp only [joinDue, Bool.and_eq_true, decide_eq_true_eq, beq_iff_eq]

theorem placeOne_join (hb : s.planner.building = some b) (hphase : b.phase = .joinWindow)
    (hdue : joinDue (s.part b.map.name.chan) b.map.name.period = true)
    (hfull : b.map.entries.length < 240) : s.placeOne = (s.placeJoin b).setPhase .bidWindow := by
  simp only [State.placeOne, hb, hphase, hdue, full_eq_false hfull, Bool.not_true, Bool.false_eq_true,
    if_false]

theorem placeOne_noJoin (hb : s.planner.building = some b) (hphase : b.phase = .joinWindow)
    (hdue : joinDue (s.part b.map.name.chan) b.map.name.period = false) :
    s.placeOne = s.withBuild { b with phase := .bidWindow } := by
  simp only [State.placeOne, hb, hphase, hdue, Bool.not_false, if_true]
  exact setPhase_eq hb _

theorem placeOne_bid (hb : s.planner.building = some b) (hphase : b.phase = .bidWindow)
    (hfull : b.map.entries.length < 240) : s.placeOne = (s.placeBid b).beginWalk.endWalk := by
  simp only [State.placeOne, hb, hphase, full_eq_false hfull, Bool.false_eq_true, if_false]

/-- The entry of a window in the map. -/
def TurnMap.withWindow (m : TurnMap) (kind : EntryKind) (start len : Nat) : TurnMap :=
  { m with entries := insertEntry (windowEntry kind start len) m.entries }

theorem placeJoin_run (hb : s.planner.building = some b) {r : Run}
    (hrun : (s.freeRuns b).find? (fun r => decide ((s.part b.map.name.chan).joinSlots.toNat ≤ r.len))
      = some r) : s.placeJoin b = s.withBuild { b with
        map := b.map.withWindow .join r.start (s.part b.map.name.chan).joinSlots.toNat } := by
  simp only [State.placeJoin, hrun]
  exact placeEntry_eq hb _

theorem placeJoin_skipped
    (hnone : (s.freeRuns b).find? (fun r => decide ((s.part b.map.name.chan).joinSlots.toNat ≤ r.len))
      = none) : s.placeJoin b = s.modMaps b.map.name.chan fun k =>
        { k with joinSkipped := bump k.joinSkipped 1 } := by
  simp only [State.placeJoin, hnone]

theorem placeBid_run (hb : s.planner.building = some b) {r : Run}
    (hrun : (s.freeRuns b).find? (fun r => decide (b.w ≤ r.len)) = some r) :
    s.placeBid b = s.withBuild { b with map := b.map.withWindow .bid r.start b.w } := by
  simp only [State.placeBid, hrun]
  exact placeEntry_eq hb _

theorem placeBid_clipped (hb : s.planner.building = some b) {r : Run}
    (hnone : (s.freeRuns b).find? (fun r => decide (b.w ≤ r.len)) = none)
    (hlongest : longestRun (s.freeRuns b) = some r) :
    s.placeBid b = (s.withBuild { b with map := b.map.withWindow .bid r.start r.len }).modMaps
      b.map.name.chan fun k => { k with bidClipped := bump k.bidClipped 1 } := by
  simp only [State.placeBid, hnone, hlongest]
  rw [placeEntry_eq hb]
  rfl

theorem placeBid_absent (hnone : s.freeRuns b = []) : s.placeBid b
    = s.modMaps b.map.name.chan fun k => { k with bidAbsent := bump k.bidAbsent 1 } := by
  simp only [State.placeBid, hnone]
  rfl

/-- The bid window is placed, clipped or absent: W stays. -/
theorem placeBid_build (hb : s.planner.building = some b) :
    ∃ b', (s.placeBid b).planner.building = some b' ∧ b'.w = b.w := by
  unfold State.placeBid
  dsimp only
  split
  · rw [placeEntry_eq hb]
    exact ⟨_, rfl, rfl⟩
  · split
    · rw [placeEntry_eq hb]
      exact ⟨_, rfl, rfl⟩
    · exact ⟨b, hb, rfl⟩

theorem endWalk_build (hb : s.planner.building = some b) : ∃ ph, s.endWalk
    = s.withBuild { b with phase := ph } := by
  have hsame : s = s.withBuild { b with phase := b.phase } := (withBuild_self hb).symm
  simp only [State.endWalk, hb]
  split
  · split
    · exact ⟨_, setPhase_eq hb _⟩
    · exact ⟨_, hsame⟩
  · exact ⟨_, hsame⟩

/-- The walk begins and may end at once: the map, W and the channels stay. -/
theorem beginWalk_build (hb : s.planner.building = some b) : ∃ ph barred, s.beginWalk.endWalk
    = s.withBuild { b with phase := ph, barred := barred } := by
  have hbegun : ∃ ph barred, s.beginWalk = s.withBuild { b with phase := ph, barred := barred } := by
    simp only [State.beginWalk, hb]
    split
    · exact ⟨_, _, setPhase_eq hb _⟩
    · exact ⟨_, _, modBuild_eq hb _⟩
  obtain ⟨ph, barred, hbegun⟩ := hbegun
  obtain ⟨ph', hended⟩ := endWalk_build (s := s.withBuild { b with phase := ph, barred := barred }) rfl
  exact ⟨ph', barred, by rw [hbegun, hended]; rfl⟩

end

/-! ### A build with no flow to serve -/

section
variable {s : State} {b : Build}

theorem walkEnds_eq_false {cursor : Nat} {r : Run} (hfull : b.map.entries.length < 240)
    (hfree : s.freeRuns b = [r]) (hreach : cursor < r.start + r.len) : s.walkEnds b cursor = false := by
  rw [State.walkEnds, full_eq_false hfull, hfree, runsFrom, List.filterMap_cons, if_neg (by omega)]
  rfl

theorem placeOne_class {cursor : Nat} {k : ServiceClass} {classes : List ServiceClass}
    (hb : s.planner.building = some b) (hphase : b.phase = .walk cursor [] (k :: classes))
    (hends : s.walkEnds b cursor = false) : s.placeOne
      = s.withBuild { b with phase := .walk cursor (s.planner.ready.get k) classes } := by
  simp only [State.placeOne, hb, hphase, hends, Bool.false_eq_true, if_false]
  exact setPhase_eq hb _

theorem placeOne_walked {cursor : Nat} (hb : s.planner.building = some b)
    (hphase : b.phase = .walk cursor [] []) : s.placeOne = s.withBuild { b with phase := .done } := by
  simp only [State.placeOne, hb, hphase]
  exact setPhase_eq hb _

theorem beginWalk_run {r : Run} {rest : List Run} (hb : s.planner.building = some b)
    (hruns : s.freeRuns b = r :: rest) : s.beginWalk = s.withBuild { b with
      phase := .walk r.start [] quadIndexes, barred := s.life == .listen } := by
  simp only [State.beginWalk, hb, hruns]
  exact modBuild_eq hb _

theorem endWalk_stays {cursor : Nat} {left : List Tag} {classes : List ServiceClass}
    (hb : s.planner.building = some b) (hphase : b.phase = .walk cursor left classes)
    (hends : s.walkEnds b cursor = false) : s.endWalk = s := by
  simp only [State.endWalk, hb, hphase, hends, Bool.false_eq_true, if_false]

/-- A walk over empty ready lists ends. -/
theorem placeSteps_walk {cursor : Nat} (hready : s.planner.ready = Quad.all [])
    (hends : s.walkEnds b cursor = false) (classes : List ServiceClass) (barred : Bool) (n : Nat) :
    State.placeSteps (classes.length + 1 + n)
        (s.withBuild { b with phase := .walk cursor [] classes, barred := barred })
      = s.withBuild { b with phase := .done, barred := barred } := by
  induction classes with
  | nil =>
    rw [List.length_nil, Nat.zero_add, Nat.add_comm, State.placeSteps, placeOne_walked rfl rfl]
    exact placeSteps_fixed (placeOne_done rfl rfl) n
  | cons k classes ih =>
    have hempty : (s.planner.ready.get k) = [] := by
      rw [hready]
      match k with
      | 0 | 1 | 2 | 3 => rfl
    have hstep : (s.withBuild { b with
          phase := .walk cursor [] (k :: classes), barred := barred }).placeOne
        = s.withBuild { b with phase := .walk cursor [] classes, barred := barred } := by
      rw [placeOne_class rfl rfl (by exact hends)]
      exact congrArg (fun l => s.withBuild { b with phase := .walk cursor l classes, barred := barred })
        hempty
    rw [List.length_cons, show classes.length + 1 + 1 + n = (classes.length + 1 + n) + 1 by omega,
      State.placeSteps, hstep, ih]

/-- The bid window and the walk behind it, with nothing to serve. -/
theorem placeSteps_bid {n0 slots : Nat} (hready : s.planner.ready = Quad.all [])
    (hfull : b.map.entries.length < 239) (hfree : s.freeRuns b = [⟨n0, slots - n0⟩])
    (hafter : s.freeRuns { b with map := b.map.withWindow .bid n0 b.w }
      = [⟨n0 + b.w, slots - (n0 + b.w)⟩])
    (hroom : n0 + b.w < slots) (hphase : b.phase = .bidWindow) (n : Nat) :
    State.placeSteps (6 + n) (s.withBuild b) = s.withBuild { b with
      map := b.map.withWindow .bid n0 b.w, phase := .done, barred := s.life == .listen } := by
  have hrun : ((s.withBuild b).freeRuns b).find? (fun r => decide (b.w ≤ r.len)) = some ⟨n0, slots - n0⟩ := by
    rw [show (s.withBuild b).freeRuns b = [⟨n0, slots - n0⟩] from hfree]
    exact List.find?_cons_of_pos (decide_eq_true (by dsimp only; omega))
  have hlen : (b.map.withWindow .bid n0 b.w).entries.length < 240 := by
    rw [TurnMap.withWindow, length_insertEntry]
    omega
  have hends : s.walkEnds { b with map := b.map.withWindow .bid n0 b.w } (n0 + b.w) = false :=
    walkEnds_eq_false hlen hafter (by dsimp only; omega)
  have hstep : (s.withBuild b).placeOne = s.withBuild { b with
      map := b.map.withWindow .bid n0 b.w, phase := .walk (n0 + b.w) [] quadIndexes,
      barred := s.life == .listen } := by
    rw [placeOne_bid rfl hphase (by omega), placeBid_run rfl hrun,
      beginWalk_run rfl (by exact hafter)]
    exact endWalk_stays rfl rfl (by exact hends)
  rw [show 6 + n = (quadIndexes.length + 1 + n) + 1 by simp [quadIndexes]; omega, State.placeSteps, hstep]
  exact placeSteps_walk (b := { b with map := b.map.withWindow .bid n0 b.w }) hready hends _ _ _

end

/-- A window at the cursor takes its slots. -/
theorem gaps_window (kind : EntryKind) (cur len stop : Nat) (es : List Entry) :
    gaps cur stop (windowEntry kind cur len :: es) = gaps (cur + len) stop es := by
  rw [gaps, if_neg (show ¬ cur < (windowEntry kind cur len).start from Nat.lt_irrefl cur)]
  exact congrArg (gaps · stop es) (Nat.max_eq_right (Nat.le_add_right cur len))

/-- Settles O39: the request taken, the steps of a placement, and the windows. -/
theorem plannerBuildsTheHeadRequest : Obligations.PlannerBuildsTheHeadRequest := by
  refine ⟨fun s m rest w hfree hreq hw => ?takes, fun s b hb => ?goesOn, fun s upTo hfree hreq => ?idle,
    fun s m rest w hfree hreq hflows hready hw hpos => ?windows, fun s b hb hlen => ?window⟩
  case takes =>
    intro sweep
    refine ⟨fun hdue => ?_, fun f cad hdue hf hcad hlate => ?_⟩
    · rw [exec_plannerTakes hfree hreq, takeRequest_none_due hdue hw]
      rfl
    · intro gone k hgone
      have hmem : f ∈ s.dueFlows m := by rw [hdue]; exact List.mem_singleton_self f
      have hsome : (cad.lateness m.period).isSome = true := by
        have hkeep := (List.mem_filter.mp hmem).2
        simp only [hcad, Bool.and_eq_true] at hkeep
        exact hkeep.2
      have hnear : (m.period - cad.nextDue).toNat < 2147483648 := by
        unfold Cadence.lateness at hsome
        split at hsome
        · assumption
        · cases hsome
      have hdrops : cad.drops m.period = gone := by
        simp only [Cadence.drops, Cadence.lateness, if_pos hnear, if_neg (Nat.not_le.mpr hlate)]
        rfl
      obtain ⟨hsweep, hflow, hcount, r, hfault⟩ :=
        takeRequest_late hdue hf hcad (by rw [hdrops]; exact Nat.ne_of_gt hgone) rest
      rw [hdrops] at hflow hcount
      exact ⟨_, r, exec_plannerTakes hfree hreq _, hsweep, hflow, hcount, hfault⟩
  case goesOn =>
    refine ⟨exec_plannerPlaces hb _, fun i j => ?_⟩
    have hkept : (State.placeSteps i s).isBuilding = true := by
      rw [placeSteps_isBuilding, State.isBuilding, hb]
      rfl
    obtain ⟨c, hc⟩ := Option.isSome_iff_exists.mp hkept
    refine ⟨_, c, exec_plannerPlaces hb _, hc, ?_⟩
    rw [exec_plannerPlaces hb, exec_plannerPlaces (s := s.placeUpTo (some i)) hc]
    exact congrArg Host.Outcome.next (placeSteps_add s i j)
  case idle =>
    change execPlannerTakesRequest upTo s = _
    simp only [execPlannerTakesRequest, hfree, hreq]
  case windows =>
    intro p join sweep hroom
    let u : State := { s with
      planner := { s.planner with requests := rest }, sweep := s.suspendedSweep }
    have hparts : partSlots (u.part m.chan) = p.periodSlots.toNat := rfl
    have hempty : s.dueFlows m = [] := by rw [State.dueFlows, hflows]; rfl
    have htake : s.takeRequest m rest = u.withBuild ⟨⟨m, [], false⟩, w, .cadence [], false⟩ :=
      takeRequest_none_due hempty hw rest
    have hsteps : (u.withBuild ⟨⟨m, [], false⟩, w, .cadence [], false⟩).stepsLeft = 12 := by
      have hu : u.planner.ready = Quad.all [] := hready
      simp only [State.stepsLeft, State.withBuild, hu]
      rfl
    have hexec : exec (.plannerTakesRequest none) s = .next (State.placeSteps 11
        (u.withBuild ⟨⟨m, [], false⟩, w, .joinWindow, false⟩)) := by
      rw [exec_plannerTakes hfree hreq, htake]
      exact congrArg (fun n => Host.Outcome.next (State.placeSteps n _)) hsteps
    have hgaps (n : Nat) (h : n < p.periodSlots.toNat) :
        gaps n p.periodSlots.toNat [] = [⟨n, p.periodSlots.toNat - n⟩] := if_pos h
    refine ⟨fun hjoin => ?_, fun hjoin => ?_⟩
    · have hdue : joinDue (u.part m.chan) m.period = true := joinDue_iff.mpr hjoin
      have hrun : (u.freeRuns ⟨⟨m, [], false⟩, w, .joinWindow, false⟩).find?
          (fun r => decide (p.joinSlots.toNat ≤ r.len)) = some ⟨0, p.periodSlots.toNat⟩ := by
        rw [show u.freeRuns ⟨⟨m, [], false⟩, w, .joinWindow, false⟩ = [⟨0, p.periodSlots.toNat⟩] from
          hgaps 0 (by omega)]
        exact List.find?_cons_of_pos (decide_eq_true (by dsimp only; omega))
      have hjoined : (windowEntry .join 0 p.joinSlots.toNat) :: [windowEntry .bid p.joinSlots.toNat w]
          = insertEntry (windowEntry .bid p.joinSlots.toNat w)
            [windowEntry .join 0 p.joinSlots.toNat] := (if_neg (Nat.not_lt_zero _)).symm
      let b : Build := ⟨⟨m, [], false⟩, w, .joinWindow, false⟩
      rw [hexec, State.placeSteps,
        placeOne_join (s := u.withBuild b) (b := b) rfl rfl hdue (Nat.zero_lt_succ _),
        placeJoin_run (s := u.withBuild b) (b := b) rfl hrun]
      refine (congrArg Host.Outcome.next (placeSteps_bid (s := u)
        (b := ⟨⟨m, [windowEntry .join 0 p.joinSlots.toNat], false⟩, w, .bidWindow, false⟩)
        (n0 := p.joinSlots.toNat) (slots := p.periodSlots.toNat) hready
        (Nat.succ_lt_succ (Nat.zero_lt_succ _)) ?_ ?_ hroom rfl 4)).trans ?_
      · refine (gaps_window .join 0 p.joinSlots.toNat _ []).trans ?_
        rw [Nat.zero_add]
        exact hgaps _ (by omega)
      · change gaps 0 p.periodSlots.toNat (insertEntry _ _) = _
        rw [← hjoined, gaps_window, Nat.zero_add, gaps_window]
        exact hgaps _ hroom
      · simp only [TurnMap.withWindow, ← hjoined]
        rfl
    · have hdue : joinDue (u.part m.chan) m.period = false :=
        Bool.eq_false_iff.mpr fun h => hjoin (joinDue_iff.mp h)
      rw [hexec, State.placeSteps, placeOne_noJoin rfl rfl hdue]
      refine congrArg Host.Outcome.next (placeSteps_bid (s := u)
        (b := ⟨⟨m, [], false⟩, w, .bidWindow, false⟩) (n0 := 0) (slots := p.periodSlots.toNat) hready
        (Nat.zero_lt_succ _) ?_ ?_ (by dsimp only; omega) rfl 4)
      · exact hgaps 0 (by omega)
      · exact (gaps_window .bid 0 w _ []).trans (hgaps (0 + w) (by omega))
  case window =>
    intro c p ch runs placed
    refine ⟨fun hphase hslots hperiod => ⟨fun r hr => ?_, fun hshort => ?_⟩, fun hphase => ?_⟩
    · rw [exec_one hb, placeOne_join hb hphase (joinDue_iff.mpr ⟨hslots, hperiod⟩) hlen,
        placeJoin_run hb hr]
      rfl
    · have hnone : runs.find? (fun r => decide (p.joinSlots.toNat ≤ r.len)) = none :=
        List.find?_eq_none.mpr fun r hr => by simpa using hshort r hr
      rw [exec_one hb, placeOne_join hb hphase (joinDue_iff.mpr ⟨hslots, hperiod⟩) hlen,
        placeJoin_skipped hnone, setPhase_eq (b := b) (by exact hb)]
      rfl
    · obtain ⟨b', hb', hw⟩ := placeBid_build hb
      obtain ⟨ph, barred, hwalk⟩ := beginWalk_build hb'
      have hmap {u : State} {m : TurnMap} (hu : s.placeBid b = u)
          (hbuild : u.planner.building.map (·.map) = some m) : b'.map = m := by
        rw [← hu, hb'] at hbuild
        exact Option.some.inj hbuild
      refine ⟨_, { b' with phase := ph, barred := barred }, ?_, congrArg (·.planner.building) hwalk, hw,
        fun r hr => ?_, fun i r hshort hat hlongest hfirst => ?_, fun hnone => ?_⟩
      · rw [exec_one hb, placeOne_bid hb hphase hlen]
      · have hplaced := placeBid_run hb hr
        refine ⟨hmap hplaced rfl, ?_⟩
        rw [hwalk, hplaced]
        rfl
      · have hnone : runs.find? (fun r => decide (b.w ≤ r.len)) = none :=
          List.find?_eq_none.mpr fun q hq => by simpa using hshort q hq
        have hplaced := placeBid_clipped hb hnone (longestRun_first hat hlongest hfirst)
        refine ⟨hmap hplaced rfl, ?_⟩
        rw [hwalk, hplaced]
        rfl
      · have hplaced := placeBid_absent hnone
        refine ⟨hmap hplaced (by rw [modMaps_eq]; exact congrArg (Option.map _) hb), ?_⟩
        rw [hwalk, hplaced]
        rfl

end Sys2Proof.Machine
end

section
/-! SUPPORT. The placement of one turn: the walk's visit to a flow (5.3). -/

namespace Sys2Proof.Machine

-- One proof after another: side by side, as many as stand here need more threads than the check gives.
set_option Elab.async false

/-! ### What opening a turn changes (R82, R101) -/

theorem slotTick_congr {s t : State} (hlife : t.life = s.life) (hrecord : t.accepted = s.accepted)
    (n : MapName) (slot : Nat) : t.slotTick n slot = s.slotTick n slot := by
  simp only [State.slotTick, State.startTick, State.part, State.inForce, hlife, hrecord]

/-- A turn's first writes: its entry, its pending entry, and the record of its flow. -/
def State.openTurn (s : State) (e : Entry) (p : PendingEntry) (tag : Tag) (g : Flow → Flow) : State :=
  ((s.placeEntry e).openPending p).updFlow tag g

section
variable {s : State} {e : Entry} {p : PendingEntry} {tag : Tag} {g : Flow → Flow} {f : Flow}

theorem openTurn_flow (hf : s.flow tag = some f) : (s.openTurn e p tag g).flow tag = some (g f) :=
  flow_updFlow_same (s := (s.placeEntry e).openPending p) hf g

/-- The fields of the planner and of the tracker after a turn's first writes. -/
theorem openTurn_frame (s : State) (e : Entry) (p : PendingEntry) (tag : Tag) (g : Flow → Flow) :
    (s.openTurn e p tag g).planner.building.map (·.map) = s.planner.building.map (fun b =>
        { b.map with entries := insertEntry e b.map.entries }) ∧
      (s.openTurn e p tag g).planner.localHolds = s.planner.localHolds ∧
      (s.openTurn e p tag g).tracker.list = insertPending p s.tracker.list ∧
      (s.openTurn e p tag g).link = s.link ∧ (s.openTurn e p tag g).chans = s.chans ∧
      (s.openTurn e p tag g).life = s.life ∧ (s.openTurn e p tag g).accepted = s.accepted := by
  have hplan := updFlow_plan ((s.placeEntry e).openPending p) tag g
  refine ⟨hplan.building.trans ?_, hplan.localHolds, ?_⟩
  · exact Option.map_map _ _ _
  · simp only [State.openTurn, updFlow_frame]
    exact ⟨rfl, rfl, rfl, rfl, rfl⟩

theorem openTurn_slotTick (n : MapName) (slot : Nat) :
    (s.openTurn e p tag g).slotTick n slot = s.slotTick n slot := by
  obtain ⟨-, -, -, -, -, hlife, hrecord⟩ := openTurn_frame s e p tag g
  exact slotTick_congr hlife hrecord n slot

/-- The ready list of the flow after its record is written: it leaves when no longer eligible (R38). -/
theorem openTurn_ready (hf : s.flow tag = some f) (htag : (g f).tag = tag)
    (hin : s.isReady (g f) = true) : (s.openTurn e p tag g).planner.ready.get (g f).cls
      = if (g f).eligible = true then s.planner.ready.get (g f).cls
        else (s.planner.ready.get (g f).cls).filter (· ≠ tag) := by
  have hin' (u : State) (hu : u.planner.ready = s.planner.ready) : u.isReady (g f) = true := by
    rw [State.isReady, hu]
    exact hin
  rw [State.openTurn, updFlow_eq (s := (s.placeEntry e).openPending p) hf, State.settle]
  have hwritten : (((s.placeEntry e).openPending p).writeFlow tag (g f)).planner.ready = s.planner.ready := by
    rw [writeFlow_planner]
    rfl
  rw [if_pos (hin' _ hwritten), if_pos (hin' _ hwritten)]
  split
  · rw [hwritten]
  · simp only [State.leaveReady, modPlanner_planner, quad_get_set_same, hwritten, htag]

/-- The local hold of a single-chain modem's turn (R83). -/
def State.holdTurn (s : State) (n : MapName) (m : Modem) (key : Key) (e : Entry) : State :=
  if m.single then s.addLocalHold n key e else s

theorem holdTurn_eq (s : State) (n : MapName) (m : Modem) (key : Key) (e : Entry) :
    s.holdTurn n m key e = { s with planner := { s.planner with
      localHolds := s.planner.localHolds ++ (if m.single then
        [⟨key, s.slotTick n e.start, s.slotTick n (e.start + e.len), n.turn e.start⟩] else []) } } := by
  unfold State.holdTurn
  split
  · rfl
  · rw [List.append_nil]

end

/-! ### The visit to a flow (R79 to R82) -/

section
variable {s : State} {b : Build} {tag : Tag} {cursor : Nat} {left : List Tag}
  {classes : List ServiceClass} {f : Flow} {m : Modem} {k : Candidate}

theorem placeOne_visit (hb : s.planner.building = some b) (hphase : b.phase = .walk cursor (tag :: left) classes)
    (hends : s.walkEnds b cursor = false) : s.placeOne
      = ((s.withBuild { b with phase := .walk cursor left classes }).visit b tag cursor left
          classes).endWalk := by
  simp only [State.placeOne, hb, hphase, hends, Bool.false_eq_true, if_false]
  rw [setPhase_eq hb]

theorem visit_skips (hf : s.flow tag = some f) (hm : s.modemAt f.modemIx = some m)
    (hskip : s.skipInPlace b f m = true) : s.visit b tag cursor left classes = s := by
  simp only [State.visit, hf, hm, hskip, if_true]

theorem visit_sizes (hf : s.flow tag = some f) (hm : s.modemAt f.modemIx = some m)
    (hskip : s.skipInPlace b f m = false) {v : State}
    (hv : s.updFlow tag (fun _ => f.refresh s.time.beat) = v)
    (hleast : min v.minGrant (f.refresh s.time.beat).unclaimed ≤ v.want (f.refresh s.time.beat) m)
    (hpos : 0 < v.want (f.refresh s.time.beat) m) : s.visit b tag cursor left classes
      = v.sizeAndPlace b (f.refresh s.time.beat) m cursor left classes := by
  have hgoes : ¬ (v.want (f.refresh s.time.beat) m < min v.minGrant (f.refresh s.time.beat).unclaimed ∨
      v.want (f.refresh s.time.beat) m = 0) := by omega
  simp only [State.visit, hf, hm, hskip, Bool.false_eq_true, if_false, hv, if_neg hgoes]

theorem sizeAndPlace_held (hsize : sizeAgainst (s.profile m.profileInForce)
      (s.part b.map.name.chan).q.toNat s.minGrant (s.want f m) (runsFrom cursor (s.freeRuns b)) = some k)
    (hsingle : m.single = true) (hheld : s.heldAcross m.key (s.slotTick b.map.name k.start)
      (s.slotTick b.map.name (k.start + k.len)) = true) :
    s.sizeAndPlace b f m cursor left classes = s.setPhase (.walk k.start left classes) := by
  simp only [State.sizeAndPlace, hsize, hsingle, hheld, Bool.and_self, if_true]

theorem sizeAndPlace_free (hsize : sizeAgainst (s.profile m.profileInForce)
      (s.part b.map.name.chan).q.toNat s.minGrant (s.want f m) (runsFrom cursor (s.freeRuns b)) = some k)
    (hfree : m.single = true → s.heldAcross m.key (s.slotTick b.map.name k.start)
      (s.slotTick b.map.name (k.start + k.len)) = false) :
    s.sizeAndPlace b f m cursor left classes = s.placeData b.map.name f m k left classes := by
  have hnot : ¬ ((m.single && s.heldAcross m.key (s.slotTick b.map.name k.start)
      (s.slotTick b.map.name (k.start + k.len))) = true) := by
    rw [Bool.and_eq_true]
    exact fun h => by simp [hfree h.1] at h
  simp only [State.sizeAndPlace, hsize, if_neg hnot]

end

/-! ### The placement of a data turn (R82) -/

section
variable {s : State} {f : Flow} {m : Modem} {k : Candidate}

/-- The notice of a data turn of a spanning-active flow. -/
def takeNotice (s : State) (n : MapName) (f : Flow) (m : Modem) (e : Entry) : Notice :=
  if m.single then .takeHold f.tag (BitVec.ofNat 16 e.bytes) f.modemKey (s.slotTick n e.start)
    (s.slotTick n (e.start + e.len))
  else .take f.tag (BitVec.ofNat 16 e.bytes)

theorem queueTake_room (h : s.link.queue.length < 64) (n : MapName) (f : Flow) (m : Modem) (e : Entry) :
    (s.queueTake n f m e).link.queue
      = insertNotice ⟨takeNotice s n f m e, some (n.turn e.start)⟩ s.link.queue := by
  unfold State.queueTake takeNotice
  split
  · rw [State.queueTakeHold, enqueue_room _ h]
    rfl
  · rw [enqueue_room _ h]
    rfl

/-- The planner of a state, its ready lists apart. -/
theorem requeue_plan (s : State) (tag : Tag) : SamePlan s.planner (s.requeue tag).planner := by
  unfold State.requeue
  split
  · split
    · exact {}
    · exact .refl _
  · exact .refl _

theorem setPhase_plan (s : State) (ph : Phase) : SamePlan s.planner (s.setPhase ph).planner where
  building := Option.map_map _ _ _

theorem endWalk_plan (s : State) : SamePlan s.planner s.endWalk.planner := by
  unfold State.endWalk
  split
  · exact .refl _
  · split
    · split
      · exact setPhase_plan s _
      · exact .refl _
    · exact .refl _

theorem endWalk_ready (s : State) : s.endWalk.planner.ready = s.planner.ready := by
  unfold State.endWalk
  split
  · rfl
  · split
    · split
      · rfl
      · rfl
    · rfl

/-- The ready list after a flow that is still eligible has gone to its tail. -/
theorem requeue_ready (hf : s.flow f.tag = some f) :
    (s.requeue f.tag).planner.ready.get f.cls = if f.eligible = true then
      (s.planner.ready.get f.cls).filter (· ≠ f.tag) ++ [f.tag] else s.planner.ready.get f.cls := by
  simp only [State.requeue, hf]
  split
  · simp only [State.toTail, modPlanner_planner, quad_get_set_same]
  · rfl

/-- A data turn in place: the record, the lists, the map, the pending entry, the hold and the notice. -/
theorem placeData_spec (hf : s.flow f.tag = some f) (hin : s.isReady f = true)
    (hroom : s.spanningActive f = true → s.link.queue.length < 64) (n : MapName) (left : List Tag)
    (classes : List ServiceClass) :
    let spans := s.spanningActive f
    let e := dataEntry f m k spans
    let g := f.granted k.bytes spans
    let t := (s.placeData n f m k left classes).endWalk
    t.flow f.tag = some g ∧
      t.planner.ready.get f.cls = (s.planner.ready.get f.cls).filter (· ≠ f.tag)
        ++ (if g.eligible = true then [f.tag] else []) ∧
      t.planner.building.map (·.map) = s.planner.building.map (fun b =>
        { b.map with entries := insertEntry e b.map.entries }) ∧
      t.tracker.list = insertPending (s.pendingOf n f e) s.tracker.list ∧
      t.planner.localHolds = s.planner.localHolds ++ (if m.single then
        [⟨f.modemKey, s.slotTick n e.start, s.slotTick n (e.start + e.len), n.turn e.start⟩] else []) ∧
      t.link.queue = if spans then
        insertNotice ⟨takeNotice s n f m e, some (n.turn e.start)⟩ s.link.queue else s.link.queue := by
  intro spans e g t
  obtain ⟨hgtag, hgcls, -⟩ := granted_keeps f k.bytes spans
  let u := s.openTurn e (s.pendingOf n f e) f.tag (·.granted k.bytes spans)
  let v := if spans then u.queueTake n f m e else u
  let w := v.holdTurn n m f.modemKey e
  have ht : t = ((w.requeue f.tag).setPhase (.walk (k.start + k.len) left classes)).endWalk := rfl
  obtain ⟨hmap, hholds, hlist, hlink, -, hlife, hrecord⟩ :=
    openTurn_frame s e (s.pendingOf n f e) f.tag (·.granted k.bytes spans)
  have huflow : u.flow f.tag = some g := openTurn_flow hf
  have hin' : s.isReady g = true := by
    rw [State.isReady, hgcls, hgtag]
    exact hin
  have huready := openTurn_ready (e := e) (p := s.pendingOf n f e) (g := (·.granted k.bytes spans)) hf hgtag hin'
  have hv : v.planner = u.planner ∧ v.store = u.store ∧ v.tracker = u.tracker ∧ v.life = u.life ∧
      v.accepted = u.accepted := by
    simp only [v]
    split
    · simp only [queueTake_frame, and_self]
    · exact ⟨rfl, rfl, rfl, rfl, rfl⟩
  obtain ⟨hvplan, hvstore, hvtrack, hvlife, hvrecord⟩ := hv
  have hvtick (slot : Nat) : v.slotTick n slot = s.slotTick n slot :=
    slotTick_congr (hvlife.trans hlife) (hvrecord.trans hrecord) n slot
  have hvlink : v.link.queue = if spans then
      insertNotice ⟨takeNotice s n f m e, some (n.turn e.start)⟩ s.link.queue else s.link.queue := by
    simp only [v]
    split
    · rename_i hspans
      have hroom' : u.link.queue.length < 64 := by rw [hlink]; exact hroom hspans
      have hnotice : takeNotice u n f m e = takeNotice s n f m e := by
        simp only [takeNotice, u, openTurn_slotTick]
      rw [queueTake_room hroom', hnotice, hlink]
    · exact congrArg Link.queue hlink
  have hw := holdTurn_eq v n m f.modemKey e
  have hplan : SamePlan w.planner t.planner := by
    rw [ht]
    exact ((requeue_plan w f.tag).trans (setPhase_plan _ _)).trans (endWalk_plan _)
  have hwflow : w.flow f.tag = some g := by
    rw [← huflow]
    exact flow_of_store ((congrArg State.store hw).trans hvstore) f.tag
  have hframe : t.store = w.store ∧ t.tracker = w.tracker ∧ t.link = w.link := by
    rw [ht]
    simp only [endWalk_frame, setPhase_frame, requeue_frame, and_self]
  obtain ⟨htstore, httrack, htlink⟩ := hframe
  refine ⟨?_, ?_, ?_, ?_, ?_, ?_⟩
  · rw [flow_of_store htstore, hwflow]
  · rw [ht, endWalk_ready]
    change (w.requeue f.tag).planner.ready.get f.cls = _
    have hwready : w.planner.ready = u.planner.ready := by
      rw [← hvplan]
      exact congrArg (·.planner.ready) hw
    have hrequeued := requeue_ready (s := w) (f := g) (by rw [hgtag]; exact hwflow)
    rw [hgtag, hgcls] at hrequeued
    rw [hgcls] at huready
    rw [hrequeued, hwready, huready]
    split
    · rfl
    · rw [List.append_nil]
  · rw [hplan.building, ← hmap, ← hvplan]
    exact congrArg (·.planner.building.map (·.map)) hw
  · rw [httrack, ← hlist, ← hvtrack]
    exact congrArg (·.tracker.list) hw
  · rw [hplan.localHolds, ← hholds]
    refine (congrArg (·.planner.localHolds) hw).trans ?_
    rw [hvplan]
    simp only [hvtick]
    rfl
  · rw [htlink, ← hvlink]
    exact congrArg (·.link.queue) hw

end

/-! ### The placement of a cadence turn (R99 to R101) -/

section
variable {s : State} {b : Build} {tag : Tag} {left : List Tag} {f : Flow} {m : Modem} {cad : Cadence}
  {slot need : Nat}

theorem placeOne_cadence (hb : s.planner.building = some b) (hphase : b.phase = .cadence (tag :: left))
    (hlen : b.map.entries.length < 240) : s.placeOne
      = (s.withBuild { b with phase := .cadence left }).handleCadence b tag := by
  simp only [State.placeOne, hb, hphase, full_eq_false hlen, Bool.false_eq_true, if_false]
  rw [setPhase_eq hb]

/-- The planner reaches a flow that is due. -/
theorem handleCadence_due (hf : s.flow tag = some f) (hcad : f.cadence = some cad)
    (hm : s.modemAt f.modemIx = some m) (hactive : f.state = .active)
    (hdue : (b.map.name.period - cad.nextDue).toNat < 2147483648) : s.handleCadence b tag
      = if s.cadenceBarred f m then s.blocked b.map.name.chan else s.positionCadence b f m cad := by
  have hgoes : ¬ ((f.state != .active || (cad.lateness b.map.name.period).isNone) = true) := by
    simp [hactive, show cad.lateness b.map.name.period = some _ from if_pos hdue]
  simp only [State.handleCadence, hf, hcad, hm, if_neg hgoes]

theorem modemSpans_iff (s : State) (i : Nat) : s.modemSpans i = true ↔
    ∃ x ∈ s.store.flows, x.2.modemIx = i ∧ s.spanningActive x.2 = true := by
  simp only [State.modemSpans, List.any_eq_true, Bool.and_eq_true, beq_iff_eq]

theorem cadenceBarred_iff : s.cadenceBarred f m = true ↔
    f.pendingCount = 4 ∨ s.pendingFull = true ∨ (m.single = true ∧ s.localFull = true) ∨
      (m.single = true ∧ s.modemSpans f.modemIx = true ∧ s.txFull = true) := by
  simp only [State.cadenceBarred, Bool.or_eq_true, Bool.and_eq_true, beq_iff_eq, or_assoc, and_assoc]

theorem positionCadence_blocked (h : cadenceSlot (s.freeRuns b) cad.phase
      (s.slots m.profileInForce b.map.name.chan cad.bytes) = none ∨
    ∃ slot, cadenceSlot (s.freeRuns b) cad.phase
      (s.slots m.profileInForce b.map.name.chan cad.bytes) = some slot ∧ m.single = true ∧
      s.heldAcross m.key (s.slotTick b.map.name slot)
        (s.slotTick b.map.name (slot + s.slots m.profileInForce b.map.name.chan cad.bytes)) = true) :
    s.positionCadence b f m cad = s.blocked b.map.name.chan := by
  obtain hnone | ⟨slot, hslot, hsingle, hheld⟩ := h
  · simp only [State.positionCadence, hnone]
  · simp only [State.positionCadence, hslot, hsingle, hheld, Bool.and_self, if_true]

theorem positionCadence_free (hslot : cadenceSlot (s.freeRuns b) cad.phase
      (s.slots m.profileInForce b.map.name.chan cad.bytes) = some slot)
    (hfree : ¬ (m.single = true ∧ s.heldAcross m.key (s.slotTick b.map.name slot)
      (s.slotTick b.map.name (slot + s.slots m.profileInForce b.map.name.chan cad.bytes)) = true)) :
    s.positionCadence b f m cad = s.placeCadence b.map.name f m cad slot
      (s.slots m.profileInForce b.map.name.chan cad.bytes) := by
  rw [← Bool.and_eq_true] at hfree
  simp only [State.positionCadence, hslot, if_neg hfree]

/-- The entry of a cadence turn. -/
def cadenceEntry (f : Flow) (m : Modem) (cad : Cadence) (slot need : Nat) (hold : Bool) : Entry :=
  { kind := .cadence, start := slot, len := need, tag := f.tag, profile := m.profileInForce,
    bytes := cad.bytes, fate := if hold then .queued else .noTake, hold := hold, orphan := false }

/-- A cadence turn in place: the record, the map, the pending entry, the counter, the hold and the
notice. -/
theorem placeCadence_spec (hf : s.flow f.tag = some f) (hcad : f.cadence = some cad)
    (hroom : m.single = true ∧ s.modemSpans f.modemIx = true → s.link.queue.length < 64) (n : MapName) :
    let hold := m.single && s.modemSpans f.modemIx
    let e := cadenceEntry f m cad slot need hold
    let t := s.placeCadence n f m cad slot need
    t.flow f.tag = some { f with pendingCount := f.pendingCount + 1, cadence := some (cad.later 1) } ∧
      t.planner.building.map (·.map) = s.planner.building.map (fun b =>
        { b.map with entries := insertEntry e b.map.entries }) ∧
      t.tracker.list = insertPending (s.pendingOf n f e) s.tracker.list ∧
      (t.chans.get n.chan).cadence = { (s.chans.get n.chan).cadence with
        placed := bump (s.chans.get n.chan).cadence.placed 1 } ∧
      t.planner.localHolds = s.planner.localHolds ++ (if m.single then
        [⟨f.modemKey, s.slotTick n slot, s.slotTick n (slot + need), n.turn slot⟩] else []) ∧
      (hold = true → t.link.queue = insertNotice ⟨.takeHold f.tag 0 f.modemKey (s.slotTick n slot)
        (s.slotTick n (slot + need)), some (n.turn slot)⟩ s.link.queue) ∧
      (hold = false → t.link = s.link) := by
  intro hold e t
  let g : Flow → Flow := fun f =>
    { f with pendingCount := f.pendingCount + 1, cadence := f.cadence.map (·.later 1) }
  let u := s.openTurn e (s.pendingOf n f e) f.tag g
  let w := u.holdTurn n m f.modemKey e
  let v := if hold then w.queueTakeHold n f e 0 else w
  have ht : t = v.modCadence n.chan fun k => { k with placed := bump k.placed 1 } := rfl
  obtain ⟨hmap, hholds, hlist, hlink, hchans, hlife, hrecord⟩ :=
    openTurn_frame s e (s.pendingOf n f e) f.tag g
  have huflow : u.flow f.tag = some { f with
      pendingCount := f.pendingCount + 1, cadence := some (cad.later 1) } := by
    rw [openTurn_flow hf]
    simp only [g, hcad]
    rfl
  have hw := holdTurn_eq u n m f.modemKey e
  have hv : v.planner = w.planner ∧ v.store = w.store ∧ v.tracker = w.tracker ∧ v.chans = w.chans := by
    simp only [v]
    split
    · simp only [queueTakeHold_frame, and_self]
    · exact ⟨rfl, rfl, rfl, rfl⟩
  obtain ⟨hvplan, hvstore, hvtrack, hvchans⟩ := hv
  have hwtick (slot : Nat) : w.slotTick n slot = s.slotTick n slot :=
    slotTick_congr ((congrArg State.life hw).trans hlife) ((congrArg State.accepted hw).trans hrecord) n slot
  have hwlink : w.link = s.link := (congrArg State.link hw).trans hlink
  rw [ht]
  refine ⟨?_, ?_, ?_, ?_, ?_, fun hyes => ?_, fun hno => ?_⟩
  · rw [← huflow]
    exact flow_of_store (hvstore.trans (congrArg State.store hw)) f.tag
  · refine Eq.trans ?_ hmap
    exact congrArg (fun p : Planner => p.building.map (·.map))
      (hvplan.trans (congrArg State.planner hw))
  · refine Eq.trans ?_ hlist
    exact congrArg Tracker.list (hvtrack.trans (congrArg State.tracker hw :))
  · have hsame : v.chans = s.chans := (hvchans.trans (congrArg State.chans hw)).trans hchans
    simp only [State.modCadence, State.modChan, quad_get_set_same, hsame]
  · refine (congrArg Planner.localHolds (hvplan.trans (congrArg State.planner hw))).trans ?_
    change u.planner.localHolds ++ _ = _
    rw [hholds]
    simp only [u, openTurn_slotTick]
    rfl
  · change v.link.queue = _
    have hroom' : w.link.queue.length < 64 := by
      rw [hwlink]
      exact hroom (Bool.and_eq_true_iff.mp hyes)
    simp only [v, hyes, if_true, State.queueTakeHold]
    rw [enqueue_room _ hroom', hwtick, hwtick, ← hwlink]
    rfl
  · simp only [v, hno, Bool.false_eq_true, if_false]
    exact hwlink

end

end Sys2Proof.Machine
end

section
/-! SUPPORT. A visit that places a turn, and one that skips its flow (5.3, 6.2). -/

namespace Sys2Proof.Machine

-- One proof after another: side by side, as many as stand here need more threads than the check gives.
set_option Elab.async false

section
variable {s : State} {b : Build} {f : Flow} {m : Modem}

theorem skipInPlace_barred (hspans : s.spanningActive f = true)
    (hbarred : s.life = .listen ∨ b.barred = true) : s.skipInPlace b f m = true := by
  have hlisten : (s.life == .listen || b.barred) = true := by
    rw [Bool.or_eq_true, beq_iff_eq]
    exact hbarred
  simp only [State.skipInPlace, hspans, hlisten, Bool.and_self, Bool.or_true, Bool.true_or]

theorem skipInPlace_eq_false (hmask : f.chanMask.getLsbD b.map.name.chan.val = true)
    (hpending : s.pendingFull = false) (hlocal : m.single = true → s.localFull = false)
    (hspans : s.spanningActive f = true → s.life ≠ .listen ∧ b.barred = false ∧ s.txFull = false) :
    s.skipInPlace b f m = false := by
  have hheld : (m.single && s.localFull) = false := by
    cases hsingle : m.single
    · rfl
    · exact hlocal hsingle
  have hspan : ((s.life == .listen || b.barred) && s.spanningActive f) = false ∧
      (s.spanningActive f && s.txFull) = false := by
    cases hactive : s.spanningActive f
    · exact ⟨Bool.and_false _, rfl⟩
    · obtain ⟨hlife, hbarred, hroom⟩ := hspans hactive
      rw [beq_false_of_ne hlife, hbarred, hroom]
      exact ⟨rfl, rfl⟩
  simp only [State.skipInPlace, hmask, hpending, hheld, hspan.1, hspan.2, Bool.not_true, Bool.or_self]

theorem granted_eq (f : Flow) (n : Nat) (spans : Bool) : f.granted n spans = { f with
    credit := if f.rate = 0 then f.credit else f.credit - n
    pendingCount := f.pendingCount + 1
    outstanding := if spans then f.outstanding else f.outstanding - n
    tentative := if spans then f.tentative + n else f.tentative } := by
  unfold Flow.granted Flow.charge
  cases spans <;> split <;> rfl

end

/-- Settles O40: the visit by visit, and the cadence flow by R99 and R100. -/
theorem turnsPlaced : Obligations.TurnsPlaced := by
  refine ⟨fun s b tag cursor left classes f m hb hphase hends hf htag helig hin hm => ?data,
    fun s b tag left f m cad hb hphase hlen hf htag hactive hcad hdue hm => ?cadence⟩
  case data =>
    subst htag
    intro spans
    let u := s.withBuild { b with phase := .walk cursor left classes }
    have hstep := placeOne_visit hb hphase hends
    refine ⟨fun hspans hbarred => ?_, fun k hmask hpending hlocal hfree => ?_⟩
    · have hstays : u.endWalk = u := endWalk_stays rfl rfl (by exact hends)
      rw [exec_one hb, hstep, visit_skips (s := u) hf hm (skipInPlace_barred hspans hbarred)]
      exact congrArg Host.Outcome.next hstays
    · intro credit cap want hleast hpos hsize a z turn e fresh g notice
      have hskip : u.skipInPlace b f m = false := skipInPlace_eq_false hmask hpending hlocal hfree
      obtain ⟨ix, -, hix, hat⟩ := flow_record hf
      let v := u.putFlow ix fresh
      have hv : u.updFlow f.tag (fun _ => f.refresh u.time.beat) = v :=
        updFlow_in_place (s := u) hix hat (helig.trans hin.symm)
      have hvisit := visit_sizes (s := u) (b := b) (cursor := cursor) (left := left)
        (classes := classes) hf hm hskip hv hleast hpos
      have hvflow : v.flow f.tag = some fresh := by
        rw [← hv]
        exact flow_updFlow_same (s := u) hf _
      have hexec := exec_one hb
      rw [hstep, hvisit] at hexec
      refine ⟨_, hexec, fun hsingle hheld => ?_, fun hnone => ?_⟩
      · have hplace : v.sizeAndPlace b (f.refresh u.time.beat) m cursor left classes
            = v.setPhase (.walk k.start left classes) := sizeAndPlace_held hsize hsingle hheld
        obtain ⟨ph, hended⟩ := endWalk_build (s := v.setPhase (.walk k.start left classes))
          (b := { b with phase := .walk k.start left classes }) rfl
        rw [hplace, hended]
        exact ⟨hvflow, rfl, rfl, rfl, rfl⟩
      · have hplace : v.sizeAndPlace b (f.refresh u.time.beat) m cursor left classes
            = v.placeData b.map.name fresh m k left classes := sizeAndPlace_free hsize hnone
        have hroom (h : v.spanningActive fresh = true) : v.link.queue.length < 64 := by
          obtain ⟨-, -, hroom⟩ := hfree h
          exact Nat.not_le.mp (of_decide_eq_false hroom)
        obtain ⟨hflow, hready, hmap, hlist, hholds, hqueue⟩ := placeData_spec (s := v) (f := fresh)
          (m := m) (k := k) hvflow hin hroom b.map.name left classes
        have hg : fresh.granted k.bytes (v.spanningActive fresh) = g := granted_eq _ _ _
        rw [hplace]
        refine ⟨hflow.trans (congrArg some hg), ?_, hmap, hlist, hholds, hqueue⟩
        rw [← hg]
        exact hready
  case cadence =>
    subst htag
    intro c need k spans barred held
    let u := s.withBuild { b with phase := .cadence left }
    have hspans : s.modemSpans f.modemIx = true ↔ spans := modemSpans_iff s f.modemIx
    have hbarred : u.cadenceBarred f m = true ↔ barred := by
      rw [cadenceBarred_iff]
      exact or_congr_right (or_congr_right (or_congr_right (and_congr_right fun _ =>
        and_congr_left fun _ => hspans)))
    have hexec := exec_one hb
    rw [placeOne_cadence hb hphase hlen, handleCadence_due (s := u) hf hcad hm hactive hdue] at hexec
    refine ⟨fun slot hgoes hslot hfree => ?_, fun hblocked => ?_⟩
    · intro a z turn
      have hplace : u.positionCadence b f m cad = u.placeCadence b.map.name f m cad slot need :=
        positionCadence_free hslot hfree
      have hroom (h : m.single = true ∧ u.modemSpans f.modemIx = true) : u.link.queue.length < 64 := by
        refine Nat.not_le.mp fun hfull => hgoes (.inr (.inr (.inr ⟨h.1, hspans.mp h.2, ?_⟩)))
        exact decide_eq_true hfull
      obtain ⟨hflow, hmap, hlist, hcount, hholds, hnotice, hquiet⟩ := placeCadence_spec (s := u)
        (slot := slot) (need := need) hf hcad hroom b.map.name
      have hlater : cad.later 1 = { cad with nextDue := cad.nextDue + BitVec.ofNat 32 cad.interval } := by
        rw [Cadence.later, Nat.one_mul]
      rw [if_neg (fun h => hgoes (hbarred.mp h)), hplace] at hexec
      rw [hlater] at hflow
      refine ⟨_, cadenceEntry f m cad slot need (m.single && s.modemSpans f.modemIx), hexec, rfl, rfl,
        rfl, rfl, rfl, rfl, rfl, hflow, hmap, hlist, hcount, hholds, fun h => ?_, fun h => ?_⟩
      · have hold : (m.single && s.modemSpans f.modemIx) = true :=
          Bool.and_eq_true_iff.mpr ⟨h.1, hspans.mpr h.2⟩
        exact ⟨hold, if_pos hold, hnotice hold⟩
      · have hold : (m.single && s.modemSpans f.modemIx) = false :=
          Bool.eq_false_iff.mpr fun hold => h ((Bool.and_eq_true_iff.mp hold).imp_right hspans.mp)
        exact ⟨hold, if_neg (by rw [hold]; exact Bool.false_ne_true), hquiet hold⟩
    · have hstays : (if u.cadenceBarred f m then u.blocked c else u.positionCadence b f m cad)
          = u.blocked c := by
        split
        · rfl
        · rename_i hgoes
          exact positionCadence_blocked (hblocked.resolve_left fun h => hgoes (hbarred.mpr h))
      rw [hexec, hstays]
      rfl

end Sys2Proof.Machine
end

section
/-! SUPPORT. Slips: what a reload of node time passes over (1.1, 1.2). -/

namespace Sys2Proof.Machine

-- One proof after another: side by side, as many as stand here need more threads than the check gives.
set_option Elab.async false

/-! ### A slip (R4, R5) -/

section
variable {s : State} {v : Tick}

theorem fallPresent_none (h : ∀ d ∈ s.deadlines, s.tickOf d ≠ s.time.nodeTime) : s.fallPresent = s := by
  have hnone : s.within 1 = [] := by
    refine List.filter_eq_nil_iff.mpr fun d hd hnear => h d hd ?_
    have hzero : (s.tickOf d - s.time.nodeTime).toNat < 1 := of_decide_eq_true hnear
    bv_omega
  unfold State.fallPresent
  cases s.countFuel s.time.nodeTime with
  | zero => rfl
  | succ n => simp only [State.presentLoop, hnone, State.draw]

theorem before_iff {t u : Tick} :
    before t u = true ↔ 0 < (u - t).toNat ∧ (u - t).toNat < 2147483648 := by
  simp only [before, Bool.and_eq_true, decide_eq_true_eq]

theorem exec_slip (hbeat : v.toNat % 65536 = 0) (htimed : s.time.timed = true) (hne : v ≠ s.time.nodeTime) :
    exec (.timeWord v (crc16 (be4 v.toNat))) s = .next (s.slip v) := by
  rw [exec_timeWord, takeTimeWord_valid rfl hbeat, htimed]
  exact congrArg Host.Outcome.next (if_neg hne)

theorem slip_backward (hpresent : ∀ d ∈ s.deadlines, s.tickOf d ≠ s.time.nodeTime)
    (h : before v s.time.nodeTime = true) : s.slip v = { s with
      time := { s.time with
        nodeTime := v, slips := bump s.time.slips 1, watch := 0, line := .arriving }
      port := { s.port with latched := s.latchedWith 0x20#7 } } := by
  obtain ⟨hpos, hnear⟩ := before_iff.mp h
  have hback : before s.time.nodeTime v = false := by
    rw [Bool.eq_false_iff, ne_eq, before_iff]
    bv_omega
  have hdir : s.slipForward v = (false, s) := by
    rw [State.slipForward, if_neg (by bv_omega), hback]
  rw [State.slip, fallPresent_none hpresent]
  simp only [hdir]
  rfl

theorem slip_forward (hpresent : ∀ d ∈ s.deadlines, s.tickOf d ≠ s.time.nodeTime)
    (h : before s.time.nodeTime v = true) : s.slip v
      = (s.slippedTo v).reloadFalls s.time.nodeTime (v - s.time.nodeTime).toNat := by
  obtain ⟨hpos, hnear⟩ := before_iff.mp h
  have hdir : s.slipForward v = (true, s) := by
    rw [State.slipForward, if_neg (by omega), h]
  have hbeat : (if reaches s.time.nodeTime (v - s.time.nodeTime).toNat s.time.nextBeat then v + 65536
        else s.time.nextBeat)
      = if (s.time.nextBeat - s.time.nodeTime).toNat ≤ (v - s.time.nodeTime).toNat then v + 65536
        else s.time.nextBeat := by
    simp only [reaches, decide_eq_true_eq]
  rw [State.slip, fallPresent_none hpresent]
  simp only [hdir, if_true, State.slippedTo, ← hbeat]
  rfl

end

/-! ### The reload's falls -/

theorem reloadLoop_stops {s : State} {base : Tick} {span : Nat} (n : Nat)
    (h : s.reloadNext base span = []) : State.reloadLoop n base span s = s := by
  cases n with
  | zero => rfl
  | succ n => simp only [State.reloadLoop, h, State.draw]

theorem reloadFalls_nothing {s : State} {base : Tick} {span : Nat} (h : s.reloadNext base span = []) :
    s.reloadFalls base span = s := reloadLoop_stops _ h

/-- A reload over one deadline. -/
theorem reloadFalls_once {s u : State} {base : Tick} {span : Nat} {d : Deadline}
    (hdraw : s.draw (s.reloadNext base span) = some (d, u))
    (hrest : (u.fall d).reloadNext base span = []) : s.reloadFalls base span = u.fall d := by
  have hloop (n : Nat) : State.reloadLoop (n + 1) base span s = u.fall d := by
    rw [State.reloadLoop, hdraw]
    exact reloadLoop_stops n hrest
  exact hloop _

/-! ### The deadlines that stand, by owner (R6) -/

theorem mem_allStations (k : StationNo) : k ∈ allStations := by
  revert k
  decide

theorem mem_absenceDeadlines {s : State} {d : Deadline} :
    d ∈ s.absenceDeadlines ↔ ∃ k t, (s.stored k).absence = some t ∧ d = .absence k t := by
  simp only [State.absenceDeadlines, List.mem_filterMap, mem_allStations, true_and,
    Option.map_eq_some_iff]
  exact exists_congr fun k => exists_congr fun t => and_congr_right fun _ => eq_comm

theorem mem_deadlines {s : State} (htimed : s.time.timed = true) {d : Deadline} : d ∈ s.deadlines ↔
    d = .beat s.time.nextBeat ∨ (∃ c k, (s.chans.get c).clock = some k ∧ d ∈ clockDeadlines c k) ∨
      (∃ t, s.listenEnd = some t ∧ d = .listenEnd t) ∨
      (∃ e ∈ s.tracker.list, d = .expiry e.expiry) ∨
      (∃ h ∈ s.planner.localHolds, d = .localEnd h.stop) ∨ (∃ h ∈ s.link.holds, d = .sharedEnd h.stop) ∨
      (∃ t, s.link.presence = some t ∧ d = .presence t) ∨
      ∃ k t, (s.stored k).absence = some t ∧ d = .absence k t := by
  have hchan : d ∈ quadIndexes.flatMap s.chanDeadlines ↔
      ∃ c k, (s.chans.get c).clock = some k ∧ d ∈ clockDeadlines c k := by
    simp only [List.mem_flatMap, mem_quadIndexes, true_and, State.chanDeadlines]
    refine exists_congr fun c => ?_
    cases (s.chans.get c).clock <;> simp
  simp only [State.deadlines, htimed, if_true, List.mem_append, List.mem_singleton, hchan,
    Option.mem_toList, Option.map_eq_some_iff, List.mem_map, mem_absenceDeadlines,
    or_assoc, eq_comm]

/-- Every deadline but the beat that the reload passes is one of those listed. -/
structure PassedIn (s : State) (base : Tick) (span : Nat) (ds : List Deadline) : Prop where
  clocks : ∀ c k d, (s.chans.get c).clock = some k → d ∈ clockDeadlines c k →
    reaches base span (s.tickOf d) = true → d ∈ ds
  listen : ∀ t, s.listenEnd = some t → reaches base span t = true → .listenEnd t ∈ ds
  expiries : ∀ e ∈ s.tracker.list, reaches base span e.expiry = true → .expiry e.expiry ∈ ds
  locals : ∀ h ∈ s.planner.localHolds, reaches base span h.stop = true → .localEnd h.stop ∈ ds
  shared : ∀ h ∈ s.link.holds, reaches base span h.stop = true → .sharedEnd h.stop ∈ ds
  presence : ∀ t, s.link.presence = some t → reaches base span t = true → .presence t ∈ ds
  absences : ∀ k t, (s.stored k).absence = some t → reaches base span t = true → .absence k t ∈ ds

theorem PassedIn.of_only {s : State} {v : Tick} {ds : List Deadline} (htimed : s.time.timed = true)
    (h : s.slipPassesOnly v ds) :
    PassedIn (s.slippedTo v) s.time.nodeTime (v - s.time.nodeTime).toNat ds := by
  have hpassed (d : Deadline) (hd : d ∈ s.deadlines) (hbeat : ∀ t, d ≠ .beat t)
      (hr : reaches s.time.nodeTime (v - s.time.nodeTime).toNat (s.tickOf d) = true) : d ∈ ds :=
    (h d hd (of_decide_eq_true hr)).resolve_left (hbeat _)
  have hmem {d : Deadline} := mem_deadlines htimed (d := d)
  refine ⟨fun c k d hk hd hr => ?_, fun t ht hr => ?_, fun e he hr => ?_, fun l hl hr => ?_,
    fun l hl hr => ?_, fun t ht hr => ?_, fun k t hk hr => ?_⟩
  · refine hpassed d (hmem.mpr (.inr (.inl ⟨c, k, hk, hd⟩))) (fun t he => ?_) hr
    simp [he, clockDeadlines] at hd
  · exact hpassed _ (hmem.mpr (.inr (.inr (.inl ⟨t, ht, rfl⟩)))) (fun _ => nofun) hr
  · obtain ⟨e0, he0, rfl⟩ := List.mem_map.mp he
    exact hpassed _ (hmem.mpr (.inr (.inr (.inr (.inl ⟨e0, he0, rfl⟩))))) (fun _ => nofun) hr
  · exact hpassed _ (hmem.mpr (.inr (.inr (.inr (.inr (.inl ⟨l, hl, rfl⟩)))))) (fun _ => nofun) hr
  · exact hpassed _ (hmem.mpr (.inr (.inr (.inr (.inr (.inr (.inl ⟨l, hl, rfl⟩))))))) (fun _ => nofun) hr
  · exact hpassed _ (hmem.mpr (.inr (.inr (.inr (.inr (.inr (.inr (.inl ⟨t, ht, rfl⟩)))))))) (fun _ => nofun)
      hr
  · exact hpassed _ (hmem.mpr (.inr (.inr (.inr (.inr (.inr (.inr (.inr ⟨k, t, hk, rfl⟩))))))))
      (fun _ => nofun) hr

/-! ### What comes next at a reload, by owner (R12, R122, R126, R138) -/

section
variable {s : State} {base : Tick} {span : Nat} {ds : List Deadline}

/-- The next events of a reload beside those of the channels. -/
def State.otherNext (s : State) (base : Tick) (span : Nat) : List Deadline :=
  ((s.listenEnd.filter (reaches base span)).map Deadline.listenEnd).toList
  ++ ((s.tracker.list.find? fun e => reaches base span e.expiry).map (.expiry ·.expiry)).toList
  ++ (s.planner.localHolds.filter fun h => reaches base span h.stop).map (.localEnd ·.stop)
  ++ (s.link.holds.filter fun h => reaches base span h.stop).map (.sharedEnd ·.stop)
  ++ ((s.link.presence.filter (reaches base span)).map Deadline.presence).toList
  ++ (s.absenceDeadlines.filter fun d => reaches base span (s.tickOf d)).take 1

theorem reloadNext_eq (s : State) (base : Tick) (span : Nat) : s.reloadNext base span
    = quadIndexes.filterMap (s.reloadEvent base span) ++ s.otherNext base span := by
  simp only [State.reloadNext, State.otherNext, List.append_assoc]

theorem PassedIn.noListen (h : PassedIn s base span ds) (hds : ∀ t, .listenEnd t ∉ ds) :
    s.listenEnd.filter (reaches base span) = none := by
  cases hl : s.listenEnd with
  | none => rfl
  | some t => rw [Option.filter_some, if_neg (fun hr => hds _ (h.listen t hl hr))]

theorem PassedIn.noExpiry (h : PassedIn s base span ds) (hds : ∀ t, .expiry t ∉ ds) :
    (s.tracker.list.find? fun e => reaches base span e.expiry) = none :=
  List.find?_eq_none.mpr fun e he hr => hds _ (h.expiries e he hr)

theorem PassedIn.noLocal (h : PassedIn s base span ds) (hds : ∀ t, .localEnd t ∉ ds) :
    (s.planner.localHolds.filter fun h => reaches base span h.stop) = [] :=
  List.filter_eq_nil_iff.mpr fun l hl hr => hds _ (h.locals l hl hr)

theorem PassedIn.noShared (h : PassedIn s base span ds) (hds : ∀ t, .sharedEnd t ∉ ds) :
    (s.link.holds.filter fun h => reaches base span h.stop) = [] :=
  List.filter_eq_nil_iff.mpr fun l hl hr => hds _ (h.shared l hl hr)

theorem PassedIn.noPresence (h : PassedIn s base span ds) (hds : ∀ t, .presence t ∉ ds) :
    s.link.presence.filter (reaches base span) = none := by
  cases hl : s.link.presence with
  | none => rfl
  | some t => rw [Option.filter_some, if_neg (fun hr => hds _ (h.presence t hl hr))]

theorem PassedIn.noAbsence (h : PassedIn s base span ds) (hds : ∀ k t, .absence k t ∉ ds) :
    (s.absenceDeadlines.filter fun d => reaches base span (s.tickOf d)) = [] := by
  refine List.filter_eq_nil_iff.mpr fun d hd hr => ?_
  obtain ⟨k, t, hk, rfl⟩ := mem_absenceDeadlines.mp hd
  exact hds _ _ (h.absences k t hk hr)

theorem reloadEvent_none {c : Chan} (h : ∀ k, (s.chans.get c).clock = some k →
    ∀ d ∈ clockDeadlines c k, reaches base span (s.tickOf d) = false) :
    s.reloadEvent base span c = none := by
  cases hk : (s.chans.get c).clock with
  | none => simp only [State.reloadEvent, hk]
  | some k =>
    have hticks := h k hk
    simp only [clockDeadlines, List.forall_mem_cons, State.tickOf] at hticks
    obtain ⟨hstart, hdeadline, hbuild, -⟩ := hticks
    simp only [State.reloadEvent, hk, hstart, hdeadline, hbuild, Bool.false_eq_true, and_false, if_false]

theorem PassedIn.noClock (h : PassedIn s base span ds)
    (hds : ∀ c k, ∀ d ∈ clockDeadlines c k, d ∉ ds) :
    quadIndexes.filterMap (s.reloadEvent base span) = [] :=
  List.filterMap_eq_nil_iff.mpr fun c _ => reloadEvent_none fun k hk d hd =>
    Bool.eq_false_iff.mpr fun hr => hds c k d hd (h.clocks c k d hk hd hr)

theorem clockDeadlines_kind {c : Chan} {k : PeriodClock} {d : Deadline} (hd : d ∈ clockDeadlines c k) :
    ∃ n, d = .start ⟨c, n⟩ ∨ d = .deliver ⟨c, n⟩ ∨ d = .buildStart ⟨c, n⟩ := by
  simp only [clockDeadlines, List.mem_cons, List.not_mem_nil, or_false] at hd
  obtain rfl | rfl | rfl := hd
  · exact ⟨_, .inl rfl⟩
  · exact ⟨_, .inr (.inl rfl)⟩
  · exact ⟨_, .inr (.inr rfl)⟩

/-- No event of a channel is one of a single deadline of another owner. -/
theorem clockDeadlines_not_other {d0 : Deadline}
    (h : ∀ m, d0 ≠ .start m ∧ d0 ≠ .deliver m ∧ d0 ≠ .buildStart m) (c : Chan) (k : PeriodClock) :
    ∀ d ∈ clockDeadlines c k, d ∉ [d0] := by
  intro d hd hin
  obtain ⟨n, hn⟩ := clockDeadlines_kind hd
  obtain ⟨hstart, hdeliver, hbuild⟩ := h ⟨c, n⟩
  rw [List.mem_singleton.mp hin] at hn
  obtain hn | hn | hn := hn
  · exact hstart hn
  · exact hdeliver hn
  · exact hbuild hn

/-- A reload that passes nothing more has nothing to do. -/
theorem PassedIn.reloadNext_nil (h : PassedIn s base span []) : s.reloadNext base span = [] := by
  rw [reloadNext_eq, h.noClock (fun _ _ _ _ => List.not_mem_nil), State.otherNext,
    h.noListen (fun _ => List.not_mem_nil), h.noExpiry (fun _ => List.not_mem_nil),
    h.noLocal (fun _ => List.not_mem_nil), h.noShared (fun _ => List.not_mem_nil),
    h.noPresence (fun _ => List.not_mem_nil), h.noAbsence (fun _ _ => List.not_mem_nil)]
  rfl

/-- When only events of a channel are passed, no other owner has one. -/
theorem PassedIn.otherNext_nil {c : Chan} {k : PeriodClock}
    (h : PassedIn s base span (clockDeadlines c k)) : s.otherNext base span = [] := by
  rw [State.otherNext, h.noListen (by simp [clockDeadlines]), h.noExpiry (by simp [clockDeadlines]),
    h.noLocal (by simp [clockDeadlines]), h.noShared (by simp [clockDeadlines]),
    h.noPresence (by simp [clockDeadlines]), h.noAbsence (by simp [clockDeadlines])]
  rfl

end

/-! ### After a fall -/

/-- Beside the falls nothing comes to stand within the reload. -/
structure FewerStand (base : Tick) (span : Nat) (s t : State) : Prop where
  timed : t.time.timed = s.time.timed := by rfl
  clocks : ∀ c, (t.chans.get c).clock = (s.chans.get c).clock := by intro; rfl
  record : t.inForce = s.inForce := by rfl
  listen : ∀ x, t.listenEnd = some x → s.listenEnd = some x := by intro _ h; exact h
  expiries : t.tracker.list ⊆ s.tracker.list := by exact List.Subset.refl _
  locals : t.planner.localHolds ⊆ s.planner.localHolds := by exact List.Subset.refl _
  shared : t.link.holds ⊆ s.link.holds := by exact List.Subset.refl _
  presence : ∀ x, t.link.presence = some x →
    s.link.presence = some x ∨ reaches base span x = false := by intro _ h; exact .inl h
  absences : ∀ k x, (t.stored k).absence = some x → (s.stored k).absence = some x := by
    intro _ _ h; exact h

section
variable {s t u : State} {base : Tick} {span : Nat} {ds : List Deadline} {d : Deadline}

theorem tickOf_congr (h : t.inForce = s.inForce) (d : Deadline) : t.tickOf d = s.tickOf d := by
  cases d <;> simp only [State.tickOf, State.buildTick, State.deadlineTick, State.startTick, State.part, h]

theorem PassedIn.fewer (h : PassedIn s base span ds) (hf : FewerStand base span s t) :
    PassedIn t base span ds where
  clocks c k d hk hd hr := h.clocks c k d ((hf.clocks c).symm.trans hk) hd (tickOf_congr hf.record d ▸ hr)
  listen x hx := h.listen x (hf.listen x hx)
  expiries e he := h.expiries e (hf.expiries he)
  locals l hl := h.locals l (hf.locals hl)
  shared l hl := h.shared l (hf.shared hl)
  presence x hx hr := by
    obtain hx | hno := hf.presence x hx
    · exact h.presence x hx hr
    · cases hno.symm.trans hr
  absences k x hx := h.absences k x (hf.absences k x hx)

theorem PassedIn.gone (h : PassedIn t base span [d]) (htimed : t.time.timed = true)
    (hgone : d ∉ t.deadlines) : PassedIn t base span [] := by
  have hnot {d' : Deadline} (hstands : d' ∈ t.deadlines) (hin : d' ∈ [d]) : d' ∈ ([] : List Deadline) :=
    absurd (List.mem_singleton.mp hin ▸ hstands) hgone
  have hmem {d' : Deadline} := (mem_deadlines htimed (d := d')).mpr
  refine ⟨fun c k d hk hd hr => ?_, fun x hx hr => ?_, fun e he hr => ?_, fun l hl hr => ?_,
    fun l hl hr => ?_, fun x hx hr => ?_, fun k x hk hr => ?_⟩
  · exact hnot (hmem (.inr (.inl ⟨c, k, hk, hd⟩))) (h.clocks c k d hk hd hr)
  · exact hnot (hmem (.inr (.inr (.inl ⟨x, hx, rfl⟩)))) (h.listen x hx hr)
  · exact hnot (hmem (.inr (.inr (.inr (.inl ⟨e, he, rfl⟩))))) (h.expiries e he hr)
  · exact hnot (hmem (.inr (.inr (.inr (.inr (.inl ⟨l, hl, rfl⟩)))))) (h.locals l hl hr)
  · exact hnot (hmem (.inr (.inr (.inr (.inr (.inr (.inl ⟨l, hl, rfl⟩))))))) (h.shared l hl hr)
  · exact hnot (hmem (.inr (.inr (.inr (.inr (.inr (.inr (.inl ⟨x, hx, rfl⟩)))))))) (h.presence x hx hr)
  · exact hnot (hmem (.inr (.inr (.inr (.inr (.inr (.inr (.inr ⟨k, x, hk, rfl⟩))))))))
      (h.absences k x hk hr)

/-- One deadline falls, and nothing else is passed. -/
theorem reloadFalls_single (hp : PassedIn s base span [d])
    (hdraw : s.draw (s.reloadNext base span) = some (d, u)) (hf : FewerStand base span s (u.fall d))
    (htimed : s.time.timed = true) (hgone : d ∉ (u.fall d).deadlines) :
    s.reloadFalls base span = u.fall d :=
  reloadFalls_once hdraw ((hp.fewer hf).gone (hf.timed.trans htimed) hgone).reloadNext_nil

theorem draw_same {l : List Deadline} (hall : ∀ x ∈ l, x = d) (hne : l ≠ []) :
    ∃ k, s.draw l = some (d, { s with free := k }) := by
  match l with
  | [] => exact absurd rfl hne
  | [a] => exact ⟨s.free, by rw [hall a List.mem_cons_self]; rfl⟩
  | a :: b :: r =>
    refine ⟨s.free + 1, ?_⟩
    have hget : (a :: b :: r).getD (Config.freeChoice s.free % (r.length + 2)) a = d := by
      have hlt : Config.freeChoice s.free % (r.length + 2) < (a :: b :: r).length :=
        Nat.mod_lt _ (Nat.zero_lt_succ _)
      rw [List.getD_eq_getElem _ _ hlt]
      exact hall _ (List.getElem_mem hlt)
    rw [State.draw, hget]

end

end Sys2Proof.Machine
end

section
/-! SUPPORT. One deadline of a single owner passed over by a slip (1.1, 7.5, 7.6, 8.3). -/

namespace Sys2Proof.Machine

-- One proof after another: side by side, as many as stand here need more threads than the check gives.
set_option Elab.async false

/-! ### A deadline that stands, by its kind -/

section
variable {s : State} (htimed : s.time.timed = true)
include htimed

theorem listenEnd_stands (t : Tick) : .listenEnd t ∈ s.deadlines ↔ s.listenEnd = some t := by
  simp [mem_deadlines htimed, clockDeadlines]

theorem expiry_stands (t : Tick) : .expiry t ∈ s.deadlines ↔ ∃ e ∈ s.tracker.list, e.expiry = t := by
  simp [mem_deadlines htimed, clockDeadlines, eq_comm]

theorem localEnd_stands (t : Tick) :
    .localEnd t ∈ s.deadlines ↔ ∃ h ∈ s.planner.localHolds, h.stop = t := by
  simp [mem_deadlines htimed, clockDeadlines, eq_comm]

theorem sharedEnd_stands (t : Tick) : .sharedEnd t ∈ s.deadlines ↔ ∃ h ∈ s.link.holds, h.stop = t := by
  simp [mem_deadlines htimed, clockDeadlines, eq_comm]

theorem presence_stands (t : Tick) : .presence t ∈ s.deadlines ↔ s.link.presence = some t := by
  simp [mem_deadlines htimed, clockDeadlines]

theorem absence_stands (k : StationNo) (t : Tick) :
    .absence k t ∈ s.deadlines ↔ (s.stored k).absence = some t := by
  simp [mem_deadlines htimed, clockDeadlines, eq_comm]

end

/-! ### The single fall -/

section
variable {s : State} {base t : Tick} {span : Nat}

theorem reload_listen (hp : PassedIn s base span [.listenEnd t]) (htimed : s.time.timed = true)
    (hlife : s.life = .listen) (hend : s.listenEnd = some t) (hr : reaches base span t = true) :
    s.reloadFalls base span = s.fallListenEnd := by
  have hnext : s.reloadNext base span = [.listenEnd t] := by
    rw [reloadNext_eq, hp.noClock (clockDeadlines_not_other fun _ => ⟨nofun, nofun, nofun⟩),
      State.otherNext, hp.noExpiry (by simp), hp.noLocal (by simp), hp.noShared (by simp),
      hp.noPresence (by simp), hp.noAbsence (by simp), hend, Option.filter_some, if_pos hr]
    rfl
  have hrecord : s.fallListenEnd.inForce = s.inForce := by
    simp only [State.inForce, hlife, show s.fallListenEnd.life = .serving from rfl,
      show s.fallListenEnd.accepted = s.accepted from rfl]
    cases s.accepted <;> rfl
  refine reloadFalls_single (d := .listenEnd t) (u := s) hp (by rw [hnext]; rfl)
    { record := hrecord, listen := fun _ h => nomatch h } htimed fun hstands => ?_
  exact nomatch (listenEnd_stands (s := s.fallListenEnd) htimed t).mp hstands

theorem reload_shared (hp : PassedIn s base span [.sharedEnd t]) (htimed : s.time.timed = true)
    (hstands : ∃ h ∈ s.link.holds, h.stop = t) (hr : reaches base span t = true) :
    ∃ k, s.reloadFalls base span = ({ s with free := k } : State).fallSharedEnd t := by
  have hnext : s.reloadNext base span
      = (s.link.holds.filter fun h => reaches base span h.stop).map (.sharedEnd ·.stop) := by
    rw [reloadNext_eq, hp.noClock (clockDeadlines_not_other fun _ => ⟨nofun, nofun, nofun⟩),
      State.otherNext, hp.noListen (by simp), hp.noExpiry (by simp), hp.noLocal (by simp),
      hp.noPresence (by simp), hp.noAbsence (by simp)]
    simp
  obtain ⟨k, hdraw⟩ : ∃ k, s.draw (s.reloadNext base span) = some (.sharedEnd t, { s with free := k }) := by
    rw [hnext]
    refine draw_same (fun x hx => ?_) fun hnil => ?_
    · obtain ⟨h, hh, rfl⟩ := List.mem_map.mp hx
      obtain ⟨hmem, hreach⟩ := List.mem_filter.mp hh
      exact List.mem_singleton.mp (hp.shared h hmem hreach)
    · obtain ⟨h, hmem, rfl⟩ := hstands
      exact List.filter_eq_nil_iff.mp (List.map_eq_nil_iff.mp hnil) h hmem hr
  refine ⟨k, reloadFalls_single hp hdraw { shared := List.filter_subset_self _ } htimed fun hstill => ?_⟩
  obtain ⟨h, hmem, hstop⟩ := (sharedEnd_stands (s := State.fallSharedEnd { s with free := k } t) htimed
    t).mp hstill
  exact of_decide_eq_true (List.mem_filter.mp hmem).2 hstop

theorem reload_local (hp : PassedIn s base span [.localEnd t]) (htimed : s.time.timed = true)
    (hstands : ∃ h ∈ s.planner.localHolds, h.stop = t) (hr : reaches base span t = true) :
    ∃ k, s.reloadFalls base span = ({ s with free := k } : State).fallLocalEnd t := by
  have hnext : s.reloadNext base span
      = (s.planner.localHolds.filter fun h => reaches base span h.stop).map (.localEnd ·.stop) := by
    rw [reloadNext_eq, hp.noClock (clockDeadlines_not_other fun _ => ⟨nofun, nofun, nofun⟩),
      State.otherNext, hp.noListen (by simp), hp.noExpiry (by simp), hp.noShared (by simp),
      hp.noPresence (by simp), hp.noAbsence (by simp)]
    simp
  obtain ⟨k, hdraw⟩ : ∃ k, s.draw (s.reloadNext base span) = some (.localEnd t, { s with free := k }) := by
    rw [hnext]
    refine draw_same (fun x hx => ?_) fun hnil => ?_
    · obtain ⟨h, hh, rfl⟩ := List.mem_map.mp hx
      obtain ⟨hmem, hreach⟩ := List.mem_filter.mp hh
      exact List.mem_singleton.mp (hp.locals h hmem hreach)
    · obtain ⟨h, hmem, rfl⟩ := hstands
      exact List.filter_eq_nil_iff.mp (List.map_eq_nil_iff.mp hnil) h hmem hr
  refine ⟨k, reloadFalls_single hp hdraw { locals := List.filter_subset_self _ } htimed fun hstill => ?_⟩
  obtain ⟨h, hmem, hstop⟩ := (localEnd_stands (s := State.fallLocalEnd { s with free := k } t) htimed
    t).mp hstill
  exact of_decide_eq_true (List.mem_filter.mp hmem).2 hstop

theorem markAbsent_stored (s : State) (k j : StationNo) : (s.markAbsent k).stored j
    = if k = j then .absent else s.stored j := stored_setRoster s k j .absent

theorem reload_absence {k : StationNo} (hp : PassedIn s base span [.absence k t])
    (htimed : s.time.timed = true) (hstands : (s.stored k).absence = some t)
    (hr : reaches base span t = true) : s.reloadFalls base span = s.markAbsent k := by
  have hnext : s.reloadNext base span = [.absence k t] := by
    rw [reloadNext_eq, hp.noClock (clockDeadlines_not_other fun _ => ⟨nofun, nofun, nofun⟩),
      State.otherNext, hp.noListen (by simp), hp.noExpiry (by simp), hp.noLocal (by simp),
      hp.noShared (by simp), hp.noPresence (by simp)]
    have hin : .absence k t ∈ s.absenceDeadlines.filter fun d => reaches base span (s.tickOf d) :=
      List.mem_filter.mpr ⟨mem_absenceDeadlines.mpr ⟨k, t, hstands, rfl⟩, hr⟩
    have hall : ∀ d ∈ s.absenceDeadlines.filter (fun d => reaches base span (s.tickOf d)),
        d = .absence k t := by
      intro d hd
      obtain ⟨hmem, hreach⟩ := List.mem_filter.mp hd
      obtain ⟨k', t', hk, rfl⟩ := mem_absenceDeadlines.mp hmem
      exact List.mem_singleton.mp (hp.absences k' t' hk hreach)
    cases hl : s.absenceDeadlines.filter fun d => reaches base span (s.tickOf d) with
    | nil => rw [hl] at hin; cases hin
    | cons a l =>
      rw [hl] at hall
      rw [hall a List.mem_cons_self]
      rfl
  have habsent (j : StationNo) (x : Tick) (hx : ((s.markAbsent k).stored j).absence = some x) :
      k ≠ j ∧ (s.stored j).absence = some x := by
    rw [markAbsent_stored] at hx
    split at hx
    · cases hx
    · exact ⟨‹_›, hx⟩
  refine reloadFalls_single (d := .absence k t) (u := s) hp (by rw [hnext]; rfl)
    { absences := fun j x hx => (habsent j x hx).2 } htimed fun hstill => ?_
  exact (habsent k t ((absence_stands (s := s.markAbsent k) htimed k t).mp hstill)).1 rfl

end

end Sys2Proof.Machine
end

section
/-! SUPPORT. The presence timer and an expiry passed over by a slip (7.6, 8.3). -/

namespace Sys2Proof.Machine

-- One proof after another: side by side, as many as stand here need more threads than the check gives.
set_option Elab.async false

/-! ### The presence timer (R124) -/

/-- A PRESENCE queued leaves the holds and the roster. -/
theorem queuePresence_link (s : State) : s.queuePresence.link.holds = s.link.holds ∧
    s.queuePresence.link.roster = s.link.roster := by
  unfold State.queuePresence
  split
  · exact ⟨rfl, rfl⟩
  · split
    · exact ⟨rfl, rfl⟩
    · unfold State.enqueue
      split <;> exact ⟨rfl, rfl⟩

theorem nextPresence_steps (t v : Tick) : ((v - t).toNat / 262144 + 1) * 262144
    ≤ (v - t).toNat + 262144 ∧ (v - t).toNat < ((v - t).toNat / 262144 + 1) * 262144 := by
  omega

/-- The timer moves past node time by whole intervals, and by the fewest. -/
theorem nextPresence_after (t v : Tick) : 0 < (nextPresence t v - v).toNat ∧
    (nextPresence t v - v).toNat ≤ 262144 ∧ (nextPresence t v - t).toNat % 262144 = 0 := by
  obtain ⟨hle, hlt⟩ := nextPresence_steps t v
  have hdvd : ((v - t).toNat / 262144 + 1) * 262144 % 262144 = 0 := Nat.mul_mod_left _ _
  simp only [nextPresence, show Config.presenceInterval = 262144 from rfl]
  generalize ((v - t).toNat / 262144 + 1) * 262144 = steps at *
  bv_omega

section
variable {s : State} {base t : Tick} {span : Nat}

theorem reload_presence (hp : PassedIn s base span [.presence t]) (htimed : s.time.timed = true)
    (hstands : s.link.presence = some t) (hr : reaches base span t = true)
    (hbeyond : reaches base span (nextPresence t s.time.nodeTime) = false) :
    s.reloadFalls base span = s.fallPresence t := by
  have hnext : s.reloadNext base span = [.presence t] := by
    rw [reloadNext_eq, hp.noClock (clockDeadlines_not_other fun _ => ⟨nofun, nofun, nofun⟩),
      State.otherNext, hp.noListen (by simp), hp.noExpiry (by simp), hp.noLocal (by simp),
      hp.noShared (by simp), hp.noAbsence (by simp), hstands, Option.filter_some, if_pos hr]
    rfl
  obtain ⟨hlife, hstation, haccepted, hlisten, htime, hchans, -, hplanner, -, htracker, -⟩ :=
    queuePresence_frame s
  obtain ⟨hholds, hroster⟩ := queuePresence_link s
  have htimed' : (s.fallPresence t).time.timed = true := (congrArg TimeUnit.timed htime).trans htimed
  have hstored (k : StationNo) : (s.fallPresence t).stored k = s.stored k := by
    simp only [State.stored, State.fallPresence, State.modLink, hroster]
  have hfewer : FewerStand base span s (s.fallPresence t) :=
    { timed := congrArg TimeUnit.timed htime
      clocks := fun c => congrArg (fun q : Quad Channel => (q.get c).clock) hchans
      record := by
        simp only [State.inForce, State.fallPresence, State.modLink, hlife, haccepted]
      listen := fun x hx => hlisten ▸ hx
      expiries := by simp only [State.fallPresence, State.modLink, htracker]; exact List.Subset.refl _
      locals := by simp only [State.fallPresence, State.modLink, hplanner]; exact List.Subset.refl _
      shared := by simp only [State.fallPresence, State.modLink, hholds]; exact List.Subset.refl _
      presence := fun x hx => .inr (Option.some.inj hx ▸ hbeyond)
      absences := fun k x hx => hstored k ▸ hx }
  refine reloadFalls_single (d := .presence t) (u := s) hp (by rw [hnext]; rfl) hfewer htimed
    fun hstill => ?_
  have hsame : nextPresence t s.time.nodeTime = t :=
    Option.some.inj ((presence_stands htimed' t).mp hstill)
  rw [hsame, hr] at hbeyond
  cases hbeyond

end

/-! ### An expiry (R138) -/

/-- The holds, the presence timer and the roster are the same. -/
structure SameWaits (s t : State) : Prop where
  locals : t.planner.localHolds = s.planner.localHolds
  shared : t.link.holds = s.link.holds
  presence : t.link.presence = s.link.presence
  roster : t.link.roster = s.link.roster

theorem SameWaits.refl (s : State) : SameWaits s s := ⟨rfl, rfl, rfl, rfl⟩

theorem SameWaits.trans {s t u : State} (h : SameWaits s t) (h' : SameWaits t u) : SameWaits s u :=
  ⟨h'.locals.trans h.locals, h'.shared.trans h.shared, h'.presence.trans h.presence,
    h'.roster.trans h.roster⟩

/-- What keeps the link keeps its waits. -/
theorem SameWaits.of_link {s t : State} (hlocals : t.planner.localHolds = s.planner.localHolds)
    (hlink : t.link = s.link) : SameWaits s t :=
  ⟨hlocals, congrArg Link.holds hlink, congrArg Link.presence hlink,
    congrArg Link.roster hlink⟩

theorem updFlow_waits (s : State) (tag : Tag) (g : Flow → Flow) : SameWaits s (s.updFlow tag g) :=
  .of_link (updFlow_plan s tag g).localHolds (by simp)

theorem modBids_waits (s : State) (c : Chan) (g : BidCounters → BidCounters) :
    SameWaits s (s.modBids c g) := ⟨rfl, rfl, rfl, rfl⟩

theorem enqueue_waits (s : State) (q : Queued) : SameWaits s (s.enqueue q) := by
  unfold State.enqueue
  split
  · exact .refl s
  · exact ⟨rfl, rfl, rfl, rfl⟩

theorem queueBid_waits (s : State) (tag : Tag) (b : Nat) (c : Chan) :
    SameWaits s (s.queueBid tag b c) := by
  unfold State.queueBid
  split
  · exact modBids_waits s c _
  · exact enqueue_waits s _

theorem addBid_waits (s : State) (tag : Tag) (b : Nat) (c : Chan) : SameWaits s (s.addBid tag b c) := by
  unfold State.addBid
  split
  · exact .refl s
  · have hadded (k : BidCounters → BidCounters) (g : Flow → Flow) :
        SameWaits s ((s.updFlow tag g).modBids c k) :=
      (updFlow_waits s tag g).trans (modBids_waits _ c k)
    dsimp only
    split
    · exact (hadded _ _).trans (queueBid_waits _ tag b c)
    · exact hadded _ _

theorem deferredAtZero_waits (s : State) (tag : Tag) : SameWaits s (s.deferredAtZero tag) := by
  have happlied : SameWaits s (s.applyDeferred tag) := by
    unfold State.applyDeferred
    split
    · exact .refl s
    · split
      · exact .refl s
      · exact ((updFlow_waits s tag _).trans (addBid_waits _ tag _ _)).trans (modBids_waits _ _ _)
  unfold State.deferredAtZero
  split
  · exact .refl s
  · split
    · exact happlied
    · exact .refl s

theorem goneLost_waits (s : State) (e : PendingEntry) : SameWaits s (s.goneLost e) := by
  set w := (s.erasePending e).modOutcomes e.chan fun k => { k with lost := bump k.lost 1 } with hw
  have herased : SameWaits s w := .of_link (by simp [hw]) (by simp [hw])
  unfold State.goneLost
  dsimp only
  rw [← hw]
  split
  · exact herased.trans (.of_link (by simp) (by simp))
  · exact herased.trans ((updFlow_waits w e.tag _).trans (deferredAtZero_waits _ e.tag))

/-- A consumed entry changes of the channels bid counters, and the LOST counter of its own. -/
theorem goneLost_chan (s : State) (e : PendingEntry) (c : Chan) :
    (((s.goneLost e).chans.get c).clock = (s.chans.get c).clock) ∧
    ((s.goneLost e).chans.get e.chan).outcomes.lost = bump (s.chans.get e.chan).outcomes.lost 1 := by
  set w := (s.erasePending e).modOutcomes e.chan fun k => { k with lost := bump k.lost 1 } with hw
  have hclock : (w.chans.get c).clock = (s.chans.get c).clock := by
    by_cases hc : e.chan = c
    · subst hc
      simp [hw, State.modOutcomes, State.modChan]
    · simp [hw, State.modOutcomes, State.modChan, quad_get_set_other _ _ _ _ hc]
  have hlost : (w.chans.get e.chan).outcomes.lost = bump (s.chans.get e.chan).outcomes.lost 1 := by
    simp [hw, State.modOutcomes, State.modChan]
  have hmove (c' : Chan) : { (s.goneLost e).chans.get c' with bids := (w.chans.get c').bids }
      = w.chans.get c' := by
    unfold State.goneLost
    dsimp only
    rw [← hw]
    split
    · simp
    · exact ((updFlow_move w e.tag _).trans (deferredAtZero_move _ e.tag)).chan c'
  exact ⟨((congrArg Channel.clock (hmove c) :)).trans hclock,
    ((congrArg (·.outcomes.lost) (hmove e.chan) :)).trans hlost⟩

section
variable {s : State} {base t : Tick} {span : Nat}

theorem expireEntry_fewer (s : State) (e : PendingEntry) (base : Tick) (span : Nat) :
    FewerStand base span s (s.expireEntry e) := by
  obtain ⟨hlife, hstation, haccepted, hlisten, htime, -⟩ := expireEntry_frame s e
  obtain ⟨hlocals, hshared, hpresence, hroster⟩ := goneLost_waits s e
  have htaken : (s.expireEntry e).planner = (s.goneLost e).planner ∧
      (s.expireEntry e).link = (s.goneLost e).link ∧ (s.expireEntry e).chans = (s.goneLost e).chans ∧
      (s.expireEntry e).tracker = (s.goneLost e).tracker := by
    rw [expireEntry_eq]
    simp only [takeOutcome_frame, and_self]
  obtain ⟨hplanner, hlink, hchans, htracker⟩ := htaken
  have hlist : (s.expireEntry e).tracker.list = s.tracker.list.erase e := by
    rw [htracker, goneLost_tracker]
  exact
    { timed := by rw [htime]
      clocks := fun c => by rw [hchans, (goneLost_chan s e c).1]
      record := by simp only [State.inForce, hlife, haccepted]
      listen := fun x hx => hlisten ▸ hx
      expiries := hlist ▸ List.erase_subset
      locals := by rw [hplanner, hlocals]; exact List.Subset.refl _
      shared := by rw [hlink, hshared]; exact List.Subset.refl _
      presence := fun x hx => .inl (by rwa [hlink, hpresence] at hx)
      absences := fun k x hx => by simpa only [State.stored, hlink, hroster] using hx }

/-- One entry expires at a reload, and nothing else is passed. -/
theorem reload_expiry {e : PendingEntry} (hp : PassedIn s base span [.expiry t])
    (htimed : s.time.timed = true) (hone : s.tracker.list.filter (·.expiry = t) = [e])
    (hr : reaches base span t = true) : s.reloadFalls base span = s.expireEntry e ∧
      (s.expireEntry e).tracker.list = s.tracker.list.filter (·.expiry ≠ t) := by
  have hmem : e ∈ s.tracker.list ∧ e.expiry = t := by
    have hin : e ∈ s.tracker.list.filter (·.expiry = t) := hone ▸ List.mem_singleton_self e
    obtain ⟨hlist, hat⟩ := List.mem_filter.mp hin
    exact ⟨hlist, of_decide_eq_true hat⟩
  obtain ⟨hlisted, hat⟩ := hmem
  have hnext : s.reloadNext base span = [.expiry t] := by
    rw [reloadNext_eq, hp.noClock (clockDeadlines_not_other fun _ => ⟨nofun, nofun, nofun⟩),
      State.otherNext, hp.noListen (by simp), hp.noLocal (by simp), hp.noShared (by simp),
      hp.noPresence (by simp), hp.noAbsence (by simp)]
    cases hfind : s.tracker.list.find? fun e => reaches base span e.expiry with
    | none => exact absurd (hat ▸ hr) (List.find?_eq_none.mp hfind e hlisted)
    | some x =>
      have hreach : reaches base span x.expiry = true := by simpa using List.find?_some hfind
      have hsame := hp.expiries x (List.mem_of_find?_eq_some hfind) hreach
      simpa using List.mem_singleton.mp hsame
  have hlist : (s.expireEntry e).tracker.list = s.tracker.list.filter (·.expiry ≠ t) := by
    rw [expireEntry_eq]
    simp only [takeOutcome_frame, goneLost_tracker]
    rw [erase_of_filter_eq hone]
    simp
  have hfall : s.fall (.expiry t) = s.expireEntry e := by
    change s.expire t = _
    rw [State.expire, hone]
    rfl
  have hfewer : FewerStand base span s (s.fall (.expiry t)) := hfall ▸ expireEntry_fewer s e base span
  refine ⟨?_, hlist⟩
  rw [← hfall]
  refine reloadFalls_single hp (by rw [hnext]; rfl) hfewer htimed fun hstill => ?_
  obtain ⟨x, hx, hxt⟩ := (expiry_stands (hfewer.timed.trans htimed) t).mp hstill
  rw [hfall, hlist] at hx
  exact of_decide_eq_true (List.mem_filter.mp hx).2 hxt

end

end Sys2Proof.Machine
end

section
/-! SUPPORT. Events of one channel passed over by a slip (1.2, 5.1, 5.4). -/

namespace Sys2Proof.Machine

-- One proof after another: side by side, as many as stand here need more threads than the check gives.
set_option Elab.async false

/-! ### One channel's events at a reload (R12) -/

theorem filterMap_only {α β : Type} {f : α → Option β} {a : α} {l : List α} (hl : l.Nodup) (ha : a ∈ l)
    (h : ∀ b, b ≠ a → f b = none) : l.filterMap f = (f a).toList := by
  induction l with
  | nil => cases ha
  | cons b l ih =>
    obtain ⟨hb, hl⟩ := List.nodup_cons.mp hl
    by_cases hba : b = a
    · subst hba
      have hrest : l.filterMap f = [] :=
        List.filterMap_eq_nil_iff.mpr fun x hx => h x fun hxb => hb (hxb ▸ hx)
      rw [List.filterMap_cons, hrest]
      cases f b <;> rfl
    · rw [List.filterMap_cons_none (h b hba)]
      exact ih hl ((List.mem_cons.mp ha).resolve_left (Ne.symm hba))

/-- Only the clock of one channel moves on. -/
structure ClockMoves (base : Tick) (span : Nat) (c : Chan) (s t : State) : Prop where
  record : t.inForce = s.inForce := by rfl
  clocks : ∀ c', c' ≠ c → (t.chans.get c').clock = (s.chans.get c').clock
  others : t.otherNext base span = s.otherNext base span := by rfl

section
variable {s t : State} {base : Tick} {span : Nat} {c : Chan} {k : PeriodClock}

theorem PassedIn.channelNext (hp : PassedIn s base span (clockDeadlines c k))
    (hm : ClockMoves base span c s t) :
    t.reloadNext base span = (t.reloadEvent base span c).toList := by
  have helse (c' : Chan) (hc : c' ≠ c) : t.reloadEvent base span c' = none := by
    refine reloadEvent_none fun k' hk d hd => Bool.eq_false_iff.mpr fun hr => hc ?_
    have hin := hp.clocks c' k' d ((hm.clocks c' hc).symm.trans hk) hd (tickOf_congr hm.record d ▸ hr)
    obtain ⟨n, rfl | rfl | rfl⟩ := clockDeadlines_kind hd <;>
      · simp only [clockDeadlines, List.mem_cons, List.not_mem_nil, Deadline.start.injEq,
          Deadline.deliver.injEq, Deadline.buildStart.injEq, MapName.mk.injEq, reduceCtorEq, or_false,
          false_or] at hin
        exact hin.1
  have hnodup : quadIndexes.Nodup := by decide
  rw [reloadNext_eq, hm.others, hp.otherNext_nil, List.append_nil,
    filterMap_only hnodup (mem_quadIndexes c) helse]

theorem PassedIn.channelEvent (hp : PassedIn s base span (clockDeadlines c k))
    (hm : ClockMoves base span c s t) {d : Deadline} (h : t.reloadEvent base span c = some d) :
    t.reloadNext base span = [d] := by
  rw [hp.channelNext hm, h]
  rfl

theorem PassedIn.channelDone (hp : PassedIn s base span (clockDeadlines c k))
    (hm : ClockMoves base span c s t) (h : t.reloadEvent base span c = none) :
    t.reloadNext base span = [] := by
  rw [hp.channelNext hm, h]
  rfl

/-- The one event of the channel that comes next. -/
theorem reloadLoop_step {d : Deadline} (n : Nat) (h : s.reloadNext base span = [d]) :
    State.reloadLoop (n + 1) base span s = State.reloadLoop n base span (s.fall d) := by
  rw [State.reloadLoop, h]
  rfl

/-- The streams stand together, at a period whose deadlines lie beyond the reload. -/
theorem reloadEvent_beyond (hk : (s.chans.get c).clock = some k) (hsame : k.start = k.deadline)
    (hdeadline : reaches base span (s.deadlineTick ⟨c, k.deadline⟩) = false)
    (hbuild : reaches base span (s.buildTick ⟨c, k.build⟩) = false) :
    s.reloadEvent base span c = none := by
  simp only [State.reloadEvent, hk, hsame, hdeadline, hbuild, ne_eq, not_true_eq_false, false_and,
    if_false, Bool.false_eq_true]

/-! ### The three ways of a channel -/

/-- The station with another record of one channel. -/
def State.withChan (s : State) (c : Chan) (ch : Channel) : State := { s with chans := s.chans.set c ch }

theorem withChan_get (s : State) (c : Chan) (ch : Channel) : (s.withChan c ch).chans.get c = ch :=
  quad_get_set_same _ _ _

theorem withChan_moves (s : State) (c : Chan) (ch : Channel) :
    ClockMoves base span c s (s.withChan c ch) where
  clocks c' hc := by rw [State.withChan, quad_get_set_other _ _ _ _ (Ne.symm hc)]

/-- A period passed over before its build began is skipped (R12 item 2). -/
theorem reload_skip (hp : PassedIn s base span (clockDeadlines c k))
    (hk : (s.chans.get c).clock = some k) (hstart : k.deadline = k.start) (hbuild : k.build = k.start)
    (hpast : reaches base span (s.deadlineTick ⟨c, k.start⟩) = true)
    (hnextBuild : reaches base span (s.buildTick ⟨c, k.start + 1⟩) = false)
    (hnextDeadline : reaches base span (s.deadlineTick ⟨c, k.start + 1⟩) = false) :
    s.reloadFalls base span = s.withChan c { s.chans.get c with
      skipped := bump (s.chans.get c).skipped 1
      clock := some { k with build := k.start + 1, deadline := k.start + 1, start := k.start + 1 } } := by
  have hevent : s.reloadEvent base span c = some (.skip ⟨c, k.start⟩) := by
    simp only [State.reloadEvent, hk, hstart, hbuild, hpast, ne_eq, not_true_eq_false, false_and,
      if_false, if_true]
  have hfall : s.fall (.skip ⟨c, k.start⟩) = s.withChan c { s.chans.get c with
      skipped := bump (s.chans.get c).skipped 1
      clock := some { k with build := k.start + 1, deadline := k.start + 1, start := k.start + 1 } } := by
    simp only [State.fall, State.fallSkip, State.modChan, State.withChan, hk, Option.map_some, if_true]
  have hself : ClockMoves base span c s s := ⟨rfl, fun _ _ => rfl, rfl⟩
  rw [State.reloadFalls, show 64 * (span + 1) = 64 * span + 63 + 1 from rfl,
    reloadLoop_step _ (hp.channelEvent hself hevent), hfall]
  refine reloadLoop_stops _ (hp.channelDone (withChan_moves s c _) ?_)
  exact reloadEvent_beyond (congrArg Channel.clock (withChan_get s c _)) rfl hnextDeadline hnextBuild

/-- A build-start passed over alone has its request queued (R69). -/
theorem reload_buildStart (hp : PassedIn s base span (clockDeadlines c k))
    (hk : (s.chans.get c).clock = some k) (hstart : k.deadline = k.start) (hbuild : k.build = k.start)
    (hpast : reaches base span (s.buildTick ⟨c, k.start⟩) = true)
    (hdeadline : reaches base span (s.deadlineTick ⟨c, k.start⟩) = false)
    (hnextBuild : reaches base span (s.buildTick ⟨c, k.start + 1⟩) = false)
    (hroom : s.planner.requests.length < 4) : s.reloadFalls base span = { s with
      chans := s.chans.set c { s.chans.get c with clock := some { k with build := k.start + 1 } }
      planner := { s.planner with requests := s.planner.requests ++ [⟨c, k.start⟩] } } := by
  have hevent : s.reloadEvent base span c = some (.buildStart ⟨c, k.start⟩) := by
    simp only [State.reloadEvent, hk, hstart, hbuild, hpast, hdeadline, ne_eq, not_true_eq_false,
      false_and, if_false, if_true, Bool.false_eq_true]
  have hself : ClockMoves base span c s s := ⟨rfl, fun _ _ => rfl, rfl⟩
  have hmoved (l : List MapName) (ch : Channel) : ClockMoves base span c s
      { s with chans := s.chans.set c ch, planner := { s.planner with requests := l } } :=
    ⟨rfl, (withChan_moves (base := base) (span := span) s c ch).clocks, rfl⟩
  rw [State.reloadFalls, show 64 * (span + 1) = 64 * span + 63 + 1 from rfl,
    reloadLoop_step _ (hp.channelEvent hself hevent)]
  change State.reloadLoop _ base span (s.fallBuildStart ⟨c, k.start⟩) = _
  rw [fallBuildStart_room k.start hk hroom]
  refine reloadLoop_stops _ (hp.channelDone (hmoved _ _) ?_)
  exact reloadEvent_beyond (s := { s.withChan c _ with planner := _ })
    (congrArg Channel.clock (withChan_get s c _)) hstart.symm (hstart ▸ hdeadline) hnextBuild

/-- A deliver deadline of a map that the planner no longer has only moves the stream on (R71). -/
theorem fallDeliver_gone (hk : (s.chans.get c).clock = some k) {n : Period}
    (hrequests : ⟨c, n⟩ ∉ s.planner.requests) (hbuilding : s.planner.building = none)
    (hsealing : s.planner.sealing = []) : s.fallDeliver ⟨c, n⟩
      = s.withChan c { s.chans.get c with clock := some { k with deadline := n + 1 } } := by
  unfold State.fallDeliver
  rw [modClock_eq hk]
  refine (if_neg (by simpa using hrequests)).trans (deadlineOfMap_none (fun b hb => ?_) ?_)
  · cases hbuilding.symm.trans hb
  · exact List.find?_eq_none.mpr fun x hx => absurd (hsealing ▸ hx) List.not_mem_nil

/-- A period-start at which a map of windows is still queued: it is LATE (R89). -/
theorem fallStart_late_windows {n : Period} {x : TurnMap} (hk : (s.chans.get c).clock = some k)
    (hskips : k.skips = []) (hx : s.mapPort.queue.find? (·.name == ⟨c, n⟩) = some x)
    (hwindows : ∀ e ∈ x.entries, e.kind = .join ∨ e.kind = .bid) : s.fallStart ⟨c, n⟩ =
      { s.withChan c { s.chans.get c with
          clock := some { k with start := n + 1 }
          maps := { (s.chans.get c).maps with late := bump (s.chans.get c).maps.late 1 } } with
        mapPort := { s.mapPort with queue := s.mapPort.queue.filter (·.name ≠ ⟨c, n⟩) }
        port := { s.port with latched := s.latchedWith 0x10#7 } } := by
  have hname : x.name = ⟨c, n⟩ := by simpa using List.find?_some hx
  unfold State.fallStart
  rw [modClock_eq hk, started_unskipped hskips]
  simp only [hx]
  rw [discardLate_windows _ hwindows, hname]
  simp only [quad_get_set_same, quad_set_set, State.withChan]
  rfl

/-- Deliver deadline and period-start of a map of windows in the output queue, passed over (R12). -/
theorem reload_lateWindows {x : TurnMap} (hp : PassedIn s base span (clockDeadlines c k))
    (hk : (s.chans.get c).clock = some k) (hstart : k.deadline = k.start)
    (hbuild : k.build = k.start + 1) (hskips : k.skips = [])
    (hdeadline : reaches base span (s.deadlineTick ⟨c, k.start⟩) = true)
    (hpast : reaches base span (s.startTick ⟨c, k.start⟩) = true)
    (hnextBuild : reaches base span (s.buildTick ⟨c, k.start + 1⟩) = false)
    (hnextDeadline : reaches base span (s.deadlineTick ⟨c, k.start + 1⟩) = false)
    (hrequests : ⟨c, k.start⟩ ∉ s.planner.requests) (hbuilding : s.planner.building = none)
    (hsealing : s.planner.sealing = []) (hx : s.mapPort.queue.find? (·.name == ⟨c, k.start⟩) = some x)
    (hwindows : ∀ e ∈ x.entries, e.kind = .join ∨ e.kind = .bid) : s.reloadFalls base span =
      { s.withChan c { s.chans.get c with
          clock := some { k with deadline := k.start + 1, start := k.start + 1 }
          maps := { (s.chans.get c).maps with late := bump (s.chans.get c).maps.late 1 } } with
        mapPort := { s.mapPort with queue := s.mapPort.queue.filter (·.name ≠ ⟨c, k.start⟩) }
        port := { s.port with latched := s.latchedWith 0x10#7 } } := by
  have hapart : k.start ≠ k.start + 1 := by bv_omega
  have hself : ClockMoves base span c s s := ⟨rfl, fun _ _ => rfl, rfl⟩
  have hevent : s.reloadEvent base span c = some (.deliver ⟨c, k.start⟩) := by
    simp only [State.reloadEvent, hk, hstart, hbuild, hdeadline, hapart, ne_eq, not_true_eq_false,
      false_and, if_false, if_true]
  set k' : PeriodClock := { k with deadline := k.start + 1 } with hk'
  set t := s.withChan c { s.chans.get c with clock := some k' } with ht
  have hclock : (t.chans.get c).clock = some k' := congrArg Channel.clock (withChan_get s c _)
  have hevent' : t.reloadEvent base span c = some (.start ⟨c, k.start⟩) := by
    have hpast' : reaches base span (t.startTick ⟨c, k.start⟩) = true := hpast
    simp only [State.reloadEvent, hclock, hk', hapart, hpast', ne_eq, not_false_eq_true, true_and, if_true]
  have hfall : s.fall (.deliver ⟨c, k.start⟩) = t := fallDeliver_gone hk hrequests hbuilding hsealing
  have hfall' : t.fall (.start ⟨c, k.start⟩) = _ :=
    fallStart_late_windows (s := t) hclock hskips hx hwindows
  rw [State.reloadFalls, show 64 * (span + 1) = 64 * span + 62 + 1 + 1 from rfl,
    reloadLoop_step _ (hp.channelEvent hself hevent), hfall,
    reloadLoop_step _ (hp.channelEvent (withChan_moves s c _) hevent'), hfall']
  have hset (ch : Channel) : t.withChan c ch = s.withChan c ch := by
    simp only [ht, State.withChan, quad_set_set]
  rw [hset, withChan_get]
  have hmoved (ch : Channel) (q : MapPort) (o : Port) : ClockMoves base span c s
      { s.withChan c ch with mapPort := q, port := o } :=
    ⟨rfl, (withChan_moves (base := base) (span := span) s c ch).clocks, rfl⟩
  refine reloadLoop_stops _ (hp.channelDone (hmoved _ _ _) ?_)
  exact reloadEvent_beyond (s := { s.withChan c _ with mapPort := _, port := _ })
    (congrArg Channel.clock (withChan_get s c _)) rfl hnextDeadline (hbuild ▸ hnextBuild)

end

end Sys2Proof.Machine
end

section
/-! SUPPORT. What a valid time word does as a slip (1.1). -/

namespace Sys2Proof.Machine

-- One proof after another: side by side, as many as stand here need more threads than the check gives.
set_option Elab.async false

/-! ### A forward slip (R4, R6) -/

section
variable {s : State} {v : Tick} (hbeat : v.toNat % 65536 = 0) (htimed : s.time.timed = true)
include hbeat htimed

theorem exec_slip_backward (hpresent : ∀ d ∈ s.deadlines, s.tickOf d ≠ s.time.nodeTime)
    (h : before v s.time.nodeTime = true) : exec (.timeWord v (crc16 (be4 v.toNat))) s = .next { s with
      time := { s.time with
        nodeTime := v, slips := bump s.time.slips 1, watch := 0, line := .arriving }
      port := { s.port with latched := s.latchedWith 0x20#7 } } := by
  obtain ⟨hpos, -⟩ := before_iff.mp h
  rw [exec_slip hbeat htimed (by bv_omega), slip_backward hpresent h]

theorem exec_slip_forward (hpresent : ∀ d ∈ s.deadlines, s.tickOf d ≠ s.time.nodeTime)
    (h : before s.time.nodeTime v = true) : exec (.timeWord v (crc16 (be4 v.toNat))) s
      = .next ((s.slippedTo v).reloadFalls s.time.nodeTime (v - s.time.nodeTime).toNat) := by
  obtain ⟨hpos, -⟩ := before_iff.mp h
  rw [exec_slip hbeat htimed (by bv_omega), slip_forward hpresent h]

end

section
variable {s : State} {v : Tick}

theorem reaches_of_passes {t : Tick} (h : s.slipPasses v t) :
    reaches s.time.nodeTime (v - s.time.nodeTime).toNat t = true := decide_eq_true h

theorem not_reaches_of_passes {t : Tick} (h : ¬ s.slipPasses v t) :
    reaches s.time.nodeTime (v - s.time.nodeTime).toNat t = false := decide_eq_false h

/-- The timer's next tick lies beyond the reload (R124). -/
theorem nextPresence_beyond (t : Tick) (h : before s.time.nodeTime v = true) :
    reaches s.time.nodeTime (v - s.time.nodeTime).toNat (nextPresence t v) = false := by
  obtain ⟨-, hnear⟩ := before_iff.mp h
  obtain ⟨hafter, hclose, -⟩ := nextPresence_after t v
  refine decide_eq_false fun hpassed => ?_
  generalize nextPresence t v = p at *
  bv_omega

end

/-- Settles O22: a backward slip passes nothing; a forward one lets the one deadline it passes fall, by
the kind of the deadline. -/
theorem timeWordSlips : Obligations.TimeWordSlips := by
  intro v s hbeat htimed hpresent word u
  refine ⟨exec_slip_backward hbeat htimed hpresent, fun hbefore => ?_⟩
  have hexec : exec word s = .next (u.reloadFalls s.time.nodeTime (v - s.time.nodeTime).toNat) :=
    exec_slip_forward hbeat htimed hpresent hbefore
  have hpassed {ds : List Deadline} (h : s.slipPassesOnly v ds) := PassedIn.of_only htimed h
  have htimed' : u.time.timed = true := htimed
  refine ⟨fun honly => ?nothing, fun c k hclock honly hstart hnextBuild hnextDeadline =>
    ⟨fun hbuild hpast => ?skipped, fun hbuild hpast hdeadline hroom => ?requested,
      fun x hbuild hskips hdeadline hpast hrequests hbuilding hsealing hx hwindows => ?late⟩,
    fun t hlife hend ht honly => ?listen, fun t hstands ht honly => ?shared,
    fun t hstands ht honly => ?own, fun t hstands ht honly => ?presence,
    fun k t hstands ht honly => ?absent, fun e hone ht honly => ?expired⟩
  case nothing => rw [hexec, reloadFalls_nothing (hpassed honly).reloadNext_nil]
  case skipped =>
    rw [hexec, reload_skip (s := u) (hpassed honly) hclock hstart hbuild (reaches_of_passes hpast)
      (not_reaches_of_passes hnextBuild) (not_reaches_of_passes hnextDeadline)]
    rfl
  case requested =>
    rw [hexec, reload_buildStart (s := u) (hpassed honly) hclock hstart hbuild (reaches_of_passes hpast)
      (not_reaches_of_passes hdeadline) (not_reaches_of_passes hnextBuild) hroom]
    rfl
  case late =>
    rw [hexec, reload_lateWindows (s := u) (hpassed honly) hclock hstart hbuild hskips
      (reaches_of_passes hdeadline) (reaches_of_passes hpast) (not_reaches_of_passes hnextBuild)
      (not_reaches_of_passes hnextDeadline) hrequests hbuilding hsealing hx hwindows]
    rfl
  case listen =>
    rw [hexec, reload_listen (hpassed honly) htimed' hlife hend (reaches_of_passes ht)]
    rfl
  case shared =>
    obtain ⟨drawn, hfall⟩ := reload_shared (hpassed honly) htimed' ((sharedEnd_stands htimed t).mp hstands)
      (reaches_of_passes ht)
    exact ⟨drawn, hexec.trans (congrArg Host.Outcome.next hfall)⟩
  case own =>
    obtain ⟨drawn, hfall⟩ := reload_local (hpassed honly) htimed' ((localEnd_stands htimed t).mp hstands)
      (reaches_of_passes ht)
    exact ⟨drawn, hexec.trans (congrArg Host.Outcome.next hfall)⟩
  case presence =>
    obtain ⟨hafter, hclose, hsteps⟩ := nextPresence_after t v
    rw [hexec, reload_presence (s := u) (hpassed honly) htimed' hstands (reaches_of_passes ht)
      (nextPresence_beyond t hbefore)]
    refine ⟨nextPresence t v, hafter, hclose, hsteps, fun hwaits => ?_, fun hnone hfull => ?_,
      fun hnone hroom => ?_⟩
    · rw [State.fallPresence, queuePresence_waiting (s := u) hwaits]
      rfl
    · rw [State.fallPresence, queuePresence_full (s := u) hnone hfull]
      rfl
    · rw [State.fallPresence, queuePresence_room (s := u) hnone hroom]
      rfl
  case absent =>
    rw [hexec, reload_absence (hpassed honly) htimed' ((absence_stands htimed k t).mp hstands)
      (reaches_of_passes ht)]
    rfl
  case expired =>
    have hone' := (filter_expiry_countedTo s e.expiry v).trans (congrArg (List.map _) hone)
    obtain ⟨hfall, hlist⟩ := reload_expiry (s := u) (hpassed honly) htimed' hone' (reaches_of_passes ht)
    refine ⟨_, hexec.trans (congrArg Host.Outcome.next hfall), ?_, hlist, ?_⟩
    · simp only [expireEntry_frame]
    · rw [expireEntry_eq]
      simp only [takeOutcome_frame]
      exact (goneLost_chan u _ e.chan).2

end Sys2Proof.Machine
end
